-- ==== Sys2Proof/Word.lean ====
section
/-! DEFINITION. The word types of the Lorvic 3320 and its fixed numbers (spec/00_scope.md, Units of time). -/

namespace Sys2Proof

/-- A byte on a cell port (R168: bit 7 is the most significant and is sent first). -/
abbrev Byte := BitVec 8

/-- A full second number, an epoch, a check register: 32 bits, arithmetic modulo 2^32. -/
abbrev Word32 := BitVec 32

/-- Ticks in a second (spec/00_scope.md: a second holds 10,000,000 ticks). -/
abbrev ticksPerSecond : Nat := 10000000

/-- The subsecond at which the verdict is rendered (R9). -/
abbrev tickOfVerdict : Nat := 5000000

/-- The largest value of a 32-bit counter of occurrences (spec/00_scope.md, Conventions). -/
abbrev counterMax : Nat := 4294967295

/-- Blocks of the external DRAM (spec/06_cell_store.md: blocks 0..1,048,575). -/
abbrev storeBlocks : Nat := 1048576

/-- Blocks of one clip extent (R93). -/
abbrev extentBlocks : Nat := 1024

end Sys2Proof
end

