-- ==== Sys2Proof/Syntax.lean ====
section
/-! DEFINITION. The steps of the Lorvic 3320: one constructor per row of spec/opcode_table.json, with the operands the
outside gives the row. A control command (STATUS, SITE SET, ...) has no operand here: its origin, address, epoch, tag and
arguments are those of the control cell at the head of the part's own command queue (R159), which State holds. -/

namespace Sys2Proof

/-- The two input ports (spec/00_scope.md, Ports and lines). -/
inductive Port where
  | nf
  | lf
  deriving DecidableEq, Repr

/-- The two causes of a full reset (spec/00_scope.md, Resets). -/
inductive ResetCause where
  | powerOn
  | pin
  deriving DecidableEq, Repr

/-- What an EMITTER_STAGING_READ stages (R104): the nearest queue record not yet staged, or the next cell of a clip member.
The Emitter reads first "the item it will use soonest", so far as the queue shows it; among items that the queue does not tell
apart the row's operand says which (notes/assumptions/4.md). -/
inductive StageChoice where
  | nearestRecord
  | clipCell (clip member : Nat)
  deriving DecidableEq, Repr

/-- The steps of the part, in the order of spec/opcode_table.json. -/
inductive Instr where
  /-- FULL_RESET (R1, R161): by power-on or the reset pin, with the levels of the sixteen site address straps. -/
  | fullReset (cause : ResetCause) (straps : BitVec 16)
  /-- COUNTED_EDGE (R2, R59). -/
  | countedEdge
  /-- EPOCH_COUNTER_TICK (R161). -/
  | epochCounterTick
  /-- SECOND_BOUNDARY (R2). -/
  | secondBoundary
  /-- TIME_CODE_MESSAGE (R5): whether it was received whole with a correct check, and the second number it carries. -/
  | timeCodeMessage (intact : Bool) (second : Word32)
  /-- PULSE (R8). -/
  | pulse
  /-- VERDICT (R9). -/
  | verdict
  /-- FREQUENCY_LOSS (R3, R14). -/
  | frequencyLoss
  /-- FREQUENCY_RETURN (R3, R14). -/
  | frequencyReturn
  /-- HUNT_CANDIDATE (R21): the port and the byte it takes in HUNT. -/
  | huntCandidate (port : Port) (byte : Byte)
  /-- PRESYNC_HEADER (R22): the port and the bytes it takes, up to the eighth of the expected header. -/
  | presyncHeader (port : Port) (bytes : List Byte)
  /-- SYNC_HEADER (R23): the port and the bytes it takes, up to the eighth of the expected header. -/
  | syncHeader (port : Port) (bytes : List Byte)
  /-- CELL_DELIVERY (R23, R25): the port and the payload bytes it takes, up to the last of the cell in progress. -/
  | cellDelivery (port : Port) (bytes : List Byte)
  /-- INTAKE_HEAD_HANDOFF (R28). -/
  | intakeHeadHandoff (port : Port)
  /-- CELL_STORE_ACCESS_END (R98, R102). -/
  | cellStoreAccessEnd
  /-- EMITTER_STAGING_READ (R104). -/
  | emitterStagingRead (choice : StageChoice)
  /-- SLOT_START (R80). -/
  | slotStart
  /-- EVENT_ARMING (R128). -/
  | eventArming
  /-- MONITOR_CELL_SENT (R164). -/
  | monitorCellSent
  /-- UNKNOWN (R160): the taking of a command whose code names no command. -/
  | unknown
  /-- STATUS (R165). -/
  | status
  /-- STATS (R166). -/
  | stats
  /-- RESTART (R167). -/
  | restart
  /-- LANE MAP LOAD (R39). -/
  | laneMapLoad
  /-- LANE MAP READ (R44). -/
  | laneMapRead
  /-- GROUP SET (R47). -/
  | groupSet
  /-- WATCH SET (R49). -/
  | watchSet
  /-- SITE SET (R62). -/
  | siteSet
  /-- CLOCK SET (R17). -/
  | clockSet
  /-- PARTITION (R100). -/
  | partition
  /-- EMIT START (R78). -/
  | emitStart
  /-- EMIT STOP (R79). -/
  | emitStop
  /-- CLIP OPEN (R113). -/
  | clipOpen
  /-- CLIP CLOSE (R114). -/
  | clipClose
  /-- CLIP REMOVE (R115). -/
  | clipRemove
  /-- CLIP QUERY (R116). -/
  | clipQuery
  /-- SPLICE ADD (R126). -/
  | spliceAdd
  /-- SPLICE CANCEL (R133). -/
  | spliceCancel
  /-- SPLICE QUERY (R136). -/
  | spliceQuery
  deriving DecidableEq, Repr

end Sys2Proof
end

