-- ==== Sys2Proof/WellFormed.lean ====
section
/-! DEFINITION. Which operands a row of the table can carry. The meanings are total and do not rest on these checks. -/

namespace Sys2Proof

/-- The bytes between two expected headers and the header itself: 128 + 8 (R22, R23). -/
abbrev headerSpan : Nat := 136

/-- The payload bytes of a cell (spec/00_scope.md). -/
abbrev payloadBytes : Nat := 128

/-- A staging read names a clip 0..63 and a member 0..3 (R104, R106). -/
def StageChoice.wellFormed : StageChoice → Bool
  | .nearestRecord => true
  | .clipCell c m => decide (c < 64) && decide (m < 4)

/-- A row carries at least one byte and no more than its event can take (R22, R23). -/
def Instr.wellFormed : Instr → Bool
  | .presyncHeader _ bytes => decide (0 < bytes.length) && decide (bytes.length ≤ headerSpan)
  | .syncHeader _ bytes => decide (0 < bytes.length) && decide (bytes.length ≤ headerSpan)
  | .cellDelivery _ bytes => decide (0 < bytes.length) && decide (bytes.length ≤ payloadBytes)
  | .emitterStagingRead choice => choice.wellFormed
  | .fullReset _ _ => true
  | .countedEdge => true
  | .epochCounterTick => true
  | .secondBoundary => true
  | .timeCodeMessage _ _ => true
  | .pulse => true
  | .verdict => true
  | .frequencyLoss => true
  | .frequencyReturn => true
  | .huntCandidate _ _ => true
  | .intakeHeadHandoff _ => true
  | .cellStoreAccessEnd => true
  | .slotStart => true
  | .eventArming => true
  | .monitorCellSent => true
  | .unknown => true
  | .status => true
  | .stats => true
  | .restart => true
  | .laneMapLoad => true
  | .laneMapRead => true
  | .groupSet => true
  | .watchSet => true
  | .siteSet => true
  | .clockSet => true
  | .partition => true
  | .emitStart => true
  | .emitStop => true
  | .clipOpen => true
  | .clipClose => true
  | .clipRemove => true
  | .clipQuery => true
  | .spliceAdd => true
  | .spliceCancel => true
  | .spliceQuery => true

end Sys2Proof
end

