-- ==== Sys2Proof/Machine/Cell.lean ====
section
/-! DEFINITION. Cells and their headers as data (R168). The byte positions are in Machine/Formats.lean. -/

namespace Sys2Proof.Machine

/-- The four cell kinds (R168). -/
inductive Kind where
  | data
  | fill
  | control
  | timing
  deriving DecidableEq, Repr, Inhabited

/-- The fields of a cell header (R168). The marker byte is always 0xB5 and the header check follows from the rest. -/
structure Header where
  lane : BitVec 10
  kind : Kind
  start : Bool
  safe : Bool
  disc : Bool
  zero : Bool
  count : BitVec 6
  tag : BitVec 2
  sub : BitVec 24
  deriving DecidableEq, Repr, Inhabited

/-- A cell: header and payload; the payload of a whole cell is 128 bytes (spec/00_scope.md). -/
structure Cell where
  header : Header
  payload : List Byte
  deriving DecidableEq, Repr, Inhabited

/-- A time: second and subsecond (spec/00_scope.md, Units of time). -/
structure Time where
  sec : Word32
  sub : Nat
  deriving DecidableEq, Repr, Inhabited

/-- A second and a slot: a target (R69) or a finish time (R132). -/
structure SlotTime where
  sec : Word32
  slot : Nat
  deriving DecidableEq, Repr, Inhabited

/-- The origin of a command: NETWORK when its cell arrived on NF, LOCAL when it arrived on LF (R30, R31). -/
inductive Origin where
  | network
  | localFeed
  deriving DecidableEq, Repr, Inhabited

end Sys2Proof.Machine
end

