-- ==== Sys2Proof/Config.lean ====
section
/-! DEFINITION. The free values: what the spec calls undefined or leaves to either of two orders. None has a body, so a claim
about the model holds whatever they are (notes/assumptions/1.md, 2.md, 3.md, 36.md). -/

namespace Sys2Proof

/-- The epoch counter at a power-on: "Its value at power-on is undefined" (R161). Applied to State's draw count. -/
opaque Config.powerOnEpochCounter : Nat → Word32

/-- Whether the forced end of R148 is taken before the emitter's change at a boundary that calls for both: "The two are
taken in either order" (R153). Applied to State's draw count. -/
opaque Config.forcedEndFirst : Nat → Bool

/-- Where the arming of a boundary stands among what ends IN events at it (R130). -/
inductive ArmingPlace where
  | beforeEnds
  | betweenEnds
  | afterEnds
  deriving DecidableEq, Repr, Inhabited

/-- Where the arming of a boundary that also ends an IN event is taken: "An arming taken at the same instant as another event that
reaches the same group or clip is taken in either order" (R130). Applied to State's draw count. -/
opaque Config.armingPlace : Nat → ArmingPlace

/-- What a block that nothing has written holds, read as a clip cell: "the DRAM contents are undefined" (R105). Applied to
State's draw count and the block. -/
opaque Config.undefinedBlock : Nat → Nat → Machine.Cell

end Sys2Proof
end

