-- ==== Sys2Proof/Machine/State.lean ====
section
/-! DEFINITION. Everything the spec gives the part to hold, block by block, as plain data, and its value right after a full
reset. Each docstring names the rule that gives the item. -/

namespace Sys2Proof.Machine

/-! ### Site Clock (R1) -/

/-- The states of the clock machine (R1). -/
inductive ClockState where
  | unlocked
  | acquiring
  | locked
  | holdover
  deriving DecidableEq, Repr, Inhabited

/-- The two phase errors of a pulse record that holds pulses (R8). -/
structure PhaseErrors where
  /-- The first pulse's e. -/
  first : Int
  /-- Of the pulses filed, the e of least magnitude, the earlier kept on a tie. -/
  nearest : Int
  deriving DecidableEq, Repr

/-- The items of the Site Clock, in the order of the table of R1. A pulse record is `none` when empty (R8). -/
structure SiteClock where
  subsecond : Nat
  second : Word32
  secondValid : Bool
  state : ClockState
  good : Nat
  bad : Nat
  mismatch : Nat
  hold : Nat
  freqPresent : Bool
  announced : Option Word32
  passed : Option PhaseErrors
  coming : Option PhaseErrors
  verdictTaken : Bool
  window : Nat
  limit : Nat
  deriving DecidableEq, Repr

/-! ### Intakes (R19) -/

/-- The delineation states (R19). -/
inductive Delineation where
  | hunt
  | presync
  | sync
  deriving DecidableEq, Repr, Inhabited

/-- The counters of R33. The Local Intake's `continuityErrors`, `notMapped`, `badTiming` and `lateTiming` and the Network
Intake's `kindNotPermitted` stay 0: R33 gives those counters to the other port alone. -/
structure PortCounters where
  goodCells : Nat
  headerErrors : Nat
  syncLosses : Nat
  kindLane : Nat
  kindNotPermitted : Nat
  badStamps : Nat
  overflows : Nat
  continuityErrors : Nat
  notMapped : Nat
  badTiming : Nat
  lateTiming : Nat
  deriving DecidableEq, Repr

/-- The items of one intake, in the order of the table of R19. -/
structure Intake where
  delineation : Delineation
  /-- The header window: the last eight bytes taken (R19). -/
  window : List Byte
  /-- The number of bytes taken: the position, in the stream, of the next byte (R19, Delineation). -/
  taken : Nat
  /-- The expected header position (R19). -/
  expected : Option Nat
  presyncCount : Option Nat
  badRun : Nat
  /-- The cell in progress: a header and 0..127 payload bytes (R19). -/
  inProgress : Option Cell
  fifo : List Cell
  counters : PortCounters
  deriving DecidableEq, Repr

/-! ### Lane Classifier (R35, R45, R48) -/

/-- One entry of the lane map: its action and the fields the action uses (R35). -/
inductive LaneEntry where
  | drop
  | pass (output : Nat)
  | member (output group position : Nat)
  deriving DecidableEq, Repr, Inhabited

/-- The group states (R45). -/
inductive GroupState where
  | idle
  | spliced
  deriving DecidableEq, Repr, Inhabited

/-- A record of the group table (R45). -/
structure GroupRecord where
  localAllowed : Bool
  state : GroupState
  active : Option Nat
  deriving DecidableEq, Repr, Inhabited

/-- An entry of the watch list: the watched lane and its five counters (R48). -/
structure WatchEntry where
  lane : Option Nat
  arrived : Nat
  contErrors : Nat
  queued : Nat
  emitted : Nat
  discarded : Nat
  deriving DecidableEq, Repr, Inhabited

/-! ### Timing Plan unit (R52) -/

/-- A timing plan: hold H, slots per second K, effective second S_eff (R52). -/
structure Plan where
  hold : Nat
  slots : Nat
  eff : Word32
  deriving DecidableEq, Repr, Inhabited

/-- The items of the Timing Plan unit (R52). -/
structure PlanUnit where
  current : Option Plan
  pending : Option Plan
  staleTimer : Nat
  stale : Bool
  /-- The site trim T in ticks (R52). -/
  trim : Int
  deriving DecidableEq, Repr

/-! ### Emission Queue and Emitter (R72, R76) -/

/-- Group and member of a record of a MEMBER lane (R72). -/
structure GroupPlace where
  group : Nat
  position : Nat
  deriving DecidableEq, Repr, Inhabited

/-- A queue record (R72). `place` is absent for a PASS lane. -/
structure Record where
  inLane : Nat
  outLane : Nat
  place : Option GroupPlace
  nominal : Time
  target : SlotTime
  start : Bool
  safe : Bool
  disc : Bool
  payload : List Byte
  deriving DecidableEq, Repr, Inhabited

/-- The emitter states (R76). -/
inductive EmitterState where
  | stopped
  | muted
  | running
  deriving DecidableEq, Repr, Inhabited

/-- The pending changes of the emitter (R76). -/
inductive PendingChange where
  | none
  | start
  | stop
  deriving DecidableEq, Repr, Inhabited

/-- The eight emitter counters (R90). -/
structure EmitterCounters where
  fillEmitted : Nat
  lateEmitted : Nat
  tooLate : Nat
  orderClamps : Nat
  queueFull : Nat
  notRunning : Nat
  clipShort : Nat
  clipTruncated : Nat
  deriving DecidableEq, Repr

/-- The items of the Emitter, in the order of the table of R76, and the emission port's line. -/
structure Emitter where
  state : EmitterState
  change : PendingChange
  /-- The current second c. -/
  second : Word32
  /-- The slot index i. -/
  slot : Nat
  /-- K_c. -/
  kNow : Option Nat
  /-- K_prev. -/
  kPrev : Option Nat
  lateAllowance : Nat
  /-- The output continuity counters, one per lane 0..1023. -/
  outCounts : Vector (BitVec 6) 1024
  counters : EmitterCounters
  /-- The cell of the slot most recently begun, as it goes out on EM (R80): absent before the first slot. -/
  line : Option Cell
  deriving DecidableEq, Repr

/-! ### Splice Switch (R139) -/

/-- The member phases (R139). -/
inductive Phase where
  | waiting
  | clip
  | back
  deriving DecidableEq, Repr, Inhabited

/-- The switch state of one group (R139). -/
structure SwitchState where
  pIn : Option Time
  pOut : Option Time
  phases : Vector Phase 4
  lanes : Vector (Option Nat) 4
  deriving DecidableEq, Repr

/-! ### Cell Store (R94) -/

/-- A cell on its way into the clip partition, with the clip and member its lane names (R108). -/
structure ClipWrite where
  clip : Nat
  position : Nat
  cell : Cell
  deriving DecidableEq, Repr, Inhabited

/-- What a block holds: one queue record or one clip cell of 136 bytes (R93). -/
inductive BlockData where
  | record (r : Record)
  | clipCell (c : Cell)
  deriving DecidableEq, Repr

/-- What the Emitter stages (R104): the record in an emission block, or a numbered cell of a clip member. -/
inductive StagedItem where
  | record (block : Nat)
  | clipCell (clip position number : Nat)
  deriving DecidableEq, Repr

/-- A read the Emitter asks for: the item and its block (R104). -/
structure ReadRequest where
  item : StagedItem
  block : Nat
  deriving DecidableEq, Repr

/-- The access the store is serving (R94, R98). A read whose item has been dropped is no longer `wanted` (R104). -/
inductive Access where
  | write (block : Nat) (data : BlockData)
  | read (request : ReadRequest) (wanted : Bool)
  deriving DecidableEq, Repr

/-- A copy in the staging buffer (R104); `content` is absent when the block read had never been written. -/
structure StagedCopy where
  item : StagedItem
  content : Option BlockData
  deriving DecidableEq, Repr

/-- The items of the Cell Store controller (R94), the DRAM behind it (R93) and the staging buffer (R104). -/
structure CellStore where
  setting : Nat
  free : List Nat
  ringHead : Nat
  ringTail : Nat
  access : Option Access
  /-- Waiting request of the Emitter. -/
  readWaiting : Option ReadRequest
  /-- Waiting request of the Network Intake: the record its head has been formed into. -/
  nfWaiting : Option Record
  /-- Waiting request of the Local Intake. -/
  lfWaiting : Option ClipWrite
  /-- The written blocks, block numbers strictly rising. -/
  dram : List (Nat × BlockData)
  staged : List StagedCopy
  deriving DecidableEq, Repr

/-! ### Clip Table (R106) -/

/-- The clip states (R106). -/
inductive ClipState where
  | empty
  | loading
  | ready
  | cued
  | playing
  deriving DecidableEq, Repr, Inhabited

/-- The items a clip record holds for each member (R106). -/
structure ClipMember where
  count : Nat
  extents : List Nat
  fill : Option Nat
  cursor : Nat
  deriving DecidableEq, Repr, Inhabited

/-- A clip record (R106). -/
structure ClipRecord where
  state : ClipState
  memberCount : Option Nat
  origin : Option Origin
  /-- The running check: the register of R110. -/
  check : Word32
  lost : Nat
  members : Vector ClipMember 4
  deriving DecidableEq, Repr

/-! ### Splice Scheduler (R122) -/

/-- The event states (R122). -/
inductive EventState where
  | free
  | pending
  | armed
  | onAir
  | done
  | failed
  | cancelled
  deriving DecidableEq, Repr, Inhabited

/-- The ending causes (R122). -/
inductive EndingCause where
  | outTime
  | earlyReturn
  | muted
  | stopped
  | command
  | restart
  deriving DecidableEq, Repr, Inhabited

/-- The fail reasons (R122). -/
inductive FailReason where
  | noLeader
  | groupBusy
  | clipNotReady
  | missed
  deriving DecidableEq, Repr, Inhabited

/-- Origin, group, clip, in-time and out-time of an event (R122): they are present together, from the SPLICE ADD that
writes them (R127). -/
structure SpliceOrder where
  origin : Origin
  group : Nat
  clip : Nat
  inTime : Time
  outTime : Time
  deriving DecidableEq, Repr, Inhabited

/-- An event record (R122). -/
structure EventRecord where
  state : EventState
  order : Option SpliceOrder
  returnRequested : Bool
  returnTime : Option Time
  pIn : Option Time
  pOut : Option Time
  cause : Option EndingCause
  reason : Option FailReason
  replaced : Nat
  short : Nat
  truncated : Nat
  finish : Option SlotTime
  deriving DecidableEq, Repr, Inhabited

/-! ### Control Unit (R157) -/

/-- A command in the command queue: its origin and the control cell's payload (R30, R31, R32). -/
structure Command where
  origin : Origin
  payload : List Byte
  deriving DecidableEq, Repr, Inhabited

/-- A cell of the monitor queue: what of its header is fixed when it is created or joins, and its payload (R164). -/
structure MonitorCell where
  disc : Bool
  tag : BitVec 2
  sub : BitVec 24
  payload : List Byte
  deriving DecidableEq, Repr, Inhabited

/-- The items of the Control Unit (R157) and the monitor port. -/
structure ControlUnit where
  queue : List Command
  site : BitVec 16
  epoch : Word32
  epochCounter : Word32
  monitor : List MonitorCell
  noticesLost : Bool
  gapOwed : Bool
  /-- The monitor continuity counter: the count of the next cell sent on MO (R157), which the head of the monitor queue is
  while the queue holds one. -/
  count : BitVec 6
  controlDrops : Nat
  /-- The cell most recently sent whole on MO (R164): absent before the first. -/
  line : Option Cell
  deriving DecidableEq, Repr

/-! ### The whole part -/

/-- The whole part, block by block (spec/00_scope.md, Block diagram). `draws` and `pending` are the model's own: how many
free values have been drawn (notes/assumptions/3.md), and the commands that wait for `step`, first in, first out. -/
structure State where
  clock : SiteClock
  nf : Intake
  lf : Intake
  laneMap : Vector LaneEntry 1022
  /-- The input continuity table (R19). -/
  continuity : Vector (Option (BitVec 6)) 1022
  groups : Vector GroupRecord 16
  watch : Vector WatchEntry 16
  plan : PlanUnit
  /-- The emission queue, oldest record first (R72). -/
  queue : List Record
  emitter : Emitter
  switch : Vector SwitchState 16
  /-- The discontinuity-owed set, one flag for each lane (R139). -/
  owed : Vector Bool 1024
  store : CellStore
  clips : Vector ClipRecord 64
  /-- The clip-lanes-out-of-range counter (R106). -/
  clipLanesOut : Nat
  /-- The unexpected-clip-cells counter (R106). -/
  clipUnexpected : Nat
  events : Vector EventRecord 32
  /-- The pending order (R125). -/
  order : List Nat
  control : ControlUnit
  draws : Nat
  pending : List Instr
  deriving DecidableEq, Repr

/-- Why a step stops with a fault. -/
inductive Fault where
  /-- Raised by CELL_STORE_ACCESS_END alone, when the access in progress names a block of 1,048,576 or more: the store has
  no such block (R93). No run reaches it. SAFE: the model stops where the spec gives no store. -/
  | absentBlock (block : Nat)
  deriving DecidableEq, Repr

/-- Why a step is refused. -/
inductive Refusal where
  /-- Raised by an arm of `exec` for a row that has no meaning yet. No arm raises it. SAFE: the model stops. -/
  | notModelled (mnemonic : String)
  deriving DecidableEq, Repr

/-! ### Full reset values -/

/-- The Site Clock after a full reset (R1, fourth column). -/
def SiteClock.afterReset : SiteClock where
  subsecond := 0
  second := 0
  secondValid := false
  state := .unlocked
  good := 0
  bad := 0
  mismatch := 0
  hold := 0
  freqPresent := false
  announced := none
  passed := none
  coming := none
  verdictTaken := false
  window := 10
  limit := 300

/-- Port counters at 0 (R33). -/
def PortCounters.zero : PortCounters := ⟨0, 0, 0, 0, 0, 0, 0, 0, 0, 0, 0⟩

/-- An intake after a full reset (R19, fourth column). -/
def Intake.afterReset : Intake where
  delineation := .hunt
  window := []
  taken := 0
  expected := none
  presyncCount := none
  badRun := 0
  inProgress := none
  fifo := []
  counters := .zero

/-- A group record after a full reset (R45). -/
def GroupRecord.afterReset : GroupRecord := ⟨false, .idle, none⟩

/-- A watch entry after a full reset (R48). -/
def WatchEntry.afterReset : WatchEntry := ⟨none, 0, 0, 0, 0, 0⟩

/-- The Timing Plan unit after a full reset (R52, fourth column). -/
def PlanUnit.afterReset : PlanUnit := ⟨none, none, 0, false, 0⟩

/-- Emitter counters at 0 (R90). -/
def EmitterCounters.zero : EmitterCounters := ⟨0, 0, 0, 0, 0, 0, 0, 0⟩

/-- The Emitter after a full reset (R76). -/
def Emitter.afterReset : Emitter where
  state := .stopped
  change := .none
  second := 0
  slot := 0
  kNow := none
  kPrev := none
  lateAllowance := 16
  outCounts := Vector.replicate 1024 0
  counters := .zero
  line := none

/-- A clear switch state: its value after a full reset and after the end of a splice (R139). -/
def SwitchState.clear : SwitchState :=
  ⟨none, none, Vector.replicate 4 .waiting, Vector.replicate 4 none⟩

/-- The cell store after a full reset: setting 0, extents 0..767 free in ascending order, nothing in progress (R94, R105). -/
def CellStore.afterReset : CellStore where
  setting := 0
  free := List.range 768
  ringHead := 0
  ringTail := 0
  access := none
  readWaiting := none
  nfWaiting := none
  lfWaiting := none
  dram := []
  staged := []

/-- A clip member of an EMPTY clip (R106). -/
def ClipMember.blank : ClipMember := ⟨0, [], none, 0⟩

/-- The initial value of the running check (R110). -/
abbrev checkStart : Word32 := 0xFFFFFFFF#32

/-- An EMPTY clip record (R106, fourth column). -/
def ClipRecord.blank : ClipRecord := ⟨.empty, none, none, checkStart, 0, Vector.replicate 4 .blank⟩

/-- A FREE event record (R122, last column). -/
def EventRecord.blank : EventRecord := ⟨.free, none, false, none, none, none, none, none, 0, 0, 0, none⟩

/-- The Control Unit after a full reset (R157) with the straps' address, the new epoch and the epoch counter, which runs on. -/
def ControlUnit.afterReset (straps : BitVec 16) (epoch epochCounter : Word32) : ControlUnit where
  queue := []
  site := straps
  epoch := epoch
  epochCounter := epochCounter
  monitor := []
  noticesLost := false
  gapOwed := false
  count := 0
  controlDrops := 0
  line := none

/-- The part after a full reset, given the straps, the new epoch, the epoch counter and the model's own two fields. -/
def State.afterReset (straps : BitVec 16) (epoch epochCounter : Word32) (draws : Nat) (pending : List Instr) : State where
  clock := .afterReset
  nf := .afterReset
  lf := .afterReset
  laneMap := Vector.replicate 1022 .drop
  continuity := Vector.replicate 1022 none
  groups := Vector.replicate 16 .afterReset
  watch := Vector.replicate 16 .afterReset
  plan := .afterReset
  queue := []
  emitter := .afterReset
  switch := Vector.replicate 16 .clear
  owed := Vector.replicate 1024 false
  store := .afterReset
  clips := Vector.replicate 64 .blank
  clipLanesOut := 0
  clipUnexpected := 0
  events := Vector.replicate 32 .blank
  order := []
  control := .afterReset straps epoch epochCounter
  draws := draws
  pending := pending

/-- The part right after reset. The spec gives no strap levels and calls the epoch counter's power-on value undefined (R161):
DESIGN CHOICE, UNSAFE, the straps at 0 and the counter at 0, from which R161 draws the epoch 1 (notes/assumptions/1.md);
the draw count starts at 0 (notes/assumptions/3.md) and no command waits. -/
def State.reset : State := .afterReset 0 1 0 0 []

end Sys2Proof.Machine
end

