-- ==== Sys2Proof/Machine/Formats.lean ====
section
/-! DEFINITION. Byte layouts: header bytes and the two checks (R20, R110, R168), item widths and presence bytes (R169), and
the codes of the enumerated items (R169). -/

namespace Sys2Proof.Machine

/-! ### Multi-byte fields, most significant byte first -/

/-- One byte of a number (R169). -/
def bytes1 (n : Nat) : List Byte := [BitVec.ofNat 8 n]

/-- Two bytes of a number, most significant first (R169). -/
def bytes2 (n : Nat) : List Byte := [BitVec.ofNat 8 (n / 256), BitVec.ofNat 8 n]

/-- Four bytes of a number, most significant first (R169). -/
def bytes4 (n : Nat) : List Byte :=
  [BitVec.ofNat 8 (n / 16777216), BitVec.ofNat 8 (n / 65536), BitVec.ofNat 8 (n / 256), BitVec.ofNat 8 n]

/-- A flag: one byte, 0 or 1 (R169). -/
def bytesFlag (b : Bool) : List Byte := bytes1 b.toNat

/-- The site trim: four bytes, two's complement (R169). -/
def bytesTrim (t : Int) : List Byte := bytes4 (BitVec.ofInt 32 t).toNat

/-- A full time: second, then subsecond (R169). -/
def bytesTime (t : Time) : List Byte := bytes4 t.sec.toNat ++ bytes4 t.sub

/-- A second and a slot (R169). -/
def bytesSlotTime (t : SlotTime) : List Byte := bytes4 t.sec.toNat ++ bytes2 t.slot

/-- A plan: H, K, S_eff (R169). -/
def bytesPlan (p : Plan) : List Byte := bytes4 p.hold ++ bytes2 p.slots ++ bytes4 p.eff.toNat

/-- A possibly absent item: its presence byte, then the item, or as many zero bytes as it has (R169). -/
def bytesOption {α : Type} (width : Nat) (layout : α → List Byte) : Option α → List Byte
  | none => 0 :: List.replicate width 0
  | some a => 1 :: layout a

/-- A payload: the bytes given, then 0 up to 128 bytes (R169). -/
def padPayload (bytes : List Byte) : List Byte := (bytes ++ List.replicate 128 0).take 128

/-! ### Reading fields of a payload -/

/-- The byte at a position of a payload, as a number (R169). -/
def read1 (p : List Byte) (at_ : Nat) : Nat := (p.getD at_ 0).toNat

/-- Two bytes of a payload (R169). -/
def read2 (p : List Byte) (at_ : Nat) : Nat := read1 p at_ * 256 + read1 p (at_ + 1)

/-- Four bytes of a payload (R169). -/
def read4 (p : List Byte) (at_ : Nat) : Nat := read2 p at_ * 65536 + read2 p (at_ + 2)

/-- A second number in a payload (R169). -/
def readSecond (p : List Byte) (at_ : Nat) : Word32 := BitVec.ofNat 32 (read4 p at_)

/-- A site trim in a payload: four bytes, two's complement (R169). -/
def readTrim (p : List Byte) (at_ : Nat) : Int := (readSecond p at_).toInt

/-! ### The two checks -/

/-- One bit of the header check register: shift left, and add x^2 + x + 1 when a bit leaves (R20). -/
def headerCheckBit (r : BitVec 8) : BitVec 8 := if r.msb then (r <<< 1) ^^^ 0x07#8 else r <<< 1

/-- One byte enters the header check, most significant bit first (R20). -/
def headerCheckByte (r : BitVec 8) (b : Byte) : BitVec 8 := Nat.repeat headerCheckBit 8 (r ^^^ b)

/-- The header check of a byte sequence: generator x^8 + x^2 + x + 1, initial value 0, no inversion (R20). -/
def headerCheck (bytes : List Byte) : BitVec 8 := bytes.foldl headerCheckByte 0

/-- One bit of the running check register, generator 0x04C11DB7 (R110). -/
def clipCheckBit (r : Word32) : Word32 := if r.msb then (r <<< 1) ^^^ 0x04C11DB7#32 else r <<< 1

/-- One byte enters the running check, most significant bit first, no reflection (R110). -/
def clipCheckByte (r : Word32) (b : Byte) : Word32 := Nat.repeat clipCheckBit 8 (r ^^^ (b.setWidth 32 <<< 24))

/-- A payload enters the running check in the order of its bytes (R110). -/
def clipCheck (r : Word32) (payload : List Byte) : Word32 := payload.foldl clipCheckByte r

/-! ### Headers -/

/-- The marker byte of every header (R20). -/
abbrev markerByte : Byte := 0xB5#8

/-- The kind codes (R168). -/
def Kind.code : Kind → BitVec 2
  | .data => 0
  | .fill => 1
  | .control => 2
  | .timing => 3

/-- Every two-bit value names a kind (R168). -/
def kindOfCode (k : BitVec 2) : Kind :=
  if k = 0 then .data else if k = 1 then .fill else if k = 2 then .control else .timing

/-- One bit of a flag. -/
def flagBit (b : Bool) : BitVec 1 := BitVec.ofBool b

/-- Bytes 1 to 6 of a header as one number, byte 1 the most significant (R168). -/
def Header.fields (h : Header) : BitVec 48 :=
  h.lane ++ h.kind.code ++ flagBit h.start ++ flagBit h.safe ++ flagBit h.disc ++ flagBit h.zero ++ h.count ++ h.tag ++ h.sub

/-- The first seven bytes of a header (R168). -/
def Header.firstSeven (h : Header) : List Byte :=
  [markerByte, h.fields.extractLsb' 40 8, h.fields.extractLsb' 32 8, h.fields.extractLsb' 24 8,
    h.fields.extractLsb' 16 8, h.fields.extractLsb' 8 8, h.fields.extractLsb' 0 8]

/-- The eight bytes of a header, its check last (R168). -/
def Header.bytes (h : Header) : List Byte := h.firstSeven ++ [headerCheck h.firstSeven]

/-- The header that bytes 1 to 6 of an eight-byte header carry (R168). -/
def headerOfFields (w : BitVec 48) : Header where
  lane := w.extractLsb' 38 10
  kind := kindOfCode (w.extractLsb' 36 2)
  start := w.getLsbD 35
  safe := w.getLsbD 34
  disc := w.getLsbD 33
  zero := w.getLsbD 32
  count := w.extractLsb' 26 6
  tag := w.extractLsb' 24 2
  sub := w.extractLsb' 0 24

/-- A header read from its bytes: `none` when it is bad, that is when it is not eight bytes that open with the marker byte
and close with the header check of the first seven (R20). -/
def readHeader (bytes : List Byte) : Option Header :=
  match bytes with
  | [b0, b1, b2, b3, b4, b5, b6, b7] =>
    if b0 = markerByte ∧ b7 = headerCheck [b0, b1, b2, b3, b4, b5, b6] then
      some (headerOfFields (b1 ++ b2 ++ b3 ++ b4 ++ b5 ++ b6))
    else none
  | _ => none

/-- The 136 bytes of a cell in the order they cross a port (R168). -/
def Cell.bytes (c : Cell) : List Byte := c.header.bytes ++ c.payload

/-! ### Codes (R169) -/

/-- Clock state codes (R169). -/
def ClockState.code : ClockState → Nat
  | .unlocked => 0
  | .acquiring => 1
  | .locked => 2
  | .holdover => 3

/-- Delineation state codes (R169). -/
def Delineation.code : Delineation → Nat
  | .hunt => 0
  | .presync => 1
  | .sync => 2

/-- Emitter state codes (R169). -/
def EmitterState.code : EmitterState → Nat
  | .stopped => 0
  | .muted => 1
  | .running => 2

/-- Pending change codes (R169). -/
def PendingChange.code : PendingChange → Nat
  | .none => 0
  | .start => 1
  | .stop => 2

/-- Group state codes (R169). -/
def GroupState.code : GroupState → Nat
  | .idle => 0
  | .spliced => 1

/-- Clip state codes (R169). -/
def ClipState.code : ClipState → Nat
  | .empty => 0
  | .loading => 1
  | .ready => 2
  | .cued => 3
  | .playing => 4

/-- Origin codes (R169). -/
def Origin.code : Origin → Nat
  | .network => 0
  | .localFeed => 1

/-- Port codes (R169). -/
def portCode : Port → Nat
  | .nf => 0
  | .lf => 1

/-- Event state codes (R169). -/
def EventState.code : EventState → Nat
  | .free => 0
  | .pending => 1
  | .armed => 2
  | .onAir => 3
  | .done => 4
  | .failed => 5
  | .cancelled => 6

/-- Ending cause codes (R169). -/
def EndingCause.code : EndingCause → Nat
  | .outTime => 0
  | .earlyReturn => 1
  | .muted => 2
  | .stopped => 3
  | .command => 4
  | .restart => 5

/-- Fail reason codes (R169). -/
def FailReason.code : FailReason → Nat
  | .noLeader => 0
  | .groupBusy => 1
  | .clipNotReady => 2
  | .missed => 3

/-- Causes of a CLOCK notice (R18). -/
inductive ClockCause where
  | good
  | bad
  | missing
  | timeCode
  | frequencyLost
  | setting
  deriving DecidableEq, Repr

/-- CLOCK cause codes (R169). -/
def ClockCause.code : ClockCause → Nat
  | .good => 0
  | .bad => 1
  | .missing => 2
  | .timeCode => 3
  | .frequencyLost => 4
  | .setting => 5

/-- Causes of a SYNC notice (R24). -/
inductive SyncCause where
  | gained
  | lost
  deriving DecidableEq, Repr

/-- SYNC cause codes (R169). -/
def SyncCause.code : SyncCause → Nat
  | .gained => 0
  | .lost => 1

/-- Causes of a PLAN notice (R61). -/
inductive PlanCause where
  | firstPlan
  | pending
  | planChange
  | stale
  | fresh
  deriving DecidableEq, Repr

/-- PLAN cause codes (R169). -/
def PlanCause.code : PlanCause → Nat
  | .firstPlan => 0
  | .pending => 1
  | .planChange => 2
  | .stale => 3
  | .fresh => 4

/-- Causes of an EMITTER notice (R91). -/
inductive EmitterCause where
  | start
  | stop
  | stepGained
  | stepLost
  | restart
  deriving DecidableEq, Repr

/-- EMITTER cause codes (R169). -/
def EmitterCause.code : EmitterCause → Nat
  | .start => 0
  | .stop => 1
  | .stepGained => 2
  | .stepLost => 3
  | .restart => 4

/-- Notice kinds (R163). -/
inductive NoticeKind where
  | clock
  | sync
  | plan
  | emitter
  | splice
  deriving DecidableEq, Repr

/-- Notice kind codes (R169). -/
def NoticeKind.code : NoticeKind → Nat
  | .clock => 1
  | .sync => 2
  | .plan => 3
  | .emitter => 4
  | .splice => 5

/-- Results of a command (R162). -/
inductive Result where
  | ok
  | partialLoad
  | badEpoch
  | notPermitted
  | badArgument
  | wrongState
  | inUse
  | overlap
  | tooSoon
  | noEntry
  | notInStep
  | noPlan
  | checkFailed
  | unknown
  deriving DecidableEq, Repr

/-- Result codes (R169). -/
def Result.code : Result → Nat
  | .ok => 0
  | .partialLoad => 1
  | .badEpoch => 2
  | .notPermitted => 3
  | .badArgument => 4
  | .wrongState => 5
  | .inUse => 6
  | .overlap => 7
  | .tooSoon => 8
  | .noEntry => 9
  | .notInStep => 10
  | .noPlan => 11
  | .checkFailed => 12
  | .unknown => 13

/-- Command codes (R169). -/
inductive CommandName where
  | status
  | stats
  | restart
  | laneMapLoad
  | laneMapRead
  | groupSet
  | watchSet
  | siteSet
  | clockSet
  | partition
  | emitStart
  | emitStop
  | clipOpen
  | clipClose
  | clipRemove
  | clipQuery
  | spliceAdd
  | spliceCancel
  | spliceQuery
  deriving DecidableEq, Repr

/-- The catalogue: the command a code names, `none` for every other code (R160, R169). -/
def commandOfCode (code : Nat) : Option CommandName :=
  match code with
  | 0x01 => some .status
  | 0x02 => some .stats
  | 0x03 => some .restart
  | 0x10 => some .laneMapLoad
  | 0x11 => some .laneMapRead
  | 0x12 => some .groupSet
  | 0x13 => some .watchSet
  | 0x20 => some .siteSet
  | 0x21 => some .clockSet
  | 0x22 => some .partition
  | 0x30 => some .emitStart
  | 0x31 => some .emitStop
  | 0x40 => some .clipOpen
  | 0x41 => some .clipClose
  | 0x42 => some .clipRemove
  | 0x43 => some .clipQuery
  | 0x50 => some .spliceAdd
  | 0x51 => some .spliceCancel
  | 0x52 => some .spliceQuery
  | _ => none

/-- The commands taken from network origin only (R160). SPLICE ADD and SPLICE CANCEL are limited by their own checks. -/
def CommandName.networkOnly : CommandName → Bool
  | .status => false
  | .stats => true
  | .restart => true
  | .laneMapLoad => true
  | .laneMapRead => false
  | .groupSet => true
  | .watchSet => true
  | .siteSet => true
  | .clockSet => true
  | .partition => true
  | .emitStart => true
  | .emitStop => true
  | .clipOpen => false
  | .clipClose => false
  | .clipRemove => false
  | .clipQuery => false
  | .spliceAdd => false
  | .spliceCancel => false
  | .spliceQuery => false

/-- The read-only queries, exempt from the epoch check (R160). -/
def CommandName.epochExempt : CommandName → Bool
  | .status => true
  | .laneMapRead => true
  | .clipQuery => true
  | .spliceQuery => true
  | .stats => false
  | .restart => false
  | .laneMapLoad => false
  | .groupSet => false
  | .watchSet => false
  | .siteSet => false
  | .clockSet => false
  | .partition => false
  | .emitStart => false
  | .emitStop => false
  | .clipOpen => false
  | .clipClose => false
  | .clipRemove => false
  | .spliceAdd => false
  | .spliceCancel => false

/-! ### Control payload heads (R169) -/

/-- Record type of a control payload. -/
def Command.recordType (c : Command) : Nat := read1 c.payload 0

/-- Command code of a control payload. -/
def Command.code (c : Command) : Nat := read1 c.payload 1

/-- Tag of a control payload. -/
def Command.tag (c : Command) : Nat := read2 c.payload 2

/-- Site address of a control payload. -/
def Command.address (c : Command) : Nat := read2 c.payload 4

/-- Epoch of a control payload. -/
def Command.epoch (c : Command) : Word32 := readSecond c.payload 6

/-- The broadcast address (R158). -/
abbrev broadcastAddress : Nat := 0xFFFF

/-- The payload of a reply: its head and its data (R162, R169). -/
def replyPayload (c : Command) (result : Result) (epoch : Word32) (site : BitVec 16) (data : List Byte) : List Byte :=
  padPayload (bytes1 2 ++ bytes1 c.code ++ bytes2 c.tag ++ bytes2 site.toNat ++ bytes4 epoch.toNat ++ bytes1 result.code ++
    bytes1 0 ++ data)

/-- The payload of a notice: its head and its data (R163, R169). -/
def noticePayload (kind : NoticeKind) (epoch : Word32) (site : BitVec 16) (data : List Byte) : List Byte :=
  padPayload (bytes1 3 ++ bytes1 kind.code ++ bytes2 0 ++ bytes2 site.toNat ++ bytes4 epoch.toNat ++ bytes2 0 ++ data)

end Sys2Proof.Machine
end

