-- ==== Sys2Proof/Machine/Ops.lean ====
section
/-! DEFINITION. The shared operations over State: table rows, counters, times, the DRAM, the staging buffer, the watch list
and the monitor queue. -/

namespace Sys2Proof.Machine

/-! ### Table rows -/

/-- Row `i` of a table, or `d` where the table has no such row. -/
def rowAt {α : Type} {n : Nat} (v : Vector α n) (i : Nat) (d : α) : α := (v[i]?).getD d

/-- The table with row `i` replaced; unchanged where the table has no such row. -/
def setRow {α : Type} {n : Nat} (v : Vector α n) (i : Nat) (x : α) : Vector α n := v.setIfInBounds i x

/-! ### Counters -/

/-- A 32-bit counter of occurrences increased by `n`: it stays at its maximum (spec/00_scope.md, Conventions). -/
def satAdd (c n : Nat) : Nat := min (c + n) counterMax

/-! ### Second numbers and times (R53, R63, R124) -/

/-- Second `a` is earlier than second `b`: the difference is in 1..2^31, 2^31 itself counting as earlier (R53). -/
def secondEarlier (a b : Word32) : Bool := decide (1 ≤ (b - a).toNat) && decide ((b - a).toNat ≤ 2147483648)

/-- Second `a` is later than second `b` (R53). -/
def secondLater (a b : Word32) : Bool := decide (1 ≤ (a - b).toNat) && decide ((a - b).toNat ≤ 2147483647)

/-- Second `a` is no later than second `b`: earlier or equal (R53). -/
def secondNoLater (a b : Word32) : Bool := secondEarlier a b || decide (a = b)

/-- Time `t` is earlier than time `u` (R124). -/
def Time.earlier (t u : Time) : Bool := secondEarlier t.sec u.sec || (decide (t.sec = u.sec) && decide (t.sub < u.sub))

/-- Time `t` is no later than time `u`: earlier or equal (R124). -/
def Time.noLater (t u : Time) : Bool := secondEarlier t.sec u.sec || (decide (t.sec = u.sec) && decide (t.sub ≤ u.sub))

/-- Time `t` is no earlier than time `u`: its second is later, or the seconds are equal and its subsecond is no smaller. -/
def Time.noEarlier (t u : Time) : Bool := secondLater t.sec u.sec || (decide (t.sec = u.sec) && decide (u.sub ≤ t.sub))

/-- A target or finish time is earlier than another (R73, R127). -/
def SlotTime.earlier (t u : SlotTime) : Bool :=
  secondEarlier t.sec u.sec || (decide (t.sec = u.sec) && decide (t.slot < u.slot))

/-- A time with whole seconds added, modulo 2^32. -/
def Time.addSeconds (t : Time) (n : Nat) : Time := ⟨t.sec + BitVec.ofNat 32 n, t.sub⟩

/-- A time with an offset of less than one second added to its subsecond, with one borrow or carry (R63, R67). -/
def Time.shift (t : Time) (d : Int) : Time :=
  let x := (t.sub : Int) + d
  if x < 0 then ⟨t.sec - 1, (x + 10000000).toNat⟩
  else if 10000000 ≤ x then ⟨t.sec + 1, (x - 10000000).toNat⟩
  else ⟨t.sec, x.toNat⟩

/-- Site time (spec/00_scope.md, Units of time). -/
def State.siteTime (s : State) : Time := ⟨s.clock.second, s.clock.subsecond⟩

/-- Nominal now: site time minus the site trim (R63). -/
def State.nominalNow (s : State) : Time := s.siteTime.shift (-s.plan.trim)

/-- The marker time of the current second: its subsecond 0 minus the trim in force (R63, R131). -/
def State.markerTime (s : State) : Time := Time.shift ⟨s.clock.second, 0⟩ (-s.plan.trim)

/-! ### Rows of the part's tables -/

/-- The lane map entry of an input lane; lanes without an entry are dropped (R35). -/
def State.laneEntry (s : State) (lane : Nat) : LaneEntry := rowAt s.laneMap lane .drop

/-- Record of a group (R45). -/
def State.groupAt (s : State) (g : Nat) : GroupRecord := rowAt s.groups g .afterReset

/-- The group table with one record replaced. -/
def State.setGroup (s : State) (g : Nat) (r : GroupRecord) : State := { s with groups := setRow s.groups g r }

/-- Switch state of a group (R139). -/
def State.switchAt (s : State) (g : Nat) : SwitchState := rowAt s.switch g .clear

/-- The switch states with one replaced. -/
def State.setSwitch (s : State) (g : Nat) (w : SwitchState) : State := { s with switch := setRow s.switch g w }

/-- Record of a clip (R106). -/
def State.clipAt (s : State) (c : Nat) : ClipRecord := rowAt s.clips c .blank

/-- The Clip Table with one record replaced. -/
def State.setClip (s : State) (c : Nat) (r : ClipRecord) : State := { s with clips := setRow s.clips c r }

/-- Record of an event (R122). -/
def State.eventAt (s : State) (e : Nat) : EventRecord := rowAt s.events e .blank

/-- The event table with one record replaced. -/
def State.setEvent (s : State) (e : Nat) (r : EventRecord) : State := { s with events := setRow s.events e r }

/-- What a SPLICE ADD gave an event: present in every event that is not FREE (R127). -/
def EventRecord.given (r : EventRecord) : SpliceOrder := r.order.getD default

/-- Member of a clip record (R106). -/
def ClipRecord.memberAt (r : ClipRecord) (m : Nat) : ClipMember := rowAt r.members m .blank

/-- A clip record with one member replaced. -/
def ClipRecord.setMember (r : ClipRecord) (m : Nat) (x : ClipMember) : ClipRecord :=
  { r with members := setRow r.members m x }

/-- Phase of a member (R139). -/
def SwitchState.phaseAt (w : SwitchState) (m : Nat) : Phase := rowAt w.phases m .waiting

/-- Member output lane (R139). -/
def SwitchState.laneAt (w : SwitchState) (m : Nat) : Option Nat := rowAt w.lanes m none

/-- The intake of a port (R19). -/
def State.intake (s : State) : Port → Intake
  | .nf => s.nf
  | .lf => s.lf

/-- The state with the intake of a port replaced. -/
def State.setIntake (s : State) (p : Port) (x : Intake) : State :=
  match p with
  | .nf => { s with nf := x }
  | .lf => { s with lf := x }

/-- A lane joins the discontinuity-owed set (R150). -/
def State.owe (s : State) (lane : Nat) : State := { s with owed := setRow s.owed lane true }

/-- Whether a lane is in the discontinuity-owed set (R150). -/
def State.owes (s : State) (lane : Nat) : Bool := rowAt s.owed lane false

/-! ### The DRAM -/

/-- The content of a block: `none` for a block nothing has written, whose content is undefined (R105). -/
def dramRead : List (Nat × BlockData) → Nat → Option BlockData
  | [], _ => none
  | (b, d) :: rest, a => if a = b then some d else dramRead rest a

/-- The DRAM with one block written; the block numbers stay strictly rising. -/
def dramWrite : List (Nat × BlockData) → Nat → BlockData → List (Nat × BlockData)
  | [], a, d => [(a, d)]
  | (b, x) :: rest, a, d =>
    if a < b then (a, d) :: (b, x) :: rest
    else if a = b then (a, d) :: rest
    else (b, x) :: dramWrite rest a d

/-- The block numbers of a DRAM strictly rise. -/
def dramRising : List (Nat × BlockData) → Bool
  | [] => true
  | [_] => true
  | (a, _) :: (b, y) :: rest => decide (a < b) && dramRising ((b, y) :: rest)

/-- The canonical form of the DRAM: block numbers strictly rising and each a block of the store (R93). No entry equals what
an unlisted block reads as, since an unlisted block has no content. -/
def Memory.wf (m : List (Nat × BlockData)) : Bool := dramRising m && m.all (fun p => decide (p.1 < storeBlocks))

/-- What a block holds as the part sees it: a write in progress counts as written, since the slots never wait for the
store (R104). -/
def CellStore.content (c : CellStore) (block : Nat) : Option BlockData :=
  match c.access with
  | some (.write b d) => if b = block then some d else dramRead c.dram block
  | _ => dramRead c.dram block

/-! ### The division of the store (R93) -/

/-- Emission blocks E of a partition setting (R93). -/
def emissionBlocks (setting : Nat) : Nat := 262144 - 65536 * setting

/-- Clip extents of a partition setting (R93). -/
def clipExtents (setting : Nat) : Nat := 768 + 64 * setting

/-- The block at an offset of a clip extent (R93). -/
def extentBlock (setting extent offset : Nat) : Nat := emissionBlocks setting + extentBlocks * extent + offset

/-- The block of a member's cell number `k`: at place k / 1,024 of its extent list, offset k mod 1,024 (R96, R118). -/
def clipCellBlock (setting : Nat) (m : ClipMember) (k : Nat) : Nat :=
  extentBlock setting (m.extents.getD (k / extentBlocks) 0) (k % extentBlocks)

/-- The emission block of the record at a place of the queue, counted from the head (R95). -/
def CellStore.recordBlock (c : CellStore) (place : Nat) : Nat := (c.ringHead + place) % emissionBlocks c.setting

/-! ### The staging buffer (R104) -/

/-- Items dropped from the staging buffer: their copies go, a waiting read for one is withdrawn, and a running read for one
is no longer wanted (R104). -/
def CellStore.dropStaged (c : CellStore) (gone : StagedItem → Bool) : CellStore :=
  { c with
    staged := c.staged.filter (fun x => !gone x.item)
    readWaiting := c.readWaiting.filter (fun r => !gone r.item)
    access := match c.access with
      | some (.read r wanted) => some (.read r (wanted && !gone r.item))
      | other => other }

/-- The item is the staged cell of a member of this clip (R104). -/
def StagedItem.ofClip (clip : Nat) : StagedItem → Bool
  | .clipCell c _ _ => decide (c = clip)
  | .record _ => false

/-- The item is a queue record (R104). -/
def StagedItem.isRecord : StagedItem → Bool
  | .record _ => true
  | .clipCell _ _ _ => false

/-! ### The watch list (R50) -/

/-- Every watch entry that names the lane is changed by `f`; the others stay (R48, R50). -/
def State.watchLane (s : State) (lane : Nat) (f : WatchEntry → WatchEntry) : State :=
  { s with watch := s.watch.map (fun w => if w.lane = some lane then f w else w) }

/-- One more cell arrived (R50). -/
def WatchEntry.addArrived (w : WatchEntry) : WatchEntry := { w with arrived := satAdd w.arrived 1 }

/-- One more continuity error (R50). -/
def WatchEntry.addContError (w : WatchEntry) : WatchEntry := { w with contErrors := satAdd w.contErrors 1 }

/-- One more record queued (R50). -/
def WatchEntry.addQueued (w : WatchEntry) : WatchEntry := { w with queued := satAdd w.queued 1 }

/-- One more record emitted (R50). -/
def WatchEntry.addEmitted (w : WatchEntry) : WatchEntry := { w with emitted := satAdd w.emitted 1 }

/-- One more cell or record discarded (R50). -/
def WatchEntry.addDiscarded (w : WatchEntry) : WatchEntry := { w with discarded := satAdd w.discarded 1 }

/-- A list of records is reported to the watch list as discarded, each once (R50). -/
def State.watchDiscards (s : State) (records : List Record) : State :=
  { s with watch := s.watch.map (fun w =>
      { w with discarded := satAdd w.discarded (records.countP (fun r => decide (w.lane = some r.inLane))) }) }

/-! ### The monitor queue (R163, R164) -/

/-- Places of the monitor queue (R157). -/
abbrev monitorPlaces : Nat := 16

/-- A payload joins the monitor queue as a cell: the cell takes the stamp of its creation and the gap-owed flag, which it
clears (R163, R164). -/
def State.joinMonitor (s : State) (payload : List Byte) : State :=
  let cell : MonitorCell :=
    { disc := s.control.gapOwed
      tag := BitVec.ofNat 2 s.clock.second.toNat
      sub := BitVec.ofNat 24 s.clock.subsecond
      payload := payload }
  { s with control := { s.control with monitor := s.control.monitor ++ [cell], gapOwed := false } }

/-- A notice is created: it joins the monitor queue if a place is free; otherwise it is dropped, and the notices-lost and
gap-owed flags become 1 (R163). -/
def State.notify (s : State) (kind : NoticeKind) (data : List Byte) : State :=
  if s.control.monitor.length < monitorPlaces then
    s.joinMonitor (noticePayload kind s.control.epoch s.control.site data)
  else { s with control := { s.control with noticesLost := true, gapOwed := true } }

/-- The reply to a taken command joins the monitor queue with the epoch and site address as they stand (R162). -/
def State.reply (s : State) (c : Command) (result : Result) (data : List Byte) : State :=
  s.joinMonitor (replyPayload c result s.control.epoch s.control.site data)

/-- A monitor cell as it goes out on MO with its continuity count (R164). -/
def MonitorCell.toCell (m : MonitorCell) (count : BitVec 6) : Cell where
  header :=
    { lane := 1023
      kind := .control
      start := true
      safe := false
      disc := m.disc
      zero := false
      count := count
      tag := m.tag
      sub := m.sub }
  payload := m.payload

/-- Site second number, second-valid and subsecond counter, as the notices carry them. -/
def State.stampBytes (s : State) : List Byte :=
  bytes4 s.clock.second.toNat ++ bytesFlag s.clock.secondValid ++ bytes4 s.clock.subsecond

/-! ### Emission port cells (R89) -/

/-- The fill cell: every field 0, 128 zero bytes (R89). -/
def fillCell : Cell where
  header :=
    { lane := 0
      kind := .fill
      start := false
      safe := false
      disc := false
      zero := false
      count := 0
      tag := 0
      sub := 0 }
  payload := List.replicate 128 0

end Sys2Proof.Machine
end

