-- ==== Sys2Proof/Machine/Flags.lean ====
section
/-! DEFINITION. The conditions several rules read: in step (R15), the plan in force (R60), slot starts (R80), lateness (R71),
the set of spliced groups (R46) and group membership (R36). -/

namespace Sys2Proof.Machine

/-- In step: LOCKED, or HOLDOVER with a hold count no greater than the holdover limit, and second-valid 1 (R15). -/
def SiteClock.inStep (c : SiteClock) : Bool :=
  c.secondValid &&
    match c.state with
    | .locked => true
    | .holdover => decide (c.hold ≤ c.limit)
    | .unlocked => false
    | .acquiring => false

/-- The plan in force for a second: the pending plan if its S_eff is no later, otherwise the current plan (R60). At a difference of
exactly 2^31, where "no later" here and "no earlier" of R66 and R68 part (R53), the model takes R60's words (DESIGN CHOICE,
notes/assumptions/32.md). -/
def PlanUnit.inForce (u : PlanUnit) (s : Word32) : Option Plan :=
  match u.pending with
  | some p => if secondNoLater p.eff s then some p else u.current
  | none => u.current

/-- The slot count of a second, absent without a plan (R60). -/
def PlanUnit.slotsFor (u : PlanUnit) (s : Word32) : Option Nat := (u.inForce s).map Plan.slots

/-- The subsecond at which slot `i` of a second of `k` slots begins (R80). -/
def slotStartTick (i k : Nat) : Nat := i * 10000000 / k

/-- The last slot of a second of `k` slots that begins no later than a subsecond (R81). -/
def lastSlotAt (sub k : Nat) : Nat := min (k - 1) (((sub + 1) * k - 1) / 10000000)

/-- How the head of the queue stands to the current slot (R71). -/
inductive Lateness where
  | notDue
  | due (slots : Nat)
  | tooLate
  deriving DecidableEq, Repr

/-- The lateness of a target in slot `i` of second `c`, with the slot counts of this and the previous second (R71). -/
def lateness (c : Word32) (i kNow kPrev : Nat) (t : SlotTime) : Lateness :=
  if t.sec = c then
    if t.slot < kNow then (if t.slot ≤ i then .due (i - t.slot) else .notDue) else .notDue
  else if t.sec = c - 1 then
    if t.slot < kPrev then .due (kPrev - t.slot + i) else .due (i - 1)
  else if secondLater t.sec c then .notDue
  else .tooLate

/-- The input lane that fills a member position of a group (R36). -/
def State.memberLane (s : State) (g m : Nat) : Option Nat :=
  s.laneMap.toList.findIdx? (fun e =>
    match e with
    | .member _ g' m' => decide (g' = g) && decide (m' = m)
    | .drop => false
    | .pass _ => false)

/-- The set of SPLICED groups as a number, group g at bit g (R46, R169). -/
def State.splicedSet (s : State) : Nat :=
  (List.range 16).foldl (fun acc g => if (s.groupAt g).state = .spliced then acc + 2 ^ g else acc) 0

/-- Capacity of the emission queue (R74). -/
def CellStore.capacity (c : CellStore) : Nat := emissionBlocks c.setting

end Sys2Proof.Machine
end

