-- ==== Sys2Proof/Machine/Store.lean ====
section
/-! DEFINITION. The emission queue's joins and departures (R72 to R75, R95), the clip cell's grant (R97, R109), the release of
extents (R99) and the arbiter (R102, R103). -/

namespace Sys2Proof.Machine

/-- The emitter counters changed by `f` (R90). -/
def State.countEm (s : State) (f : EmitterCounters → EmitterCounters) : State :=
  { s with emitter := { s.emitter with counters := f s.emitter.counters } }

/-- The head of an intake FIFO leaves it (R28). -/
def State.popFifo (s : State) (p : Port) : State :=
  s.setIntake p { s.intake p with fifo := (s.intake p).fifo.tail }

/-- The first 64 places of the queue are staged (R104). -/
abbrev stagingPlaces : Nat := 64

/-- A record with its target clamped to the tail record's where it is earlier (R73, decision 3). -/
def clampTo (queue : List Record) (r : Record) : Record :=
  match queue.getLast? with
  | some last => if r.target.earlier last.target then { r with target := last.target } else r
  | none => r

/-- The target of a record is earlier than the tail record's (R73, decision 3). -/
def clampNeeded (queue : List Record) (r : Record) : Bool :=
  match queue.getLast? with
  | some last => r.target.earlier last.target
  | none => false

/-- A record joins the queue at the ring tail, and its write begins (R73, R95); while the queue held fewer than 64 records
its copy is staged as it is written (R104). -/
def State.joinQueue (s : State) (r : Record) : State :=
  let joined := clampTo s.queue r
  let counted :=
    if clampNeeded s.queue r then s.countEm (fun c => { c with orderClamps := satAdd c.orderClamps 1 }) else s
  let block := s.store.ringTail
  ({ counted with
      queue := s.queue ++ [joined]
      store := { s.store with
        ringTail := (block + 1) % s.store.capacity
        access := some (.write block (.record joined))
        staged :=
          if s.queue.length < stagingPlaces then s.store.staged ++ [⟨.record block, some (.record joined)⟩]
          else s.store.staged } } : State).watchLane r.inLane WatchEntry.addQueued

/-- The grant of the Network Intake's write: the head leaves its FIFO, and the queue takes the decisions of R73. A record
discarded there gives the access up (R103). -/
def State.grantNf (s : State) (r : Record) : State :=
  let left := ({ s with store := { s.store with nfWaiting := none } } : State).popFifo .nf
  if s.emitter.state ≠ .running then
    (left.countEm (fun c => { c with notRunning := satAdd c.notRunning 1 })).watchLane r.inLane WatchEntry.addDiscarded
  else if s.store.capacity ≤ s.queue.length then
    (left.countEm (fun c => { c with queueFull := satAdd c.queueFull 1 })).watchLane r.inLane WatchEntry.addDiscarded
  else left.joinQueue r

/-- The controller's answer to the loader: the member and the free extent list after it, and the block; `none` where there is
no block (R97). -/
def nextClipBlock (setting : Nat) (free : List Nat) (m : ClipMember) : Option (ClipMember × List Nat × Nat) :=
  match m.extents.getLast?, m.fill with
  | some last, some f =>
    if f < extentBlocks then some ({ m with fill := some (f + 1) }, free, extentBlock setting last f)
    else
      match free with
      | [] => none
      | x :: rest => some ({ m with extents := m.extents ++ [x], fill := some 1 }, rest, extentBlock setting x 0)
  | _, _ =>
    match free with
    | [] => none
    | x :: rest => some ({ m with extents := m.extents ++ [x], fill := some 1 }, rest, extentBlock setting x 0)

/-- The member is below the clip's member count (R109, R143). -/
def ClipRecord.hasMember (r : ClipRecord) (m : Nat) : Bool := decide (m < r.memberCount.getD 0)

/-- The grant of the Local Intake's write: the head leaves its FIFO, and the loader takes the decisions of R109. A discarded
cell gives the access up (R103). -/
def State.grantLf (s : State) (w : ClipWrite) : State :=
  let left := ({ s with store := { s.store with lfWaiting := none } } : State).popFifo .lf
  let clip := s.clipAt w.clip
  if clip.state = .loading ∧ clip.hasMember w.position then
    match nextClipBlock s.store.setting s.store.free (clip.memberAt w.position) with
    | none => left.setClip w.clip { clip with lost := satAdd clip.lost 1 }
    | some (m, free, block) =>
      let appended :=
        ({ clip with check := clipCheck clip.check w.cell.payload } : ClipRecord).setMember w.position
          { m with count := m.count + 1 }
      ({ left with store := { left.store with free := free, access := some (.write block (.clipCell w.cell)) } } : State).setClip
        w.clip appended
  else { left with clipUnexpected := satAdd s.clipUnexpected 1 }

/-- The arbiter: while the store is idle it grants the emitter read, else the Network Intake write, else the Local Intake
write; a write given up at its grant lets the next request be granted at once (R102, R103). A row's request is granted as the row is
taken, so the rows of one instant at an idle store are sent in the order of their ranks (DESIGN CHOICE, notes/assumptions/33.md). -/
def State.arbitrate (s : State) : State :=
  match s.store.access with
  | some _ => s
  | none =>
    match s.store.readWaiting with
    | some r => { s with store := { s.store with access := some (.read r true), readWaiting := none } }
    | none =>
      let afterNf :=
        match s.store.nfWaiting with
        | some r => s.grantNf r
        | none => s
      match afterNf.store.access with
      | some _ => afterNf
      | none =>
        match afterNf.store.lfWaiting with
        | some w => afterNf.grantLf w
        | none => afterNf

/-- The item is the record in one of the first `n` blocks of the ring from its head (R95). -/
def CellStore.isHeadBlock (c : CellStore) (n : Nat) : StagedItem → Bool
  | .record b => (List.range n).any (fun i => decide (c.recordBlock i = b))
  | .clipCell _ _ _ => false

/-- The first `n` records leave the queue: their blocks are free, the ring head moves past them, and their staged copies are
dropped (R95, R104). -/
def State.dropHead (s : State) (n : Nat) : State :=
  { s with
    queue := s.queue.drop n
    store := { s.store.dropStaged (s.store.isHeadBlock n) with ringHead := s.store.recordBlock n } }

/-- A flush: every record leaves the queue, is reported as discarded, and its block is free (R75, R95, R104). -/
def State.flushQueue (s : State) : State :=
  ({ s with
      queue := []
      store := { s.store.dropStaged StagedItem.isRecord with ringHead := s.store.ringTail } } : State).watchDiscards s.queue

/-- The extents of a clip in the order of release: member 0's, then 1's, 2's and 3's (R99). -/
def ClipRecord.allExtents (r : ClipRecord) : List Nat :=
  (r.memberAt 0).extents ++ (r.memberAt 1).extents ++ (r.memberAt 2).extents ++ (r.memberAt 3).extents

/-- A clip's extents join the tail of the free extent list and its record takes the values of EMPTY (R99, R106). -/
def State.releaseClip (s : State) (c : Nat) : State :=
  ({ s with store := { s.store with free := s.store.free ++ (s.clipAt c).allExtents } } : State).setClip c .blank

/-- A CUED or PLAYING clip returns to READY: every cursor becomes 0 and its staged cells are dropped (R119). -/
def State.returnClip (s : State) (c : Nat) : State :=
  let r := s.clipAt c
  if r.state = .cued ∨ r.state = .playing then
    ({ s with store := s.store.dropStaged (StagedItem.ofClip c) } : State).setClip c
      { r with state := .ready, members := r.members.map (fun m => { m with cursor := 0 }) }
  else s

end Sys2Proof.Machine
end

