-- ==== Sys2Proof/Machine/Splice.lean ====
section
/-! DEFINITION. The Splice Scheduler's own transitions: SPLICE notices (R137), entry to a final state (R132), the end of a splice
(R152), the pending order and arming (R125, R128, R129), missed splices (R131) and the forced end (R144, R148). -/

namespace Sys2Proof.Machine

/-- The data of a SPLICE notice, read from the event record after the transition (R137). -/
def State.spliceNoticeData (s : State) (e : Nat) (before : EventState) : List Byte :=
  let r := s.eventAt e
  bytes1 e ++ bytes1 before.code ++ bytes1 r.state.code ++ bytes1 r.given.origin.code ++ bytes1 r.given.group ++
    bytes1 r.given.clip ++ bytesTime r.given.inTime ++ bytesTime r.given.outTime ++ bytesFlag r.returnRequested ++
    bytesOption 8 bytesTime r.returnTime ++ bytesOption 8 bytesTime r.pIn ++ bytesOption 8 bytesTime r.pOut ++
    bytesOption 1 (fun c => bytes1 (EndingCause.code c)) r.cause ++
    bytesOption 1 (fun c => bytes1 (FailReason.code c)) r.reason ++
    bytes4 r.replaced ++ bytes4 r.short ++ bytes4 r.truncated ++ bytesOption 6 bytesSlotTime r.finish ++ s.stampBytes

/-- A SPLICE notice is queued (R137). -/
def State.notifySplice (s : State) (e : Nat) (before : EventState) : State :=
  s.notify .splice (s.spliceNoticeData e before)

/-- The group's active event becomes absent, if it is this event (R132, item 4). -/
def State.clearActive (s : State) (g e : Nat) : State :=
  if (s.groupAt g).active = some e then s.setGroup g { s.groupAt g with active := none } else s

/-- An event enters a final state (R132): finish time, cause or reason, the pending order, the group's active event, the clip
of an ARMED event, and the SPLICE notice. The rest of the end of an IN event is `endSplice`. -/
def State.finishEvent (s : State) (e : Nat) (final : EventState) (cause : Option EndingCause) (reason : Option FailReason) :
    State :=
  let r := s.eventAt e
  let s1 := s.setEvent e
    { r with
      state := final
      cause := cause
      reason := reason
      finish := some ⟨s.clock.second, s.emitter.slot⟩ }
  let s2 : State := { s1 with order := s1.order.filter (fun x => decide (x ≠ e)) }
  let s3 := s2.clearActive r.given.group e
  let s4 := if r.state = .armed then s3.returnClip r.given.clip else s3
  s4.notifySplice e r.state

/-- The clip cells a splice leaves unplayed: for each member that has played, the cells from its cursor to its count (R152,
step 1). -/
def unplayed (w : SwitchState) (c : ClipRecord) : Nat :=
  ((List.range 4).map (fun m => if w.phaseAt m = .waiting then 0 else (c.memberAt m).count - (c.memberAt m).cursor)).sum

/-- Each member still in CLIP has its member output lane put into the discontinuity-owed set (R152, step 2). -/
def State.oweClipLanes (s : State) (w : SwitchState) : State :=
  (List.range 4).foldl (fun t m =>
    if w.phaseAt m = .clip then
      match w.laneAt m with
      | some lane => t.owe lane
      | none => t
    else t) s

/-- The end of a splice, with the final state and the cause its caller gives (R152). -/
def State.endSplice (s : State) (e : Nat) (final : EventState) (cause : EndingCause) : State :=
  let r := s.eventAt e
  let g := r.given.group
  let w := s.switchAt g
  let n := unplayed w (s.clipAt r.given.clip)
  let s1 := (s.setEvent e { r with truncated := satAdd r.truncated n }).countEm
    (fun c => { c with clipTruncated := satAdd c.clipTruncated n })
  let s2 := s1.oweClipLanes w
  let s3 := s2.finishEvent e final (some cause) none
  let s4 := s3.returnClip r.given.clip
  (s4.setGroup g { s4.groupAt g with state := .idle }).setSwitch g .clear

/-- The event numbers (R122). -/
abbrev eventNumbers : List Nat := List.range 32

/-- Every IN event ends DONE with this cause, in ascending order of event number (R153). -/
def State.endAllOnAir (s : State) (cause : EndingCause) : State :=
  eventNumbers.foldl (fun t e => if (t.eventAt e).state = .onAir then t.endSplice e .done cause else t) s

/-! ### The pending order and arming -/

/-- The arming time of an event: its in-time less two seconds (R124). -/
def SpliceOrder.armingTime (o : SpliceOrder) : Time := ⟨o.inTime.sec - 2, o.inTime.sub⟩

/-- Event `e` with in-time `t` stands before event `f` in the pending order (R125). -/
def State.standsBefore (s : State) (e : Nat) (t : Time) (f : Nat) : Bool :=
  t.earlier (s.eventAt f).given.inTime || (decide (t = (s.eventAt f).given.inTime) && decide (e < f))

/-- The pending order with an event put at its place, in front of the first event it stands before (R125). On in-times that span
more than half of R53's circle, which have no total order, that place is the model's (DESIGN CHOICE, notes/assumptions/35.md). -/
def State.orderWith (s : State) (e : Nat) (t : Time) : List Nat :=
  s.order.takeWhile (fun f => !s.standsBefore e t f) ++ e :: s.order.dropWhile (fun f => !s.standsBefore e t f)

/-- An event taken up for arming leaves the pending order and is checked: it becomes ARMED, with the group's active event and
its clip cued, or FAILED (R129). -/
def State.armEvent (s : State) (e : Nat) : State :=
  let r := s.eventAt e
  let left : State := { s with order := s.order.filter (fun x => decide (x ≠ e)) }
  let clip := s.clipAt r.given.clip
  if (s.memberLane r.given.group 0).isNone then left.finishEvent e .failed none (some .noLeader)
  else if (s.groupAt r.given.group).active.isSome then left.finishEvent e .failed none (some .groupBusy)
  else if clip.state ≠ .ready then left.finishEvent e .failed none (some .clipNotReady)
  else
    ((left.setEvent e { r with state := .armed }).setGroup r.given.group
      { s.groupAt r.given.group with active := some e }).setClip r.given.clip
      { clip with state := .cued, members := clip.members.map (fun m => { m with cursor := 0 }) }

/-- The events due for arming: those at the front of the pending order whose arming time is no later than nominal now (R128). An
arming time exactly 2^31 s from nominal now, of which R128's two sentences say different things (R53), is taken as due (DESIGN
CHOICE, notes/assumptions/34.md). -/
def State.dueForArming (s : State) : List Nat :=
  s.order.takeWhile (fun e => (s.eventAt e).given.armingTime.noLater s.nominalNow)

/-- Every event due is taken up for arming, in the pending order, at the same nominal now (R128). -/
def State.armDue (s : State) : State := s.dueForArming.foldl State.armEvent s

/-! ### Boundaries -/

/-- Every ARMED event whose out-time is no later than the marker time becomes FAILED, reason MISSED, in ascending order of
event number (R131). -/
def State.failMissed (s : State) : State :=
  eventNumbers.foldl (fun t e =>
    if (t.eventAt e).state = .armed ∧ (t.eventAt e).given.outTime.noLater t.markerTime then
      t.finishEvent e .failed none (some .missed)
    else t) s

/-- The switch-out threshold: the out-time, or the earlier of it and the return time once a return is requested (R144). Of two times
exactly 2^31 s apart, each earlier than the other (R53, R124), the return time is taken (DESIGN CHOICE, notes/assumptions/38.md). -/
def EventRecord.threshold (r : EventRecord) : Time :=
  match r.returnRequested, r.returnTime with
  | true, some t => if t.earlier r.given.outTime then t else r.given.outTime
  | _, _ => r.given.outTime

/-- The cause with which a splice ends by its own switch-outs or by force (R147, R148). -/
def EventRecord.ownCause (r : EventRecord) : EndingCause := if r.returnRequested then .earlyReturn else .outTime

/-- An IN event is past its forced end at the marker time (R148). -/
def State.pastForcedEnd (s : State) (e : Nat) : Bool :=
  let r := s.eventAt e
  decide (r.state = .onAir) &&
    match (s.switchAt r.given.group).pOut with
    | some p => s.markerTime.noEarlier (p.addSeconds 2)
    | none => s.markerTime.noEarlier (r.threshold.addSeconds 2)

/-- The forced end of every IN event past it, in ascending order of event number (R148). -/
def State.forceEnds (s : State) : State :=
  eventNumbers.foldl (fun t e =>
    if t.pastForcedEnd e then t.endSplice e .done (t.eventAt e).ownCause else t) s

end Sys2Proof.Machine
end

