-- ==== Sys2Proof/Machine/Switch.lean ====
section
/-! DEFINITION. The Splice Switch at the start of a slot (R140 to R147, R149 to R151): what a record taken for a slot carries. -/

namespace Sys2Proof.Machine

/-- What the slot of a taken record carries (Switching on Air, first table). -/
inductive OnAir where
  | passed
  | replaced (cell : Cell)
  | short
  deriving DecidableEq, Repr

/-- A record carries both the start and the safe flag (R141, R145). -/
def Record.qualifies (r : Record) : Bool := r.start && r.safe

/-- A record is replaced by the next cell of its clip member, or consumed with fill where the member is exhausted (R118, R149,
R151). A member the clip does not have is not asked (R143): its record passes. -/
def State.replaceRecord (s : State) (e m : Nat) : State × OnAir :=
  let r := s.eventAt e
  let c := r.given.clip
  let clip := s.clipAt c
  let x := clip.memberAt m
  if clip.hasMember m then
    if x.cursor < x.count then
      let cell :=
        match s.store.content (clipCellBlock s.store.setting x x.cursor) with
        | some (.clipCell cell) => cell
        | _ => Config.undefinedBlock s.draws (clipCellBlock s.store.setting x x.cursor)
      let played := s.setClip c (clip.setMember m { x with cursor := x.cursor + 1 })
      let dropped : State :=
        { played with store := played.store.dropStaged (fun i => decide (i = .clipCell c m x.cursor)) }
      (dropped.setEvent e { r with replaced := satAdd r.replaced 1 }, .replaced cell)
    else
      ((s.setEvent e { r with short := satAdd r.short 1 }).countEm
        (fun k => { k with clipShort := satAdd k.clipShort 1 }), .short)
  else (s, .passed)

/-- A member enters CLIP at a record: its phase, its member output lane, and the lane in the discontinuity-owed set (R142,
R143). -/
def State.enterClip (s : State) (g m lane : Nat) : State :=
  let w := s.switchAt g
  (s.setSwitch g { w with phases := setRow w.phases m .clip, lanes := setRow w.lanes m (some lane) }).owe lane

/-- A member enters BACK at a record, whose output lane joins the discontinuity-owed set (R145, R146). -/
def State.enterBack (s : State) (g m lane : Nat) : State :=
  let w := s.switchAt g
  (s.setSwitch g { w with phases := setRow w.phases m .back }).owe lane

/-- The switch-in of the leader (R142). -/
def State.switchIn (s : State) (g e : Nat) (r : Record) : State × OnAir :=
  let ev := s.eventAt e
  let s1 := (s.setEvent e { ev with state := .onAir, pIn := some r.nominal }).setSwitch g
    { s.switchAt g with pIn := some r.nominal }
  let s2 := s1.setGroup g { s1.groupAt g with state := .spliced }
  let s3 := s2.setClip ev.given.clip { s2.clipAt ev.given.clip with state := .playing }
  let s4 := s3.enterClip g 0 r.outLane
  let (s5, out) := s4.replaceRecord e 0
  (s5.notifySplice e .armed, out)

/-- A record of an IDLE group (R141). -/
def State.onIdle (s : State) (g m : Nat) (r : Record) : State × OnAir :=
  match (s.groupAt g).active with
  | none => (s, .passed)
  | some e =>
    let o := (s.eventAt e).given
    if m ≠ 0 ∨ r.qualifies = false then (s, .passed)
    else if r.nominal.earlier o.inTime then (s, .passed)
    else if r.nominal.earlier o.outTime then s.switchIn g e r
    else (s.finishEvent e .failed none (some .missed), .passed)

/-- After a switch-out: when the leader is in BACK and no member is in CLIP, the splice ends (R147). -/
def State.endIfBack (s : State) (g e : Nat) : State :=
  let w := s.switchAt g
  if w.phaseAt 0 = .back ∧ w.phaseAt 1 ≠ .clip ∧ w.phaseAt 2 ≠ .clip ∧ w.phaseAt 3 ≠ .clip then
    s.endSplice e .done (s.eventAt e).ownCause
  else s

/-- A record of the leader of a SPLICED group (R145). -/
def State.onLeader (s : State) (g e : Nat) (r : Record) : State × OnAir :=
  match (s.switchAt g).phaseAt 0 with
  | .clip =>
    if r.qualifies && r.nominal.noEarlier (s.eventAt e).threshold then
      let s1 := (s.setEvent e { s.eventAt e with pOut := some r.nominal }).setSwitch g
        { s.switchAt g with pOut := some r.nominal }
      ((s1.enterBack g 0 r.outLane).endIfBack g e, .passed)
    else s.replaceRecord e 0
  | .back => (s, .passed)
  | .waiting => (s, .passed)

/-- A record of another member of a SPLICED group (R143, R146). -/
def State.onMember (s : State) (g e m : Nat) (r : Record) : State × OnAir :=
  let w := s.switchAt g
  match w.phaseAt m with
  | .waiting =>
    match w.pOut, w.pIn with
    | none, some pIn =>
      if (s.clipAt (s.eventAt e).given.clip).hasMember m && r.start && r.nominal.noEarlier pIn then
        (s.enterClip g m r.outLane).replaceRecord e m
      else (s, .passed)
    | _, _ => (s, .passed)
  | .clip =>
    match w.pOut with
    | none => s.replaceRecord e m
    | some p =>
      if r.nominal.earlier p then s.replaceRecord e m
      else if r.start || r.nominal.noEarlier (p.addSeconds 1) then
        ((s.enterBack g m r.outLane).endIfBack g e, .passed)
      else s.replaceRecord e m
  | .back => (s, .passed)

/-- The Splice Switch acts on a record taken for a slot (R140). -/
def State.switchRecord (s : State) (r : Record) : State × OnAir :=
  match r.place with
  | none => (s, .passed)
  | some p =>
    match (s.groupAt p.group).state with
    | .idle => s.onIdle p.group p.position r
    | .spliced =>
      match (s.groupAt p.group).active with
      | none => (s, .passed)
      | some e => if p.position = 0 then s.onLeader p.group e r else s.onMember p.group e p.position r

end Sys2Proof.Machine
end

