-- ==== Sys2Proof/Machine/Emitter.lean ====
section
/-! DEFINITION. The Emitter: its boundary steps (R77), the marker cell (R82, R83, R170), the filling of slots (R84 to R87), output
headers (R88, R150) and EMITTER notices (R91). -/

namespace Sys2Proof.Machine

/-- The data of an EMITTER notice, read from the state after the change (R91). -/
def State.emitterNoticeData (s : State) (before : EmitterState) (cause : EmitterCause) (flushed : Nat) : List Byte :=
  bytes1 before.code ++ bytes1 s.emitter.state.code ++ bytes1 cause.code ++ s.stampBytes ++ bytes4 flushed ++
    bytes1 s.emitter.change.code

/-- An EMITTER notice is queued (R91). -/
def State.notifyEmitter (s : State) (before : EmitterState) (cause : EmitterCause) (flushed : Nat) : State :=
  s.notify .emitter (s.emitterNoticeData before cause flushed)

/-- Steps 1 and 2 of R77: K_prev, the current second, K_c and the slot index. -/
def State.emitterSecond (s : State) : State :=
  let k := s.plan.slotsFor s.clock.second
  { s with emitter := { s.emitter with
      kPrev := match s.emitter.kNow with
        | some old => some old
        | none => k
      second := s.clock.second
      kNow := k
      slot := 0 } }

/-- What step 3 of R77 resolves to: the state after, whether the queue is flushed, and the cause of the notice. -/
def resolveChange (st : EmitterState) (change : PendingChange) (inStep : Bool) :
    EmitterState × Bool × Option EmitterCause :=
  match st, change with
  | .stopped, .start => (if inStep then .running else .muted, false, some .start)
  | .stopped, .none => (.stopped, false, none)
  | .stopped, .stop => (.stopped, false, none)
  | .muted, .stop => (.stopped, true, some .stop)
  | .running, .stop => (.stopped, true, some .stop)
  | .muted, .none => if inStep then (.running, false, some .stepGained) else (.muted, false, none)
  | .muted, .start => if inStep then (.running, false, some .stepGained) else (.muted, false, none)
  | .running, .none => if inStep then (.running, false, none) else (.muted, true, some .stepLost)
  | .running, .start => if inStep then (.running, false, none) else (.muted, true, some .stepLost)

/-- The ending cause the emitter's own change gives an IN event (R153). -/
def EmitterState.endingCause : EmitterState → EndingCause
  | .stopped => .stopped
  | .muted => .muted
  | .running => .muted

/-- Step 3 of R77: the pending change and the state are resolved, the queue is flushed where the table says so, the EMITTER
notice is queued, and an entry to STOPPED or MUTED ends every IN event after its flush (R153). -/
def State.emitterChange (s : State) : State :=
  let before := s.emitter.state
  let (after, flush, cause) := resolveChange before s.emitter.change s.clock.inStep
  let n := s.queue.length
  let s1 := if flush then s.flushQueue else s
  let s2 : State := { s1 with emitter := { s1.emitter with state := after, change := .none } }
  let s3 :=
    match cause with
    | some c => s2.notifyEmitter before c (if flush then n else 0)
    | none => s2
  if flush then s3.endAllOnAir after.endingCause else s3

/-- The payload of the marker cell (R83, R170). -/
def State.markerPayload (s : State) : List Byte :=
  let c := s.emitter.second
  let flags := s.clock.secondValid.toNat * 128 + s.clock.inStep.toNat * 64 + s.plan.stale.toNat * 32 +
    s.clock.state.code * 8 + s.emitter.state.code * 2
  padPayload (bytes4 s.clock.second.toNat ++ bytes1 flags ++ bytes2 (s.emitter.kNow.getD 0) ++
    bytes2 ((s.plan.slotsFor (c + 1)).getD 0) ++ bytes4 (((s.plan.inForce c).map Plan.hold).getD 0) ++
    bytesTrim s.plan.trim ++ bytes2 s.splicedSet ++ bytes4 s.control.epoch.toNat ++ bytes2 s.control.site.toNat)

/-- The output continuity counter of a lane (R76). -/
def State.outCount (s : State) (lane : Nat) : BitVec 6 := rowAt s.emitter.outCounts lane 0

/-- A cell goes out on EM. -/
def State.sendEm (s : State) (c : Cell) : State := { s with emitter := { s.emitter with line := some c } }

/-- A cell goes out on EM with the count of its lane, which advances by one modulo 64 (R82, R88). -/
def State.sendCounted (s : State) (lane : Nat) (c : Cell) : State :=
  { s with emitter := { s.emitter with
      line := some c
      outCounts := setRow s.emitter.outCounts lane (s.outCount lane + 1) } }

/-- The timing lane, which the marker cell carries (R82). -/
abbrev timingLane : Nat := 1022

/-- Slot 0 of a second that begins in MUTED or RUNNING carries the marker cell (R82). -/
def State.sendMarker (s : State) : State :=
  if s.emitter.state = .stopped then s
  else
    s.sendCounted timingLane
      { header :=
          { lane := BitVec.ofNat 10 timingLane
            kind := .timing
            start := false
            safe := false
            disc := false
            zero := false
            count := s.outCount timingLane
            tag := s.emitter.second.setWidth 2
            sub := 0 }
        payload := s.markerPayload }

/-- A DATA cell goes out on an output lane with flags, the stamp of N and a payload: the next count of its lane, and the
discontinuity flag forced where the lane is owed it, which the lane then no longer is (R88, R150). -/
def State.sendData (s : State) (r : Record) (start safe disc : Bool) (payload : List Byte) : State :=
  let cell : Cell :=
    { header :=
        { lane := BitVec.ofNat 10 r.outLane
          kind := .data
          start := start
          safe := safe
          disc := disc || s.owes r.outLane
          zero := false
          count := s.outCount r.outLane
          tag := r.nominal.sec.setWidth 2
          sub := BitVec.ofNat 24 r.nominal.sub }
      payload := payload }
  { s.sendCounted r.outLane cell with owed := setRow s.owed r.outLane false }

/-- A taken record's slot carries what the Splice Switch decided (R86, R88, R150, R151). -/
def State.sendOnAir (s : State) (r : Record) : OnAir → State
  | .passed => s.sendData r r.start r.safe r.disc r.payload
  | .replaced c => s.sendData r c.header.start c.header.safe c.header.disc c.payload
  | .short => s.sendEm fillCell

/-- The record at the head is taken for the slot with a lateness: it leaves the queue, is counted as emitted and as late, and
goes through the Splice Switch (R86). -/
def State.sendRecord (s : State) (r : Record) (late : Nat) : State :=
  let taken := (s.dropHead 1).watchLane r.inLane WatchEntry.addEmitted
  let counted :=
    if 0 < late then taken.countEm (fun c => { c with lateEmitted := satAdd c.lateEmitted 1 }) else taken
  let (t, out) := counted.switchRecord r
  t.sendOnAir r out

/-- The lateness of a record in the current slot (R71). -/
def Emitter.latenessOf (m : Emitter) (r : Record) : Lateness :=
  lateness m.second m.slot (m.kNow.getD 0) (m.kPrev.getD 0) r.target

/-- A head is discarded when it is too late, or due with lateness beyond the late allowance (R85). -/
def Emitter.discards (m : Emitter) (r : Record) : Bool :=
  match m.latenessOf r with
  | .tooLate => true
  | .due n => decide (m.lateAllowance < n)
  | .notDue => false

/-- The heads discarded at the examination of a slot (R85). -/
def State.tooLateHeads (s : State) : List Record := s.queue.takeWhile s.emitter.discards

/-- The examination of the queue head: too-late heads are discarded, counted and reported to the watch list (R85). -/
def State.examineHead (s : State) : State :=
  let gone := s.tooLateHeads
  ((s.dropHead gone.length).countEm (fun c => { c with tooLate := satAdd c.tooLate gone.length })).watchDiscards gone

/-- The slot carries the due head record, or fill (R86). -/
def State.fillSlot (s : State) : State :=
  let fill := (s.countEm (fun c => { c with fillEmitted := satAdd c.fillEmitted 1 })).sendEm fillCell
  match s.queue with
  | [] => fill
  | r :: _ =>
    match s.emitter.latenessOf r with
    | .due n => s.sendRecord r n
    | .notDue => fill
    | .tooLate => fill

/-- A RUNNING emitter that finds the clock out of step enters MUTED at the slot: the queue is flushed, the slot carries fill,
the EMITTER notice is queued, and every IN event ends (R87, R153). -/
def State.muteAtSlot (s : State) : State :=
  let n := s.queue.length
  let s1 := s.flushQueue
  let s2 := ({ s1 with emitter := { s1.emitter with state := .muted } } : State).sendEm fillCell
  (s2.notifyEmitter .running .stepLost n).endAllOnAir .muted

/-- The next slot of the current second is due: the emitter is not STOPPED, the second has a slot i + 1, and the subsecond
stands at its start (R80). -/
def State.slotDue (s : State) : Bool :=
  match s.emitter.state, s.emitter.kNow with
  | .stopped, _ => false
  | _, none => false
  | _, some k =>
    decide (s.emitter.slot + 1 < k) && decide (s.clock.subsecond = slotStartTick (s.emitter.slot + 1) k)

/-- The slot that begins is filled by the state of the emitter (R84 to R87). -/
def State.beginSlot (s : State) : State :=
  match s.emitter.state with
  | .stopped => s
  | .muted => s.sendEm fillCell
  | .running => if s.clock.inStep then s.examineHead.fillSlot else s.muteAtSlot

/-- A forward step passes over slots: the slot index becomes the last slot begun or passed over (R81). A backward step keeps
it. While the emitter is STOPPED no slot begins and the index is kept (R80). -/
def State.passSlots (s : State) : State :=
  match s.emitter.state, s.emitter.kNow with
  | .stopped, _ => s
  | _, none => s
  | _, some k =>
    { s with emitter := { s.emitter with slot := max s.emitter.slot (lastSlotAt s.clock.subsecond k) } }

end Sys2Proof.Machine
end

