-- ==== Sys2Proof/Machine/Operands.lean ====
section
/-! DEFINITION. The arguments of the commands, read at their widths from the argument area, bytes 10..127 of the control
payload (R169, R171). -/

namespace Sys2Proof.Machine

/-- The position of a byte of the argument area in the payload (R169). -/
abbrev argAt (offset : Nat) : Nat := 10 + offset

/-- STATS: selector (R166). -/
def Command.selector (c : Command) : Nat := read1 c.payload (argAt 0)

/-- A lane map entry as a load carries it: four bytes (R171). -/
structure RawEntry where
  action : Nat
  position : Nat
  group : Nat
  output : Nat
  deriving DecidableEq, Repr

/-- The lane map entry at a byte position: action and member share a byte (R171). -/
def readRawEntry (p : List Byte) (at_ : Nat) : RawEntry :=
  { action := read1 p at_ / 16
    position := read1 p at_ % 16
    group := read1 p (at_ + 1)
    output := read2 p (at_ + 2) }

/-- LANE MAP LOAD and LANE MAP READ: first index (R39, R44, R171). -/
def Command.firstIndex (c : Command) : Nat := read2 c.payload (argAt 0)

/-- LANE MAP LOAD and LANE MAP READ: count (R39, R44, R171). The spec gives the width and place of LANE MAP LOAD's count alone;
that LANE MAP READ's is one byte at argument byte 2 too is the model's (DESIGN CHOICE, notes/assumptions/31.md). -/
def Command.entryCount (c : Command) : Nat := read1 c.payload (argAt 2)

/-- LANE MAP LOAD: entry i stands at bytes 3 + 4i of the argument area (R171). The entries of the count are read. -/
def Command.rawEntries (c : Command) : List RawEntry :=
  (List.range c.entryCount).map (fun i => readRawEntry c.payload (argAt (3 + 4 * i)))

/-- GROUP SET: group (R47). -/
def Command.groupArg (c : Command) : Nat := read1 c.payload (argAt 0)

/-- GROUP SET: local-allowed value (R47). -/
def Command.localAllowedArg (c : Command) : Nat := read1 c.payload (argAt 1)

/-- WATCH SET: entry number (R49). -/
def Command.watchArg (c : Command) : Nat := read1 c.payload (argAt 0)

/-- WATCH SET: the presence byte of the lane, 0 for none and 1 for a lane (R49, R169). -/
def Command.watchPresence (c : Command) : Nat := read1 c.payload (argAt 1)

/-- WATCH SET: the lane (R49). -/
def Command.watchLaneArg (c : Command) : Nat := read2 c.payload (argAt 2)

/-- SITE SET: trim (R62). -/
def Command.trimArg (c : Command) : Int := readTrim c.payload (argAt 0)

/-- SITE SET: late allowance (R62). -/
def Command.lateArg (c : Command) : Nat := read2 c.payload (argAt 4)

/-- CLOCK SET: pulse window (R17). -/
def Command.windowArg (c : Command) : Nat := read1 c.payload (argAt 0)

/-- CLOCK SET: holdover limit (R17). -/
def Command.limitArg (c : Command) : Nat := read2 c.payload (argAt 1)

/-- PARTITION: setting (R100). -/
def Command.settingArg (c : Command) : Nat := read1 c.payload (argAt 0)

/-- The clip commands: clip number (R113). -/
def Command.clipArg (c : Command) : Nat := read1 c.payload (argAt 0)

/-- CLIP OPEN: member count (R113). -/
def Command.memberCountArg (c : Command) : Nat := read1 c.payload (argAt 1)

/-- CLIP CLOSE: the four member counts (R114, R171). -/
def Command.closeCounts (c : Command) : List Nat :=
  [read4 c.payload (argAt 1), read4 c.payload (argAt 5), read4 c.payload (argAt 9), read4 c.payload (argAt 13)]

/-- CLIP CLOSE: the check value (R114, R171). -/
def Command.closeCheck (c : Command) : Word32 := readSecond c.payload (argAt 17)

/-- CLIP QUERY: member number (R116). -/
def Command.queryMember (c : Command) : Nat := read1 c.payload (argAt 1)

/-- CLIP QUERY: first place (R116). -/
def Command.queryPlace (c : Command) : Nat := read2 c.payload (argAt 2)

/-- SPLICE ADD: group (R126, R171). -/
def Command.addGroup (c : Command) : Nat := read1 c.payload (argAt 0)

/-- SPLICE ADD: clip (R126, R171). -/
def Command.addClip (c : Command) : Nat := read1 c.payload (argAt 1)

/-- SPLICE ADD: in-time (R126, R171). -/
def Command.addIn (c : Command) : Time := ⟨readSecond c.payload (argAt 2), read4 c.payload (argAt 6)⟩

/-- SPLICE ADD: out-time (R126, R171). -/
def Command.addOut (c : Command) : Time := ⟨readSecond c.payload (argAt 10), read4 c.payload (argAt 14)⟩

/-- SPLICE CANCEL and SPLICE QUERY: event number (R133, R136). -/
def Command.eventArg (c : Command) : Nat := read1 c.payload (argAt 0)

/-- TIMING cell payload: the hold in bytes 0..3, K in 4..5, S_eff in 6..9 (R170). -/
def readPlan (p : List Byte) : Plan := ⟨read4 p 0, read2 p 4, readSecond p 6⟩

end Sys2Proof.Machine
end

