-- ==== Sys2Proof/Machine/Plan.lean ====
section
/-! DEFINITION. The Timing Plan unit: PLAN notices (R61), the stale timer (R59), the change of plan (R58), timing cells (R54 to
R57) and the emission arithmetic (R64 to R69). -/

namespace Sys2Proof.Machine

/-- The data of a PLAN notice, read from the state after the change (R61). -/
def State.planNoticeData (s : State) (cause : PlanCause) : List Byte :=
  bytes1 cause.code ++ bytesPlan (s.plan.current.getD default) ++ bytesOption 10 bytesPlan s.plan.pending ++
    bytesFlag s.plan.stale ++ s.stampBytes

/-- A PLAN notice is queued (R61). -/
def State.notifyPlan (s : State) (cause : PlanCause) : State := s.notify .plan (s.planNoticeData cause)

/-- The stale timer stops here (R59). -/
abbrev staleLimit : Nat := 80000000

/-- The stale timer advances by one at a counted edge while a current plan exists; reaching 80,000,000 sets the plan-stale
flag and queues a PLAN notice, cause STALE (R59). -/
def State.staleAdvance (s : State) : State :=
  if s.plan.current.isSome ∧ s.plan.staleTimer < staleLimit then
    let t := s.plan.staleTimer + 1
    if t = staleLimit then
      ({ s with plan := { s.plan with staleTimer := t, stale := true } } : State).notifyPlan .stale
    else { s with plan := { s.plan with staleTimer := t } }
  else s

/-- At a boundary a pending plan whose S_eff is no later than the new second becomes the current plan (R58). -/
def State.planChange (s : State) : State :=
  match s.plan.pending with
  | none => s
  | some p =>
    if secondNoLater p.eff s.clock.second then
      ({ s with plan := { s.plan with current := some p, pending := none } } : State).notifyPlan .planChange
    else s

/-- A counter of the Network Intake's port counters is increased (R33). -/
def State.countNf (s : State) (f : PortCounters → PortCounters) : State :=
  { s with nf := { s.nf with counters := f s.nf.counters } }

/-- The values of a timing cell pass the checks of R54. -/
def validTiming (p : Plan) (tag : BitVec 2) : Bool :=
  decide (p.hold ≤ 15000000) && decide (1000 ≤ p.slots) && decide (p.slots ≤ 60000) && decide (tag = p.eff.setWidth 2)

/-- A valid timing cell restarts the stale timer: it becomes 0 and a set plan-stale flag is cleared with a PLAN notice, cause
FRESH; then the notice of a new pending plan follows, where there is one (R57, R59, R61). -/
def State.restartStale (s : State) (pendingNotice : Bool) : State :=
  let cleared : State := { s with plan := { s.plan with staleTimer := 0, stale := false } }
  let fresh := if s.plan.stale then cleared.notifyPlan .fresh else cleared
  if pendingNotice then fresh.notifyPlan .pending else fresh

/-- A network TIMING cell is taken by the Timing Plan unit (R54 to R57). -/
def State.takeTiming (s : State) (cell : Cell) : State :=
  let p := readPlan cell.payload
  if validTiming p cell.header.tag then
    match s.plan.current with
    | none =>
      ({ s with plan := { s.plan with current := some p, staleTimer := 0 } } : State).notifyPlan .firstPlan
    | some cur =>
      if secondNoLater p.eff s.clock.second then
        if p.hold = cur.hold ∧ p.slots = cur.slots then s.restartStale false
        else s.countNf (fun c => { c with lateTiming := satAdd c.lateTiming 1 })
      else if s.plan.pending = some p then s.restartStale false
      else ({ s with plan := { s.plan with pending := some p } } : State).restartStale true
  else s.countNf (fun c => { c with badTiming := satAdd c.badTiming 1 })

/-- The release second: the one of now − 2, now − 1, now, now + 1 congruent to the second tag modulo 4 (R65). -/
def releaseSecond (tag : BitVec 2) (now : Word32) : Word32 :=
  let d := tag - now.setWidth 2
  if d = 0 then now else if d = 1 then now + 1 else if d = 2 then now - 2 else now - 1

/-- The nominal time: the release time plus the hold, whole seconds carried (R66). -/
def nominalTime (release : Word32) (sub hold : Nat) : Time :=
  ⟨release + BitVec.ofNat 32 ((sub + hold) / 10000000), (sub + hold) % 10000000⟩

/-- The target of an emission time in a second of `k` slots: the first slot at or after it, slot K being slot 0 of the next
second and slot 0 giving way to slot 1 (R69). -/
def targetSlot (e : Time) (k : Nat) : SlotTime :=
  let j := (e.sub * k + 9999999) / 10000000
  if j = k then ⟨e.sec + 1, 1⟩ else if j = 0 then ⟨e.sec, 1⟩ else ⟨e.sec, j⟩

/-- The nominal time and the target of a cell classified now; `none` only without a current plan, which no RUNNING emitter
meets (R64 to R69). -/
def State.emissionArithmetic (s : State) (tag : BitVec 2) (sub : Nat) : Option (Time × SlotTime) :=
  let release := releaseSecond tag s.clock.second
  match s.plan.inForce release with
  | none => none
  | some p =>
    let n := nominalTime release sub p.hold
    let e := n.shift s.plan.trim
    match s.plan.inForce e.sec with
    | none => none
    | some q => some (n, targetSlot e q.slots)

end Sys2Proof.Machine
end

