-- ==== Sys2Proof/Machine/SiteClock.lean ====
section
/-! DEFINITION. The Site Clock by itself: pulse records (R8), verdicts (R9, R11 to R13), what a boundary does to the clock (R2,
R6, R7), the loss of the frequency (R14) and the holdover limit (R13, R17). -/

namespace Sys2Proof.Machine

/-- A pulse is filed in a record: the first e stays, the nearest e changes only to a smaller magnitude (R8). -/
def filePulse (r : Option PhaseErrors) (e : Int) : Option PhaseErrors :=
  match r with
  | none => some ⟨e, e⟩
  | some p => some (if e.natAbs < p.nearest.natAbs then ⟨p.first, e⟩ else p)

/-- A pulse is taken against the subsecond at its arrival (R8). -/
def SiteClock.takePulse (c : SiteClock) : SiteClock :=
  if c.subsecond < tickOfVerdict then { c with passed := filePulse c.passed c.subsecond }
  else { c with coming := filePulse c.coming ((c.subsecond : Int) - 10000000) }

/-- The three verdicts (R9). A BAD verdict carries the first pulse's e. -/
inductive Verdict where
  | good
  | bad (e : Int)
  | missing
  deriving DecidableEq, Repr

/-- The verdict on a passed-boundary record under the window in force (R9). -/
def judgeRecord (r : Option PhaseErrors) (window : Nat) : Verdict :=
  match r with
  | none => .missing
  | some p => if p.nearest.natAbs ≤ window then .good else .bad p.first

/-- The cause a verdict gives its notice (R18). -/
def Verdict.cause : Verdict → ClockCause
  | .good => .good
  | .bad _ => .bad
  | .missing => .missing

/-- An entry to UNLOCKED: all counts 0; second-valid and the second number are kept (R13). -/
def SiteClock.unlock (c : SiteClock) : SiteClock :=
  { c with state := .unlocked, good := 0, bad := 0, mismatch := 0, hold := 0 }

/-- An entry to ACQUIRING with a good count: bad, hold and mismatch counts 0 (R11). -/
def SiteClock.acquire (c : SiteClock) (good : Nat) : SiteClock :=
  { c with state := .acquiring, good := good, bad := 0, mismatch := 0, hold := 0 }

/-- An entry to LOCKED: bad and hold counts 0 (R11, R13). -/
def SiteClock.lock (c : SiteClock) : SiteClock := { c with state := .locked, bad := 0, hold := 0 }

/-- HOLDOVER past the holdover limit becomes UNLOCKED (R13, R17). -/
def SiteClock.checkHold (c : SiteClock) : SiteClock :=
  if c.state = .holdover ∧ c.limit < c.hold then c.unlock else c

/-- The effect of a verdict on the clock state and the counts, and the e of the step it calls for (R11, R12, R13). -/
def SiteClock.applyVerdict (c : SiteClock) (v : Verdict) : SiteClock × Option Int :=
  match c.state, v with
  | .unlocked, .good => (c.acquire 1, none)
  | .unlocked, .bad e => (c.acquire 0, some e)
  | .unlocked, .missing => (c, none)
  | .acquiring, .good =>
    let counted := { c with good := min 3 (c.good + 1) }
    (if counted.good = 3 ∧ c.secondValid = true ∧ c.freqPresent = true then counted.lock else counted, none)
  | .acquiring, .bad e => ({ c with good := 0 }, some e)
  | .acquiring, .missing => ({ c with good := 0 }, none)
  | .locked, .good => ({ c with bad := 0 }, none)
  | .locked, .bad e => if 2 ≤ c.bad then (c.acquire 0, some e) else ({ c with bad := c.bad + 1 }, none)
  | .locked, .missing => (({ c with state := .holdover, hold := 1 } : SiteClock).checkHold, none)
  | .holdover, .good =>
    if c.freqPresent then (c.lock, none) else (({ c with hold := c.hold + 1 } : SiteClock).checkHold, none)
  | .holdover, .bad e =>
    if 2 ≤ c.bad then (c.acquire 0, some e)
    else (({ c with bad := c.bad + 1, hold := c.hold + 1 } : SiteClock).checkHold, none)
  | .holdover, .missing => (({ c with hold := c.hold + 1 } : SiteClock).checkHold, none)

/-- The second number at a boundary, with the state and counts it leaves: an announced second is adopted in UNLOCKED and
ACQUIRING (R6) and compared in LOCKED and HOLDOVER, where a third mismatch re-acquires (R7). -/
def SiteClock.boundarySecond (c : SiteClock) : SiteClock :=
  match c.state, c.announced with
  | _, none => { c with second := c.second + 1 }
  | .unlocked, some n => { c with second := n, secondValid := true, mismatch := 0 }
  | .acquiring, some n => { c with second := n, secondValid := true, mismatch := 0 }
  | .locked, some n =>
    if n = c.second + 1 then { c with second := c.second + 1, mismatch := 0 }
    else if 2 ≤ c.mismatch then ({ c with second := n, secondValid := true } : SiteClock).acquire 0
    else { c with second := c.second + 1, mismatch := c.mismatch + 1 }
  | .holdover, some n =>
    if n = c.second + 1 then { c with second := c.second + 1, mismatch := 0 }
    else if 2 ≤ c.mismatch then ({ c with second := n, secondValid := true } : SiteClock).acquire 0
    else { c with second := c.second + 1, mismatch := c.mismatch + 1 }

/-- What the clock itself takes at a second boundary: steps 1 to 3 of R2. -/
def SiteClock.boundary (c : SiteClock) : SiteClock :=
  { c.boundarySecond with
    subsecond := 0
    announced := none
    passed := c.coming
    coming := none
    verdictTaken := false }

/-- A loss of the frequency input (R3, R14). -/
def SiteClock.loseFrequency (c : SiteClock) : SiteClock :=
  match c.state with
  | .locked => { c with freqPresent := false, state := .holdover, hold := 0 }
  | .acquiring => ({ c with freqPresent := false } : SiteClock).unlock
  | .unlocked => { c with freqPresent := false }
  | .holdover => { c with freqPresent := false }

/-- The data of a CLOCK notice, read from the state after the change (R18). -/
def State.clockNoticeData (s : State) (before : ClockState) (cause : ClockCause) : List Byte :=
  bytes1 before.code ++ bytes1 s.clock.state.code ++ bytes1 cause.code ++ s.stampBytes ++ bytesFlag s.clock.freqPresent ++
    bytes1 s.clock.good ++ bytes1 s.clock.bad ++ bytes2 s.clock.hold ++ bytes1 s.clock.mismatch

/-- A CLOCK notice is queued when the clock state has changed from `before` (R18). -/
def State.notifyClock (s : State) (before : ClockState) (cause : ClockCause) : State :=
  if s.clock.state = before then s else s.notify .clock (s.clockNoticeData before cause)

end Sys2Proof.Machine
end

