-- ==== Sys2Proof/Machine/Boundary.lean ====
section
/-! DEFINITION. The second boundary as one event over all blocks (R2, R16). -/

namespace Sys2Proof.Machine

/-- A free value is drawn where one decides something: the draw count advances. -/
def State.draw (s : State) (decides : Bool) : State := if decides then { s with draws := s.draws + 1 } else s

/-- The emitter's own change at this boundary ends the IN events (R77, R153). -/
def State.changeEnds (s : State) : Bool := (resolveChange s.emitter.state s.emitter.change s.clock.inStep).2.1

/-- The forced end of R148 and the emitter's own change both call for the end of an IN event at this boundary (R153). -/
def State.endsMeet (s : State) : Bool := s.changeEnds && eventNumbers.any s.pastForcedEnd

/-- Whether the forced ends come before the emitter's change: a free value where both end an IN event (R153), and otherwise they
do. -/
def State.forcedFirst (s : State) : Bool := !s.endsMeet || Config.forcedEndFirst s.draws

/-- An IN event ends at this boundary, by force or by the emitter's change (R148, R153). -/
def State.endsSome (s : State) : Bool :=
  eventNumbers.any (fun e => s.pastForcedEnd e || (s.changeEnds && decide ((s.eventAt e).state = .onAir)))

/-- This boundary both takes events up for arming and ends an IN event (R130). -/
def State.armingMeets (s : State) : Bool := !s.dueForArming.isEmpty && s.endsSome

/-- The place of the arming at this boundary: a free value where it meets the end of an IN event (R130), and otherwise before the
ends. -/
def State.armingPlace (s : State) : ArmingPlace := if s.armingMeets then Config.armingPlace s.draws else .beforeEnds

/-- The arming of a boundary, with the comparison of R131 behind it (R128, R131). -/
def State.armAndMiss (s : State) : State := s.armDue.failMissed

/-- The arming, the forced ends and the emitter's change of a boundary, in the order the free values give (R130, R153;
notes/assumptions/3.md, 36.md). -/
def State.armingsAndEnds (s : State) : State :=
  let s1 := s.draw s.armingMeets
  let s2 := s1.draw s1.endsMeet
  match s.armingPlace, s1.forcedFirst with
  | .beforeEnds, true => s2.armAndMiss.forceEnds.emitterChange
  | .beforeEnds, false => s2.armAndMiss.emitterChange.forceEnds
  | .betweenEnds, true => s2.forceEnds.armAndMiss.emitterChange
  | .betweenEnds, false => s2.emitterChange.armAndMiss.forceEnds
  | .afterEnds, true => s2.forceEnds.emitterChange.armAndMiss
  | .afterEnds, false => s2.emitterChange.forceEnds.armAndMiss

/-- What the blocks take at a boundary handed over by the Site Clock, as one event (R16): the change of plan (R58), the
Emitter's new second (R77), arming (R128), missed and forced ends (R131, R148), the Emitter's change (R77) and the marker
(R82). The order among blocks is the model's where the spec gives none (notes/assumptions/5.md), as is that the slot index is 0
before the arming, so that an event that fails there finishes at slot 0 (DESIGN CHOICE, notes/assumptions/37.md). -/
def State.handBoundary (s : State) : State := s.planChange.emitterSecond.armingsAndEnds.sendMarker

/-- What the Site Clock itself takes at a boundary, with its CLOCK notice when the time code re-acquires (R2, R7). -/
def State.clockBoundary (s : State) : State :=
  ({ s with clock := s.clock.boundary } : State).notifyClock s.clock.state .timeCode

/-- A second boundary taken at a counted edge (R2): the clock's part, the stale timer's edge (R59), and the hand-over. -/
def State.edgeBoundary (s : State) : State := s.clockBoundary.staleAdvance.handBoundary

end Sys2Proof.Machine
end

