-- ==== Sys2Proof/Machine/ClockSteps.lean ====
section
/-! DEFINITION. The rows of the Site Clock, the full reset and the epoch counter: FULL_RESET, COUNTED_EDGE,
EPOCH_COUNTER_TICK, SECOND_BOUNDARY, TIME_CODE_MESSAGE, PULSE, VERDICT, FREQUENCY_LOSS, FREQUENCY_RETURN. -/

namespace Sys2Proof.Machine

/-- What every meaning answers with: a next state, a fault or a refusal. -/
abbrev Answer := Host.Outcome State Fault Refusal

/-- A new epoch drawn from the epoch counter: the value drawn, or the next that is neither 0 nor the epoch held before, where
one was (R161). -/
def drawEpoch (counter : Word32) (held : Option Word32) : Word32 :=
  let refused (v : Word32) : Bool := decide (v = 0) || decide (some v = held)
  if refused counter then (if refused (counter + 1) then counter + 2 else counter + 1) else counter

/-- FULL_RESET (R1 and every block's reset rule): each item takes its full-reset value, the site address is the straps', and
the epoch is drawn anew. At a power-on the epoch counter is undefined and no epoch was held; at a reset by the pin the counter
has run on and the epoch held is refused (R161). The commands that wait for the model are not the part's and stay. -/
def execFullReset (cause : ResetCause) (straps : BitVec 16) (s : State) : Answer :=
  match cause with
  | .powerOn =>
    let counter := Config.powerOnEpochCounter s.draws
    .next (.afterReset straps (drawEpoch counter none) counter (s.draws + 1) s.pending)
  | .pin =>
    let counter := s.control.epochCounter
    .next (.afterReset straps (drawEpoch counter (some s.control.epoch)) counter s.draws s.pending)

/-- COUNTED_EDGE (R2, R59): the subsecond counter and the stale timer advance by one. At 9,999,999 the edge is the second
boundary. -/
def execCountedEdge (s : State) : Answer :=
  if s.clock.subsecond + 1 < ticksPerSecond then
    .next ({ s with clock := { s.clock with subsecond := s.clock.subsecond + 1 } } : State).staleAdvance
  else .next s.edgeBoundary

/-- EPOCH_COUNTER_TICK (R161): the epoch counter advances by one, modulo 2^32. -/
def execEpochCounterTick (s : State) : Answer :=
  .next { s with control := { s.control with epochCounter := s.control.epochCounter + 1 } }

/-- SECOND_BOUNDARY (R2): due when the subsecond counter stands at 9,999,999; otherwise no boundary falls and nothing
changes (notes/assumptions/6.md). -/
def execSecondBoundary (s : State) : Answer :=
  if s.clock.subsecond + 1 < ticksPerSecond then .next s else .next s.edgeBoundary

/-- TIME_CODE_MESSAGE (R5): a message received whole with a correct check becomes the announced second; any other is
discarded. -/
def execTimeCodeMessage (intact : Bool) (second : Word32) (s : State) : Answer :=
  if intact then .next { s with clock := { s.clock with announced := some second } } else .next s

/-- PULSE (R8): the pulse is filed against the boundary it belongs to. -/
def execPulse (s : State) : Answer := .next { s with clock := s.clock.takePulse }

/-- A step (R10), part of the verdict that calls for it, after the clock has taken the verdict's state: the counter becomes
5,000,000 − e and the coming-boundary record is emptied. A result of 10,000,000 is a second boundary at once. The CLOCK notice
of the verdict stands between the clock's part and the other blocks' (notes/assumptions/5.md); a move of nominal now takes the
arming it brings about (R128). The slots of a forward step are passed over (R81) before that arming, so an event that fails there
finishes with the slot index after the step (DESIGN CHOICE, notes/assumptions/37.md). -/
def State.takeStep (s : State) (before : ClockState) (e : Int) : State :=
  let emptied : State := { s with clock := { s.clock with coming := none } }
  let target := ((tickOfVerdict : Int) - e).toNat
  if target < ticksPerSecond then
    let moved : State := { emptied with clock := { emptied.clock with subsecond := target } }
    let noted := moved.notifyClock before .bad
    (if e < 0 then noted.passSlots else noted).armDue
  else
    let bounded : State := { emptied with clock := emptied.clock.boundary }
    (bounded.notifyClock before .bad).handBoundary

/-- VERDICT (R9 to R13): due when the subsecond counter stands at 5,000,000 and the verdict of the second has not been taken;
otherwise none is rendered and nothing changes (R9). -/
def execVerdict (s : State) : Answer :=
  if s.clock.subsecond = tickOfVerdict ∧ s.clock.verdictTaken = false then
    let v := judgeRecord s.clock.passed s.clock.window
    let (c, step) := ({ s.clock with passed := none, verdictTaken := true } : SiteClock).applyVerdict v
    let judged : State := { s with clock := c }
    match step with
    | none => .next (judged.notifyClock s.clock.state v.cause)
    | some e => .next (judged.takeStep s.clock.state e)
  else .next s

/-- FREQUENCY_LOSS (R3, R14): the flag becomes 0, counting passes to the internal oscillator, and the clock state reacts. -/
def execFrequencyLoss (s : State) : Answer :=
  .next (({ s with clock := s.clock.loseFrequency } : State).notifyClock s.clock.state .frequencyLost)

/-- FREQUENCY_RETURN (R3, R14): the flag becomes 1; no state and no count changes. -/
def execFrequencyReturn (s : State) : Answer :=
  .next { s with clock := { s.clock with freqPresent := true } }

end Sys2Proof.Machine
end

