-- ==== Sys2Proof/Machine/IntakeSteps.lean ====
section
/-! DEFINITION. The rows of the intakes: HUNT_CANDIDATE, PRESYNC_HEADER, SYNC_HEADER, CELL_DELIVERY, INTAKE_HEAD_HANDOFF. -/

namespace Sys2Proof.Machine

/-! ### Bytes and headers -/

/-- Bytes are taken on a port: the position moves on and the header window holds the last eight (R19). -/
def Intake.takeBytes (x : Intake) (bytes : List Byte) : Intake :=
  let w := x.window ++ bytes
  { x with window := w.drop (w.length - 8), taken := x.taken + bytes.length }

/-- A port counter changed by `f` (R33). -/
def Intake.count (x : Intake) (f : PortCounters → PortCounters) : Intake := { x with counters := f x.counters }

/-- The data of a SYNC notice (R24). -/
def State.syncNoticeData (s : State) (p : Port) (cause : SyncCause) : List Byte :=
  bytes1 (portCode p) ++ bytes1 cause.code ++ s.stampBytes ++ bytes4 (s.intake p).counters.headerErrors ++
    bytes4 (s.intake p).counters.syncLosses

/-- A SYNC notice is queued (R24). -/
def State.notifySync (s : State) (p : Port) (cause : SyncCause) : State := s.notify .sync (s.syncNoticeData p cause)

/-- HUNT_CANDIDATE (R21): in HUNT a byte is taken, and the candidate seven positions before it is judged; a good header enters
PRESYNC with presync count 1 and the next header expected 136 positions after it. -/
def execHuntCandidate (p : Port) (byte : Byte) (s : State) : Answer :=
  if (s.intake p).delineation = .hunt then
    let x := (s.intake p).takeBytes [byte]
    match readHeader x.window with
    | some _ =>
      .next (s.setIntake p { x with
        delineation := .presync
        presyncCount := some 1
        expected := some (x.taken + 128) })
    | none => .next (s.setIntake p x)
  else .next s

/-- The bytes taken do not go past the eighth byte of the expected header, and whether they reach it. -/
def Intake.headerReach (x : Intake) (bytes : List Byte) : Option Bool :=
  match x.expected with
  | none => none
  | some e =>
    if x.taken + bytes.length ≤ e + 8 then some (decide (x.taken + bytes.length = e + 8)) else none

/-- The return to HUNT: expected position, presync count and bad header run cleared; the search resumes one byte after the
start of the bad header, whose later bytes are in the window (R22, R23). -/
def Intake.toHunt (x : Intake) : Intake :=
  { x with delineation := .hunt, presyncCount := none, expected := none, badRun := 0 }

/-- PRESYNC_HEADER (R22): in PRESYNC the bytes up to the expected header's eighth are taken and the header is judged. -/
def execPresyncHeader (p : Port) (bytes : List Byte) (s : State) : Answer :=
  if (s.intake p).delineation = .presync then
    match (s.intake p).headerReach bytes with
    | none => .next s
    | some false => .next (s.setIntake p ((s.intake p).takeBytes bytes))
    | some true =>
      let x := (s.intake p).takeBytes bytes
      match readHeader x.window with
      | none => .next (s.setIntake p x.toHunt)
      | some h =>
        if x.presyncCount = some 1 then
          .next (s.setIntake p { x with presyncCount := some 2, expected := some (x.taken + 128) })
        else
          .next ((s.setIntake p { x with
            delineation := .sync
            presyncCount := none
            badRun := 0
            expected := some (x.taken + 128)
            inProgress := some ⟨h, []⟩ }).notifySync p .gained)
  else .next s

/-- SYNC_HEADER (R23): in SYNC, with no cell in progress, the bytes up to the expected header's eighth are taken and the header
is judged; the expected position advances by 136 whether it is good or bad, and the third bad one in a row loses sync. -/
def execSyncHeader (p : Port) (bytes : List Byte) (s : State) : Answer :=
  if (s.intake p).delineation = .sync ∧ (s.intake p).inProgress = none then
    match (s.intake p).headerReach bytes with
    | none => .next s
    | some false => .next (s.setIntake p ((s.intake p).takeBytes bytes))
    | some true =>
      let x := (s.intake p).takeBytes bytes
      match readHeader x.window with
      | some h =>
        .next (s.setIntake p { x with badRun := 0, inProgress := some ⟨h, []⟩, expected := some (x.taken + 128) })
      | none =>
        let counted := x.count (fun c => { c with headerErrors := satAdd c.headerErrors 1 })
        if x.badRun < 2 then
          .next (s.setIntake p { counted with badRun := x.badRun + 1, expected := some (x.taken + 128) })
        else
          .next ((s.setIntake p
            (counted.count (fun c => { c with syncLosses := satAdd c.syncLosses 1 })).toHunt).notifySync p .lost)
  else .next s

/-! ### Delivery -/

/-- Check 1 of R25: kind and lane disagree. -/
def Header.kindLaneMismatch (h : Header) : Bool :=
  match h.kind with
  | .data => decide (h.lane = 1022) || decide (h.lane = 1023)
  | .control => decide (h.lane ≠ 1023)
  | .timing => decide (h.lane ≠ 1022)
  | .fill => false

/-- Check 3 of R25: the stamp of a DATA or TIMING cell is bad. -/
def Header.badStamp (h : Header) : Bool :=
  match h.kind with
  | .data => decide (10000000 ≤ h.sub.toNat)
  | .timing => decide (10000000 ≤ h.sub.toNat)
  | .control => false
  | .fill => false

/-- Cells an intake FIFO holds (R19). -/
abbrev fifoPlaces : Nat := 32

/-- A delivered cell is counted, checked, and joins the FIFO, overflows, or ends as FILL (R23, R25, R26, R27). -/
def Intake.deliver (x : Intake) (p : Port) (cell : Cell) : Intake :=
  let x := x.count (fun c => { c with goodCells := satAdd c.goodCells 1 })
  if cell.header.kindLaneMismatch then x.count (fun c => { c with kindLane := satAdd c.kindLane 1 })
  else if p = .lf ∧ cell.header.kind = .timing then
    x.count (fun c => { c with kindNotPermitted := satAdd c.kindNotPermitted 1 })
  else if cell.header.badStamp then x.count (fun c => { c with badStamps := satAdd c.badStamps 1 })
  else if cell.header.kind = .fill then x
  else if fifoPlaces ≤ x.fifo.length then x.count (fun c => { c with overflows := satAdd c.overflows 1 })
  else { x with fifo := x.fifo ++ [cell] }

/-- CELL_DELIVERY (R23, R25): in SYNC, payload bytes are taken into the cell in progress; with its last byte the cell is
delivered. Fewer bytes leave it in progress, however long the port takes to supply the rest (R23). -/
def execCellDelivery (p : Port) (bytes : List Byte) (s : State) : Answer :=
  match (s.intake p).delineation, (s.intake p).inProgress with
  | .sync, some cell =>
    let grown : Cell := { cell with payload := cell.payload ++ bytes }
    let x := (s.intake p).takeBytes bytes
    if grown.payload.length < 128 then .next (s.setIntake p { x with inProgress := some grown })
    else if grown.payload.length = 128 then
      .next (s.setIntake p (({ x with inProgress := none } : Intake).deliver p grown))
    else .next s
  | _, _ => .next s

/-! ### Hand-off -/

/-- Places of the command queue (R157). -/
abbrev commandPlaces : Nat := 8

/-- A command is not this part's: its record type is not that of a command, or its site address is neither this site's nor the
broadcast address (R158). -/
def ControlUnit.foreign (u : ControlUnit) (c : Command) : Bool :=
  decide (c.recordType ≠ 1) || (decide (c.address ≠ u.site.toNat) && decide (c.address ≠ broadcastAddress))

/-- Commands at the head of the queue that are not this part's leave it at once, without reply (R158). -/
def State.discardForeign (s : State) : State :=
  { s with control := { s.control with queue := s.control.queue.dropWhile s.control.foreign } }

/-- A CONTROL cell is offered to the command queue (R32). -/
def State.offerCommand (s : State) (origin : Origin) (cell : Cell) : State :=
  if s.control.queue.length < commandPlaces then
    ({ s with control := { s.control with queue := s.control.queue ++ [⟨origin, cell.payload⟩] } } : State).discardForeign
  else { s with control := { s.control with controlDrops := satAdd s.control.controlDrops 1 } }

/-- The input continuity test finds an error: the lane has an entry, the discontinuity flag is 0, and the count is not the
entry's plus one modulo 64 (R29). -/
def continuityError (entry : Option (BitVec 6)) (h : Header) : Bool :=
  match entry with
  | none => false
  | some c => !h.disc && decide (h.count ≠ c + 1)

/-- The input continuity test of a network DATA cell at the head, with what the watch list counts (R29, R50). -/
def State.testContinuity (s : State) (h : Header) : State :=
  let lane := h.lane.toNat
  let arrived := s.watchLane lane WatchEntry.addArrived
  let tested :=
    if continuityError (rowAt s.continuity lane none) h then
      (arrived.countNf (fun c => { c with continuityErrors := satAdd c.continuityErrors 1 })).watchLane lane
        WatchEntry.addContError
    else arrived
  { tested with continuity := setRow s.continuity lane (some h.count) }

/-- A cell classified PASS or MEMBER (R37): while the emitter is not RUNNING it is discarded; otherwise the arithmetic forms
its record, whose write waits for the store (R28, R38, R64, R72). -/
def State.classify (s : State) (cell : Cell) (output : Nat) (place : Option GroupPlace) : State :=
  let lane := cell.header.lane.toNat
  let notRunning :=
    ((s.popFifo .nf).countEm (fun c => { c with notRunning := satAdd c.notRunning 1 })).watchLane lane
      WatchEntry.addDiscarded
  if s.emitter.state = .running then
    match s.emissionArithmetic cell.header.tag cell.header.sub.toNat with
    | none => notRunning
    | some (n, t) =>
      let r : Record :=
        { inLane := lane
          outLane := output
          place := place
          nominal := n
          target := t
          start := cell.header.start
          safe := cell.header.safe
          disc := cell.header.disc
          payload := cell.payload }
      ({ s with store := { s.store with nfWaiting := some r } } : State).arbitrate
  else notRunning

/-- A network DATA cell at the head: the continuity test, then the Lane Classifier (R29, R37). -/
def State.handData (s : State) (cell : Cell) : State :=
  let lane := cell.header.lane.toNat
  let t := s.testContinuity cell.header
  match s.laneEntry lane with
  | .drop =>
    ((t.popFifo .nf).countNf (fun c => { c with notMapped := satAdd c.notMapped 1 })).watchLane lane
      WatchEntry.addDiscarded
  | .pass output => t.classify cell output none
  | .member output g m => t.classify cell output (some ⟨g, m⟩)

/-- A local DATA cell at the head: its lane names clip and member, or is out of range (R108). -/
def State.handClipCell (s : State) (cell : Cell) : State :=
  let lane := cell.header.lane.toNat
  if lane < 256 then
    ({ s with store := { s.store with lfWaiting := some ⟨lane % 64, lane / 64, cell⟩ } } : State).arbitrate
  else { s.popFifo .lf with clipLanesOut := satAdd s.clipLanesOut 1 }

/-- Whether the head of a port's FIFO waits for the grant of its write (R28). -/
def State.headWaits (s : State) : Port → Bool
  | .nf => s.store.nfWaiting.isSome
  | .lf => s.store.lfWaiting.isSome

/-- The head of a FIFO is handed to the block its port and kind name (R30, R31). FILL on either port and TIMING on LF do not
enter a FIFO (R25, R26); such a head would be consumed. -/
def State.handHead (s : State) (p : Port) (cell : Cell) : State :=
  match p, cell.header.kind with
  | .nf, .data => s.handData cell
  | .nf, .timing => (s.popFifo .nf).takeTiming cell
  | .nf, .control => (s.popFifo .nf).offerCommand .network cell
  | .nf, .fill => s.popFifo .nf
  | .lf, .data => s.handClipCell cell
  | .lf, .control => (s.popFifo .lf).offerCommand .localFeed cell
  | .lf, .timing => s.popFifo .lf
  | .lf, .fill => s.popFifo .lf

/-- INTAKE_HEAD_HANDOFF (R28): the cell at the head is handed to its block, once; an empty FIFO, or a head that waits for its
grant, hands nothing. -/
def execIntakeHeadHandoff (p : Port) (s : State) : Answer :=
  match (s.intake p).fifo with
  | [] => .next s
  | cell :: _ => if s.headWaits p then .next s else .next (s.handHead p cell)

end Sys2Proof.Machine
end

