-- ==== Sys2Proof/Machine/StoreSteps.lean ====
section
/-! DEFINITION. The rows of the cell store and of the Emitter: CELL_STORE_ACCESS_END, EMITTER_STAGING_READ, SLOT_START,
EVENT_ARMING. -/

namespace Sys2Proof.Machine

/-- The access of a store ends (R98): a write leaves its data in its block; a read leaves its copy in the staging buffer,
unless its item has been dropped (R104). -/
def CellStore.endAccess (c : CellStore) : CellStore :=
  match c.access with
  | none => c
  | some (.write b d) => { c with access := none, dram := dramWrite c.dram b d }
  | some (.read r wanted) =>
    { c with
      access := none
      staged := if wanted then c.staged ++ [⟨r.item, dramRead c.dram r.block⟩] else c.staged }

/-- The block of the access in progress. -/
def Access.block : Access → Nat
  | .write b _ => b
  | .read r _ => r.block

/-- CELL_STORE_ACCESS_END (R98, R102): the running access completes and the arbiter makes its next grant. With no access
running, none ends. A block the store does not have is a fault (R93). -/
def execCellStoreAccessEnd (s : State) : Answer :=
  match s.store.access with
  | none => .next s
  | some a =>
    if a.block < storeBlocks then .next ({ s with store := s.store.endAccess } : State).arbitrate
    else .fault (.absentBlock a.block)

/-- An item is already staged or being read (R104). -/
def CellStore.holds (c : CellStore) (i : StagedItem) : Bool :=
  c.staged.any (fun x => decide (x.item = i)) ||
    match c.access with
    | some (.read r wanted) => wanted && decide (r.item = i)
    | _ => false

/-- The write into a block is still running (R104: "its write has ended"). -/
def CellStore.writing (c : CellStore) (b : Nat) : Bool :=
  match c.access with
  | some (.write b' _) => decide (b' = b)
  | _ => false

/-- The place in the queue of the record a read would stage: the nearest to the head, within the first 64, that is not staged and
whose write has ended (R104). -/
def State.unstagedPlace (s : State) : Option Nat :=
  (List.range (min stagingPlaces s.queue.length)).find? (fun i =>
    !s.store.holds (.record (s.store.recordBlock i)) && !s.store.writing (s.store.recordBlock i))

/-- The read that stages the next cell of a member of a CUED or PLAYING clip (R104). -/
def State.clipRead (s : State) (c m : Nat) : Option ReadRequest :=
  let clip := s.clipAt c
  let x := clip.memberAt m
  if (clip.state = .cued ∨ clip.state = .playing) ∧ clip.hasMember m ∧ x.cursor < x.count then
    let item := StagedItem.clipCell c m x.cursor
    if s.store.holds item then none else some ⟨item, clipCellBlock s.store.setting x x.cursor⟩
  else none

/-- The read of an item that may be staged next (R104). -/
def State.candidateRead (s : State) : StageChoice → Option ReadRequest
  | .nearestRecord => s.unstagedPlace.map (fun i => ⟨.record (s.store.recordBlock i), s.store.recordBlock i⟩)
  | .clipCell c m => s.clipRead c m

/-- The cursor of a clip member. -/
def State.cursorAt (s : State) (c m : Nat) : Nat := ((s.clipAt c).memberAt m).cursor

/-- The place, counted from `place`, of the record in a list whose replacement takes the next cell of a clip member, when the
records go through the Splice Switch in order; `none` where none does (R104, R140, R149; notes/assumptions/4.md). -/
def State.cellPlace (s : State) (c m place : Nat) : List Record → Option Nat
  | [] => none
  | r :: rest =>
    let t := (s.switchRecord r).1
    if t.cursorAt c m = s.cursorAt c m then t.cellPlace c m (place + 1) rest
    else if t.cursorAt c m = s.cursorAt c m + 1 then some place
    else none

/-- The place in the queue at which an item that may be staged next is used, so far as the queue shows it (R104). -/
def State.usePlace (s : State) : StageChoice → Option Nat
  | .nearestRecord => s.unstagedPlace
  | .clipCell c m => s.cellPlace c m 0 s.queue

/-- An item used at one place is used sooner than one used at another, or than one the queue does not use (R104). -/
def usedSooner : Option Nat → Option Nat → Bool
  | some i, some j => decide (i < j)
  | some _, none => true
  | none, _ => false

/-- Every item the Emitter may choose among: the nearest record, and the next cell of each clip member (R104). -/
def stageChoices : List StageChoice :=
  .nearestRecord :: (List.range 64).flatMap (fun c => (List.range 4).map (fun m => .clipCell c m))

/-- The read an EMITTER_STAGING_READ presents: the chosen item's, unless another item that may be staged is used sooner (R104). -/
def State.stagingRead (s : State) (choice : StageChoice) : Option ReadRequest :=
  if stageChoices.any (fun other => (s.candidateRead other).isSome && usedSooner (s.usePlace other) (s.usePlace choice)) then none
  else s.candidateRead choice

/-- EMITTER_STAGING_READ (R104, R102): the Emitter presents one read at a time, of the item it will use soonest, granted at once
where the store is idle. With a read already waiting, nothing to stage at the row's choice, or an item used sooner than the
choice, none is presented (notes/assumptions/4.md, 6.md). -/
def execEmitterStagingRead (choice : StageChoice) (s : State) : Answer :=
  if s.store.readWaiting.isSome then .next s
  else
    match s.stagingRead choice with
    | none => .next s
    | some r => .next ({ s with store := { s.store with readWaiting := some r } } : State).arbitrate

/-- SLOT_START (R80, R84 to R87): when the subsecond stands at the start of slot i + 1, the slot begins and is filled;
otherwise no slot begins and nothing changes (notes/assumptions/6.md). -/
def execSlotStart (s : State) : Answer :=
  if s.slotDue then
    .next ({ s with emitter := { s.emitter with slot := s.emitter.slot + 1 } } : State).beginSlot
  else .next s

/-- EVENT_ARMING (R128): every event of the pending order due at nominal now is taken up for arming. -/
def execEventArming (s : State) : Answer := .next s.armDue

end Sys2Proof.Machine
end

