-- ==== Sys2Proof/Machine/ControlSteps.lean ====
section
/-! DEFINITION. The taking of a command (R158 to R162) and the rows MONITOR_CELL_SENT, UNKNOWN, STATUS, STATS, RESTART. -/

namespace Sys2Proof.Machine

/-! ### The monitor port -/

/-- MONITOR_CELL_SENT (R164): the head of the monitor queue has been sent whole, with the monitor continuity count, which
advances; it leaves the queue and its place is free. While the queue is empty the port idles and no cell is sent. A command
that waited for a place may now be taken: its taking is its own row (R159). -/
def execMonitorCellSent (s : State) : Answer :=
  match s.control.monitor with
  | [] => .next s
  | cell :: rest =>
    .next (({ s with control := { s.control with
      monitor := rest
      line := some (cell.toCell s.control.count)
      count := s.control.count + 1 } } : State).discardForeign)

/-! ### The taking of a command -/

/-- The command that can be taken: the head of the command queue, when it is this part's and the monitor queue has a free place
(R158, R159). -/
def State.commandDue (s : State) : Option Command :=
  match s.control.queue with
  | [] => none
  | c :: _ => if s.control.foreign c || decide (monitorPlaces ≤ s.control.monitor.length) then none else some c

/-- The command leaves the command queue (R159). -/
def State.popCommand (s : State) : State :=
  { s with control := { s.control with queue := s.control.queue.tail } }

/-- A command is addressed, not broadcast (R158). -/
def Command.addressed (c : Command) : Bool := decide (c.address ≠ broadcastAddress)

/-- The checks common to every command of the catalogue, then its own rule (R160). -/
def State.checked (s : State) (name : CommandName) (c : Command) (body : Command → State → State) : State :=
  if c.addressed && !name.epochExempt && decide (c.epoch ≠ s.control.epoch) then s.reply c .badEpoch []
  else if decide (c.origin = .localFeed) && name.networkOnly then s.reply c .notPermitted []
  else body c s

/-- The taking of a command of the catalogue, as one event (R159, R160); the next head is then examined (R158). Where the
command at the head is not this one, or none can be taken, none is taken and nothing changes (notes/assumptions/6.md). -/
def State.takeCommand (s : State) (name : CommandName) (body : Command → State → State) : Answer :=
  match s.commandDue with
  | none => .next s
  | some c =>
    if commandOfCode c.code = some name then .next (s.popCommand.checked name c body).discardForeign else .next s

/-- UNKNOWN (R160): a taken command whose code names no command is replied UNKNOWN. -/
def execUnknown (s : State) : Answer :=
  match s.commandDue with
  | none => .next s
  | some c =>
    match commandOfCode c.code with
    | none => .next (s.popCommand.reply c .unknown []).discardForeign
    | some _ => .next s

/-! ### STATUS -/

/-- The data of a STATUS reply (R165, R169). R165 names "delineation state of each intake" without saying whose stands first: that
the Network Intake's does is the model's (DESIGN CHOICE, notes/assumptions/39.md). -/
def State.statusData (s : State) : List Byte :=
  bytes1 s.clock.state.code ++ bytesFlag s.clock.inStep ++ s.stampBytes ++ bytes2 s.clock.hold ++
    bytesOption 10 bytesPlan s.plan.current ++ bytesOption 10 bytesPlan s.plan.pending ++ bytesFlag s.plan.stale ++
    bytesTrim s.plan.trim ++ bytes2 s.emitter.lateAllowance ++ bytes1 s.clock.window ++ bytes2 s.clock.limit ++
    bytes1 s.emitter.state.code ++ bytes1 s.emitter.change.code ++ bytes4 s.queue.length ++ bytes1 s.store.setting ++
    bytes2 s.store.free.length ++ bytes1 s.nf.delineation.code ++ bytes1 s.lf.delineation.code ++
    bytes1 s.control.queue.length ++ bytesFlag s.control.noticesLost ++ bytes2 s.splicedSet ++
    bytes4 s.control.epoch.toNat ++ bytes2 s.control.site.toNat

/-- STATUS's own rule (R165): the report, then the notices-lost flag becomes 0. -/
def statusBody (c : Command) (s : State) : State :=
  let t := s.reply c .ok s.statusData
  { t with control := { t.control with noticesLost := false } }

/-- STATUS (R165). -/
def execStatus (s : State) : Answer := s.takeCommand .status statusBody

/-! ### STATS -/

/-- The ten NF counters in the order of R33 (R169). -/
def PortCounters.nfBytes (c : PortCounters) : List Byte :=
  bytes4 c.goodCells ++ bytes4 c.headerErrors ++ bytes4 c.syncLosses ++ bytes4 c.kindLane ++ bytes4 c.badStamps ++
    bytes4 c.overflows ++ bytes4 c.continuityErrors ++ bytes4 c.notMapped ++ bytes4 c.badTiming ++ bytes4 c.lateTiming

/-- The seven LF counters in the order of R33 (R169). -/
def PortCounters.lfBytes (c : PortCounters) : List Byte :=
  bytes4 c.goodCells ++ bytes4 c.headerErrors ++ bytes4 c.syncLosses ++ bytes4 c.kindLane ++ bytes4 c.kindNotPermitted ++
    bytes4 c.badStamps ++ bytes4 c.overflows

/-- The eight emitter counters in the order of R90 (R169). -/
def EmitterCounters.bytes (c : EmitterCounters) : List Byte :=
  bytes4 c.fillEmitted ++ bytes4 c.lateEmitted ++ bytes4 c.tooLate ++ bytes4 c.orderClamps ++ bytes4 c.queueFull ++
    bytes4 c.notRunning ++ bytes4 c.clipShort ++ bytes4 c.clipTruncated

/-- One watch entry: presence byte, lane and five counters (R51, R169). -/
def WatchEntry.bytes (w : WatchEntry) : List Byte :=
  bytesOption 2 bytes2 w.lane ++ bytes4 w.arrived ++ bytes4 w.contErrors ++ bytes4 w.queued ++ bytes4 w.emitted ++
    bytes4 w.discarded

/-- The data of STATS with selector 0: 28 counters (R166, R169). -/
def State.countersData (s : State) : List Byte :=
  s.nf.counters.nfBytes ++ s.lf.counters.lfBytes ++ s.emitter.counters.bytes ++ bytes4 s.clipLanesOut ++
    bytes4 s.clipUnexpected ++ bytes4 s.control.controlDrops

/-- The counters of STATS with selector 0 set to 0 (R166). -/
def State.clearCounters (s : State) : State :=
  { s with
    nf := { s.nf with counters := .zero }
    lf := { s.lf with counters := .zero }
    emitter := { s.emitter with counters := .zero }
    clipLanesOut := 0
    clipUnexpected := 0
    control := { s.control with controlDrops := 0 } }

/-- The watch entry of a number (R48). -/
def State.watchAt (s : State) (n : Nat) : WatchEntry := rowAt s.watch n .afterReset

/-- The five counters of a watch entry set to 0, its lane kept (R51). -/
def WatchEntry.cleared (w : WatchEntry) : WatchEntry := ⟨w.lane, 0, 0, 0, 0, 0⟩

/-- The entries of a selector 1 to 4: four in a row (R51). -/
def statsEntries (selector : Nat) : List Nat := (List.range 4).map (fun i => 4 * (selector - 1) + i)

/-- The data of STATS with selector 1 to 4 (R51, R169). -/
def State.watchData (s : State) (selector : Nat) : List Byte :=
  (statsEntries selector).flatMap (fun n => (s.watchAt n).bytes)

/-- The counters of four watch entries set to 0 (R51). -/
def State.clearWatch (s : State) (selector : Nat) : State :=
  { s with watch := (statsEntries selector).foldl (fun v n => setRow v n (rowAt v n .afterReset).cleared) s.watch }

/-- STATS's own rule (R166). -/
def statsBody (c : Command) (s : State) : State :=
  if 4 < c.selector then s.reply c .badArgument []
  else if c.selector = 0 then (s.reply c .ok s.countersData).clearCounters
  else (s.reply c .ok (s.watchData c.selector)).clearWatch c.selector

/-- STATS (R166). -/
def execStats (s : State) : Answer := s.takeCommand .stats statsBody

/-! ### RESTART -/

/-- The intakes at a RESTART: both FIFOs emptied and the waiting writes withdrawn; a network cell whose write waited is reported
to the watch list as discarded (R34, R50, R105). -/
def State.restartIntakes (s : State) : State :=
  let told :=
    match s.store.nfWaiting with
    | some r => s.watchLane r.inLane WatchEntry.addDiscarded
    | none => s
  { told with
    nf := { told.nf with fifo := [] }
    lf := { told.lf with fifo := [] }
    store := { told.store with nfWaiting := none, lfWaiting := none } }

/-- The command queue emptied and the new epoch drawn (R167, steps 2 and 3; R161). -/
def State.restartControl (s : State) : State :=
  { s with control := { s.control with
      queue := []
      epoch := drawEpoch s.control.epochCounter (some s.control.epoch) } }

/-- Every PENDING, ARMED and IN event becomes CANCELLED, cause RESTART, in ascending order of event number; IN events end their
splices (R138, R154). -/
def State.cancelAll (s : State) : State :=
  eventNumbers.foldl (fun t e =>
    match (t.eventAt e).state with
    | .pending => t.finishEvent e .cancelled (some .restart) none
    | .armed => t.finishEvent e .cancelled (some .restart) none
    | .onAir => t.endSplice e .cancelled .restart
    | .free => t
    | .done => t
    | .failed => t
    | .cancelled => t) s

/-- The emitter at a RESTART: STOPPED, nothing pending, the queue flushed; from MUTED or RUNNING with an EMITTER notice (R92). -/
def State.restartEmitter (s : State) : State :=
  let before := s.emitter.state
  let n := s.queue.length
  let t := s.flushQueue
  let u : State := { t with emitter := { t.emitter with state := .stopped, change := .none } }
  if before = .stopped then u else u.notifyEmitter before .restart n

/-- RESTART's own rule (R167): the reply carries the new epoch and the number of commands discarded, and the notices follow
it. -/
def restartBody (c : Command) (s : State) : State :=
  ((s.restartIntakes.restartControl.reply c .ok (bytes1 s.control.queue.length)).cancelAll).restartEmitter

/-- RESTART (R167). -/
def execRestart (s : State) : Answer := s.takeCommand .restart restartBody

end Sys2Proof.Machine
end

