-- ==== Sys2Proof/Machine/TableSteps.lean ====
section
/-! DEFINITION. The commands that load and read tables and settings: LANE MAP LOAD, LANE MAP READ, GROUP SET, WATCH SET, SITE
SET, CLOCK SET, PARTITION, EMIT START, EMIT STOP. -/

namespace Sys2Proof.Machine

/-! ### LANE MAP LOAD and LANE MAP READ -/

/-- The largest mappable lane (R35). -/
abbrev lastLane : Nat := 1021

/-- The content an entry of a load gives, by its action code; `none` for a code that names no action (R40, R171). -/
def RawEntry.content (x : RawEntry) : Option LaneEntry :=
  match x.action with
  | 0 => some .drop
  | 1 => some (.pass x.output)
  | 2 => some (.member x.output x.group x.position)
  | _ => none

/-- The output lane of an entry, absent for DROP (R35). -/
def LaneEntry.output : LaneEntry → Option Nat
  | .drop => none
  | .pass o => some o
  | .member o _ _ => some o

/-- The group and member of an entry, absent but for MEMBER (R35). -/
def LaneEntry.place : LaneEntry → Option GroupPlace
  | .drop => none
  | .pass _ => none
  | .member _ g m => some ⟨g, m⟩

/-- An output lane a programme lane may have: 1..1021 (R35). -/
def outputInRange (o : Option Nat) : Bool :=
  match o with
  | none => true
  | some lane => decide (1 ≤ lane) && decide (lane ≤ 1021)

/-- A group 0..15 and a member 0..3 (R40, check 4). -/
def placeInRange (p : Option GroupPlace) : Bool :=
  match p with
  | none => true
  | some q => decide (q.group ≤ 15) && decide (q.position ≤ 3)

/-- An entry at another index shares a present item (R40, checks 5 and 6). -/
def State.heldElsewhere {α : Type} [DecidableEq α] (s : State) (index : Nat) (item : LaneEntry → Option α)
    (x : Option α) : Bool :=
  x.isSome && s.laneMap.toList.zipIdx.any (fun p => decide (p.2 ≠ index) && decide (item p.1 = x))

/-- An entry is MEMBER of a group with an active event (R40, check 7). -/
def State.liveEntry (s : State) (e : LaneEntry) : Bool :=
  match e.place with
  | none => false
  | some q => (s.groupAt q.group).active.isSome

/-- The checks of an entry of a load, in order: the content to apply, or the reason of the first that fails (R40). -/
def State.checkEntry (s : State) (index : Nat) (x : RawEntry) : Except Result LaneEntry :=
  if lastLane < index then .error .badArgument
  else
    match x.content with
    | none => .error .badArgument
    | some e =>
      if outputInRange e.output = false then .error .badArgument
      else if placeInRange e.place = false then .error .badArgument
      else if s.heldElsewhere index LaneEntry.output e.output then .error .overlap
      else if s.heldElsewhere index LaneEntry.place e.place then .error .overlap
      else if s.liveEntry (s.laneEntry index) || s.liveEntry e then .error .inUse
      else .ok e

/-- An entry is applied: the lane map entry is replaced whole and the lane's continuity entry becomes none (R41). -/
def State.applyEntry (s : State) (index : Nat) (e : LaneEntry) : State :=
  { s with laneMap := setRow s.laneMap index e, continuity := setRow s.continuity index none }

/-- The entries of a load from an index on: the state after those applied, how many were, and the reason that ended the load,
if one did (R39, R40, R41). -/
def State.loadEntries (s : State) (index applied : Nat) : List RawEntry → State × Nat × Option Result
  | [] => (s, applied, none)
  | x :: rest =>
    match s.checkEntry index x with
    | .error reason => (s, applied, some reason)
    | .ok e => (s.applyEntry index e).loadEntries (index + 1) (applied + 1) rest

/-- LANE MAP LOAD's own rule (R39 to R42, R171). -/
def laneMapLoadBody (c : Command) (s : State) : State :=
  if c.entryCount = 0 ∨ 28 < c.entryCount then s.reply c .badArgument []
  else
    match s.loadEntries c.firstIndex 0 c.rawEntries with
    | (t, n, none) => t.reply c .ok (bytes4 c.firstIndex ++ bytes1 Result.ok.code ++ bytes1 n)
    | (t, n, some reason) =>
      t.reply c .partialLoad (bytes4 (c.firstIndex + n) ++ bytes1 reason.code ++ bytes1 n)

/-- LANE MAP LOAD (R39). -/
def execLaneMapLoad (s : State) : Answer := s.takeCommand .laneMapLoad laneMapLoadBody

/-- A lane map entry in four bytes, absent fields as 0 (R171). -/
def LaneEntry.bytes : LaneEntry → List Byte
  | .drop => [0, 0, 0, 0]
  | .pass o => bytes1 16 ++ bytes1 0 ++ bytes2 o
  | .member o g m => bytes1 (32 + m) ++ bytes1 g ++ bytes2 o

/-- The number of entries a LANE MAP READ reports (R44). -/
def readCount (first count : Nat) : Nat := min count (lastLane + 1 - first)

/-- LANE MAP READ's own rule (R44, R171). -/
def laneMapReadBody (c : Command) (s : State) : State :=
  if lastLane < c.firstIndex ∨ c.entryCount = 0 ∨ 28 < c.entryCount then s.reply c .badArgument []
  else
    let n := readCount c.firstIndex c.entryCount
    s.reply c .ok (bytes2 c.firstIndex ++ bytes1 n ++
      (List.range n).flatMap (fun i => (s.laneEntry (c.firstIndex + i)).bytes))

/-- LANE MAP READ (R44). -/
def execLaneMapRead (s : State) : Answer := s.takeCommand .laneMapRead laneMapReadBody

/-! ### GROUP SET and WATCH SET -/

/-- A group's record as the reply to GROUP SET reports it (R47). -/
def State.groupData (s : State) (g : Nat) : List Byte :=
  bytes1 g ++ bytesFlag (s.groupAt g).localAllowed ++ bytes1 (s.groupAt g).state.code ++
    bytesOption 1 bytes1 (s.groupAt g).active ++ (List.range 4).flatMap (fun m => bytesOption 2 bytes2 (s.memberLane g m))

/-- GROUP SET's own rule (R47). -/
def groupSetBody (c : Command) (s : State) : State :=
  if 15 < c.groupArg ∨ 1 < c.localAllowedArg then s.reply c .badArgument []
  else
    let t := s.setGroup c.groupArg { s.groupAt c.groupArg with localAllowed := decide (c.localAllowedArg = 1) }
    t.reply c .ok (t.groupData c.groupArg)

/-- GROUP SET (R47). -/
def execGroupSet (s : State) : Answer := s.takeCommand .groupSet groupSetBody

/-- The lane of a WATCH SET: `none` for none, and no value for a presence byte other than 0 and 1 or a lane above 1021 (R49,
R169). -/
def Command.watchedLane (c : Command) : Option (Option Nat) :=
  if c.watchPresence = 0 then some none
  else if c.watchPresence = 1 ∧ c.watchLaneArg ≤ lastLane then some (some c.watchLaneArg)
  else none

/-- WATCH SET's own rule (R49). -/
def watchSetBody (c : Command) (s : State) : State :=
  if 15 < c.watchArg then s.reply c .badArgument []
  else
    match c.watchedLane with
    | none => s.reply c .badArgument []
    | some lane =>
      ({ s with watch := setRow s.watch c.watchArg ⟨lane, 0, 0, 0, 0, 0⟩ } : State).reply c .ok
        (bytes1 c.watchArg ++ bytesOption 2 bytes2 lane)

/-- WATCH SET (R49). -/
def execWatchSet (s : State) : Answer := s.takeCommand .watchSet watchSetBody

/-! ### SITE SET and CLOCK SET -/

/-- A site trim clamped to −500,000..+500,000 (R62). -/
def clampTrim (t : Int) : Int := max (-500000) (min 500000 t)

/-- SITE SET's own rule (R62): trim and late allowance are set, clamped. A trim that changes moves nominal now and takes the
arming this brings about (R128), behind the reply; the trim already in force arms nothing. -/
def siteSetBody (c : Command) (s : State) : State :=
  let t : State := { s with
    plan := { s.plan with trim := clampTrim c.trimArg }
    emitter := { s.emitter with lateAllowance := min 255 c.lateArg } }
  let r := t.reply c .ok (bytesTrim t.plan.trim ++ bytes2 t.emitter.lateAllowance)
  if t.plan.trim = s.plan.trim then r else r.armDue

/-- SITE SET (R62). -/
def execSiteSet (s : State) : Answer := s.takeCommand .siteSet siteSetBody

/-- CLOCK SET's own rule (R17): pulse window and holdover limit are set, clamped; a HOLDOVER past the new limit becomes
UNLOCKED, with a CLOCK notice behind the reply. -/
def clockSetBody (c : Command) (s : State) : State :=
  let t : State := { s with clock := { s.clock with
    window := max 1 (min 100 c.windowArg)
    limit := min 3600 c.limitArg } }
  let r := t.reply c .ok (bytes1 t.clock.window ++ bytes2 t.clock.limit)
  ({ r with clock := r.clock.checkHold } : State).notifyClock s.clock.state .setting

/-- CLOCK SET (R17). -/
def execClockSet (s : State) : Answer := s.takeCommand .clockSet clockSetBody

/-! ### PARTITION -/

/-- What a PARTITION reply reports of the partition in force (R100). -/
def State.partitionData (s : State) : List Byte :=
  bytes1 s.store.setting ++ bytes4 (emissionBlocks s.store.setting) ++ bytes2 (clipExtents s.store.setting) ++
    bytes2 s.store.free.length

/-- Every clip is EMPTY (R100, condition 3). -/
def State.clipsEmpty (s : State) : Bool := s.clips.toList.all (fun r => decide (r.state = .empty))

/-- The partition set and the free extent list rebuilt (R101). -/
def State.repartition (s : State) (setting : Nat) : State :=
  { s with store := { s.store with
      setting := setting
      free := List.range (clipExtents setting)
      ringHead := 0
      ringTail := 0 } }

/-- PARTITION's own rule (R100, R101). -/
def partitionBody (c : Command) (s : State) : State :=
  if 3 < c.settingArg then s.reply c .badArgument s.partitionData
  else if s.emitter.state ≠ .stopped then s.reply c .inUse s.partitionData
  else if s.clipsEmpty = false then s.reply c .inUse s.partitionData
  else (s.repartition c.settingArg).reply c .ok (s.repartition c.settingArg).partitionData

/-- PARTITION (R100). -/
def execPartition (s : State) : Answer := s.takeCommand .partition partitionBody

/-! ### EMIT START and EMIT STOP -/

/-- What the replies to EMIT START and EMIT STOP report (R78, R79). -/
def State.emitData (s : State) : List Byte := bytes1 s.emitter.state.code ++ bytes1 s.emitter.change.code

/-- The pending change becomes the one given. -/
def State.setChange (s : State) (x : PendingChange) : State := { s with emitter := { s.emitter with change := x } }

/-- EMIT START's own rule (R78). -/
def emitStartBody (c : Command) (s : State) : State :=
  if s.plan.current.isNone then s.reply c .noPlan s.emitData
  else if s.emitter.state = .stopped then (s.setChange .start).reply c .ok (s.setChange .start).emitData
  else s.reply c .wrongState s.emitData

/-- EMIT START (R78). -/
def execEmitStart (s : State) : Answer := s.takeCommand .emitStart emitStartBody

/-- EMIT STOP's own rule (R79). -/
def emitStopBody (c : Command) (s : State) : State :=
  if s.emitter.state ≠ .stopped then (s.setChange .stop).reply c .ok (s.setChange .stop).emitData
  else if s.emitter.change = .start then (s.setChange .none).reply c .ok (s.setChange .none).emitData
  else s.reply c .wrongState s.emitData

/-- EMIT STOP (R79). -/
def execEmitStop (s : State) : Answer := s.takeCommand .emitStop emitStopBody

end Sys2Proof.Machine
end

