-- ==== Sys2Proof/Machine/ClipSteps.lean ====
section
/-! DEFINITION. The clip commands: CLIP OPEN, CLIP CLOSE, CLIP REMOVE, CLIP QUERY. -/

namespace Sys2Proof.Machine

/-- The largest clip number (R113). -/
abbrev lastClip : Nat := 63

/-- The check value of a clip: its running check inverted (R106, R110). -/
def ClipRecord.checkValue (r : ClipRecord) : Word32 := ~~~r.check

/-- The four cell counts of a clip (R114). -/
def ClipRecord.counts (r : ClipRecord) : List Nat := (List.range 4).map (fun m => (r.memberAt m).count)

/-- What a CLIP OPEN reply reports (R113). -/
def State.openData (s : State) (n : Nat) : List Byte :=
  bytes1 n ++ bytes1 (s.clipAt n).state.code ++ bytes1 ((s.clipAt n).memberCount.getD 0) ++ bytes2 s.store.free.length

/-- A clip opened into LOADING (R113): every count and cursor 0, the running check at its initial value. -/
def ClipRecord.opened (r : ClipRecord) (members : Nat) (origin : Origin) : ClipRecord :=
  { r with
    state := .loading
    memberCount := some members
    origin := some origin
    check := checkStart
    lost := 0
    members := r.members.map (fun m => { m with count := 0, cursor := 0 }) }

/-- CLIP OPEN's own rule (R113). -/
def clipOpenBody (c : Command) (s : State) : State :=
  let n := c.clipArg
  if lastClip < n then s.reply c .badArgument []
  else if c.memberCountArg = 0 ∨ 4 < c.memberCountArg then s.reply c .badArgument []
  else if (s.clipAt n).state = .empty then
    let t := s.setClip n ((s.clipAt n).opened c.memberCountArg c.origin)
    t.reply c .ok (t.openData n)
  else s.reply c .wrongState (s.openData n)

/-- CLIP OPEN (R113). -/
def execClipOpen (s : State) : Answer := s.takeCommand .clipOpen clipOpenBody

/-- The counts and the check value given agree with the clip's (R114). -/
def ClipRecord.agrees (r : ClipRecord) (c : Command) : Bool :=
  decide (r.counts = c.closeCounts) && decide (r.checkValue = c.closeCheck)

/-- A clip closed in agreement: READY with every cursor 0 (R114). -/
def ClipRecord.closed (r : ClipRecord) : ClipRecord :=
  { r with state := .ready, members := r.members.map (fun m => { m with cursor := 0 }) }

/-- CLIP CLOSE's own rule (R114). -/
def clipCloseBody (c : Command) (s : State) : State :=
  let n := c.clipArg
  let r := s.clipAt n
  let report := bytes1 n ++ r.counts.flatMap bytes4 ++ bytes4 r.checkValue.toNat
  if lastClip < n then s.reply c .badArgument []
  else if r.state ≠ .loading then s.reply c .wrongState []
  else if r.agrees c then
    (s.setClip n r.closed).reply c .ok
      (report ++ (List.range 4).flatMap (fun m => bytes2 (r.memberAt m).extents.length))
  else (s.releaseClip n).reply c .checkFailed (report ++ bytes4 r.lost ++ bytes2 r.allExtents.length)

/-- CLIP CLOSE (R114). -/
def execClipClose (s : State) : Answer := s.takeCommand .clipClose clipCloseBody

/-- What a CLIP REMOVE reply reports (R115). -/
def State.removeData (s : State) (n released : Nat) : List Byte :=
  bytes1 n ++ bytes1 (s.clipAt n).state.code ++ bytes2 released ++ bytes2 s.store.free.length

/-- CLIP REMOVE's own rule (R115). -/
def clipRemoveBody (c : Command) (s : State) : State :=
  let n := c.clipArg
  if lastClip < n then s.reply c .badArgument []
  else
    match (s.clipAt n).state with
    | .loading => (s.releaseClip n).reply c .ok ((s.releaseClip n).removeData n (s.clipAt n).allExtents.length)
    | .ready => (s.releaseClip n).reply c .ok ((s.releaseClip n).removeData n (s.clipAt n).allExtents.length)
    | .cued => s.reply c .inUse (s.removeData n 0)
    | .playing => s.reply c .inUse (s.removeData n 0)
    | .empty => s.reply c .wrongState (s.removeData n 0)

/-- CLIP REMOVE (R115). -/
def execClipRemove (s : State) : Answer := s.takeCommand .clipRemove clipRemoveBody

/-- One member as CLIP QUERY reports it (R116). -/
def ClipMember.queryBytes (m : ClipMember) : List Byte :=
  bytes4 m.count ++ bytes2 m.extents.length ++ bytes2 (m.fill.getD 0) ++ bytes4 m.cursor

/-- The extent numbers a CLIP QUERY reports: up to 24 from a place on (R116). -/
def reportedExtents (m : ClipMember) (place : Nat) : List Nat := (m.extents.drop place).take 24

/-- The data of a CLIP QUERY reply (R116). -/
def ClipRecord.queryData (r : ClipRecord) (member place : Nat) : List Byte :=
  let listed := reportedExtents (r.memberAt member) place
  bytes1 r.state.code ++ bytes1 (r.memberCount.getD 0) ++ bytes1 ((r.origin.map Origin.code).getD 0) ++
    bytes4 r.checkValue.toNat ++ bytes4 r.lost ++ (List.range 4).flatMap (fun m => (r.memberAt m).queryBytes) ++
    bytes1 listed.length ++ listed.flatMap bytes2

/-- CLIP QUERY's own rule (R113, R116). -/
def clipQueryBody (c : Command) (s : State) : State :=
  if lastClip < c.clipArg then s.reply c .badArgument []
  else if 3 < c.queryMember then s.reply c .badArgument []
  else s.reply c .ok ((s.clipAt c.clipArg).queryData c.queryMember c.queryPlace)

/-- CLIP QUERY (R116). -/
def execClipQuery (s : State) : Answer := s.takeCommand .clipQuery clipQueryBody

end Sys2Proof.Machine
end

