-- ==== Sys2Proof/Machine/SpliceSteps.lean ====
section
/-! DEFINITION. The splice commands: SPLICE ADD, SPLICE CANCEL, SPLICE QUERY. -/

namespace Sys2Proof.Machine

/-- The largest event number (R122). -/
abbrev lastEvent : Nat := 31

/-! ### SPLICE ADD -/

/-- What a SPLICE ADD asks for (R126). -/
def Command.spliceOrder (c : Command) : SpliceOrder := ⟨c.origin, c.addGroup, c.addClip, c.addIn, c.addOut⟩

/-- The length of an event in ticks (R124). -/
def SpliceOrder.length (o : SpliceOrder) : Int :=
  ((o.outTime.sec - o.inTime.sec).toNat : Int) * 10000000 + ((o.outTime.sub : Int) - (o.inTime.sub : Int))

/-- Check 3 of R126 passes. -/
def State.orderInRange (s : State) (o : SpliceOrder) : Bool :=
  decide (o.group ≤ 15) && decide (o.clip ≤ 63) && decide (o.inTime.sub < 10000000) && decide (o.outTime.sub < 10000000) &&
    decide (10000000 ≤ o.length) && decide (o.length ≤ 9000000000) && (s.memberLane o.group 0).isSome

/-- Two intervals overlap (R124). -/
def SpliceOrder.overlaps (a b : SpliceOrder) : Bool := a.inTime.earlier b.outTime && b.inTime.earlier a.outTime

/-- An event is PENDING, ARMED or IN (R126, check 5). -/
def EventState.live : EventState → Bool
  | .pending => true
  | .armed => true
  | .onAir => true
  | .free => false
  | .done => false
  | .failed => false
  | .cancelled => false

/-- An event is DONE, FAILED or CANCELLED (R122). -/
def EventState.final : EventState → Bool
  | .done => true
  | .failed => true
  | .cancelled => true
  | .free => false
  | .pending => false
  | .armed => false
  | .onAir => false

/-- The lowest event of the same group, PENDING, ARMED or IN, whose interval overlaps (R126, check 5). -/
def State.overlapping (s : State) (o : SpliceOrder) : Option Nat :=
  eventNumbers.find? (fun e =>
    (s.eventAt e).state.live && decide ((s.eventAt e).given.group = o.group) && (s.eventAt e).given.overlaps o)

/-- Of two entries in a final state, the one whose finish time is older, the first on equal times (R127). -/
def State.olderFinish (s : State) (best : Option Nat) (e : Nat) : Option Nat :=
  if (s.eventAt e).state.final then
    match best with
    | none => some e
    | some b =>
      if ((s.eventAt e).finish.getD default).earlier ((s.eventAt b).finish.getD default) then some e else some b
  else best

/-- The entry a SPLICE ADD is given: the lowest FREE one, else the final one whose finish is oldest (R127). -/
def State.entryFor (s : State) : Option Nat :=
  match eventNumbers.find? (fun e => decide ((s.eventAt e).state = .free)) with
  | some e => some e
  | none => eventNumbers.foldl s.olderFinish none

/-- A new event's record, written whole (R127). -/
def EventRecord.added (o : SpliceOrder) : EventRecord :=
  ⟨.pending, some o, false, none, none, none, none, none, 0, 0, 0, none⟩

/-- The OK reply of a SPLICE ADD (R127, R171). -/
def addedData (e : Nat) (o : SpliceOrder) (former : EventState) : List Byte :=
  bytes1 e ++ bytes1 o.group ++ bytes1 o.clip ++ bytesTime o.inTime ++ bytesTime o.outTime ++ bytesTime o.armingTime ++
    bytes1 former.code

/-- An event is written into an entry and joins the pending order (R125, R127). -/
def State.addEvent (s : State) (e : Nat) (o : SpliceOrder) : State :=
  let t := s.setEvent e (.added o)
  { t with order := t.orderWith e o.inTime }

/-- SPLICE ADD's own rule (R126, R127). -/
def spliceAddBody (c : Command) (s : State) : State :=
  let o := c.spliceOrder
  if s.clock.secondValid = false ∨ s.plan.current = none then s.reply c .notInStep []
  else if c.origin = .localFeed ∧ (15 < o.group ∨ (s.groupAt o.group).localAllowed = false) then
    s.reply c .notPermitted []
  else if s.orderInRange o = false then s.reply c .badArgument []
  else if o.inTime.earlier (s.nominalNow.addSeconds 3) then s.reply c .tooSoon (bytesTime s.nominalNow)
  else
    match s.overlapping o with
    | some e => s.reply c .overlap (bytes1 e)
    | none =>
      match s.entryFor with
      | none => s.reply c .noEntry []
      | some e => (s.addEvent e o).reply c .ok (addedData e o (s.eventAt e).state)

/-- SPLICE ADD (R126). -/
def execSpliceAdd (s : State) : Answer := s.takeCommand .spliceAdd spliceAddBody

/-! ### SPLICE CANCEL -/

/-- Check 2 of R133 refuses a cancel from local origin. -/
def State.cancelBarred (s : State) (r : EventRecord) : Bool :=
  decide (r.state = .free) || decide (r.given.origin = .network) || !(s.groupAt r.given.group).localAllowed

/-- A return is requested of an IN event; a first return time is kept (R134). -/
def State.requestReturn (s : State) (e : Nat) : State :=
  let r := s.eventAt e
  if r.returnRequested then s
  else s.setEvent e { r with returnRequested := true, returnTime := some s.nominalNow }

/-- The OK data of a cancel of an IN event: state, return-requested flag, return time (R134). -/
def EventRecord.returnData (r : EventRecord) : List Byte :=
  bytes1 r.state.code ++ bytesFlag r.returnRequested ++ bytesTime (r.returnTime.getD default)

/-- SPLICE CANCEL's own rule (R133, R134): the reply stands before the notice the cancel causes. -/
def spliceCancelBody (c : Command) (s : State) : State :=
  let e := c.eventArg
  let r := s.eventAt e
  if lastEvent < e then s.reply c .badArgument (bytes1 e)
  else if c.origin = .localFeed ∧ s.cancelBarred r = true then s.reply c .notPermitted (bytes1 e)
  else
    match r.state with
    | .pending =>
      (s.reply c .ok (bytes1 EventState.cancelled.code)).finishEvent e .cancelled (some .command) none
    | .armed =>
      (s.reply c .ok (bytes1 EventState.cancelled.code)).finishEvent e .cancelled (some .command) none
    | .onAir => (s.requestReturn e).reply c .ok ((s.requestReturn e).eventAt e).returnData
    | .free => s.reply c .wrongState (bytes1 e ++ bytes1 r.state.code)
    | .done => s.reply c .wrongState (bytes1 e ++ bytes1 r.state.code)
    | .failed => s.reply c .wrongState (bytes1 e ++ bytes1 r.state.code)
    | .cancelled => s.reply c .wrongState (bytes1 e ++ bytes1 r.state.code)

/-- SPLICE CANCEL (R133). -/
def execSpliceCancel (s : State) : Answer := s.takeCommand .spliceCancel spliceCancelBody

/-! ### SPLICE QUERY -/

/-- The arming time SPLICE QUERY reports: 0 where the entry has no in-time (R136). -/
def EventRecord.reportedArming (r : EventRecord) : Time :=
  match r.order with
  | some o => o.armingTime
  | none => ⟨0, 0⟩

/-- The event's place in the pending order, counted from 0 (R136). -/
def State.placeInOrder (s : State) (e : Nat) : Option Nat := s.order.findIdx? (fun x => decide (x = e))

/-- The data of a SPLICE QUERY reply (R136). -/
def State.queryEventData (s : State) (e : Nat) : List Byte :=
  let r := s.eventAt e
  bytes1 e ++ bytes1 r.state.code ++ bytesOption 1 (fun o => bytes1 (Origin.code o.origin)) r.order ++
    bytesOption 1 (fun o => bytes1 (SpliceOrder.group o)) r.order ++
    bytesOption 1 (fun o => bytes1 (SpliceOrder.clip o)) r.order ++
    bytesOption 8 (fun o => bytesTime (SpliceOrder.inTime o)) r.order ++
    bytesOption 8 (fun o => bytesTime (SpliceOrder.outTime o)) r.order ++
    bytesFlag r.returnRequested ++ bytesOption 8 bytesTime r.returnTime ++ bytesOption 8 bytesTime r.pIn ++
    bytesOption 8 bytesTime r.pOut ++ bytesOption 1 (fun c => bytes1 (EndingCause.code c)) r.cause ++
    bytesOption 1 (fun c => bytes1 (FailReason.code c)) r.reason ++ bytes4 r.replaced ++ bytes4 r.short ++
    bytes4 r.truncated ++ bytesOption 6 bytesSlotTime r.finish ++ bytesTime r.reportedArming ++
    bytesOption 2 bytes2 (s.placeInOrder e) ++ bytesTime s.nominalNow

/-- SPLICE QUERY's own rule (R136). -/
def spliceQueryBody (c : Command) (s : State) : State :=
  if lastEvent < c.eventArg then s.reply c .badArgument []
  else s.reply c .ok (s.queryEventData c.eventArg)

/-- SPLICE QUERY (R136). -/
def execSpliceQuery (s : State) : Answer := s.takeCommand .spliceQuery spliceQueryBody

end Sys2Proof.Machine
end

