-- ==== Sys2Proof/Machine/Dispatch.lean ====
section
/-! DEFINITION. One meaning for each row of spec/opcode_table.json. -/

namespace Sys2Proof.Machine

/-- The effect of a command on everything but the queue of waiting commands, one arm for each row of the table. -/
def exec (i : Instr) (s : State) : Host.Outcome State Fault Refusal :=
  match i with
  | .fullReset cause straps => Sys2Proof.Machine.execFullReset cause straps s
  | .countedEdge => Sys2Proof.Machine.execCountedEdge s
  | .epochCounterTick => Sys2Proof.Machine.execEpochCounterTick s
  | .secondBoundary => Sys2Proof.Machine.execSecondBoundary s
  | .timeCodeMessage intact second => Sys2Proof.Machine.execTimeCodeMessage intact second s
  | .pulse => Sys2Proof.Machine.execPulse s
  | .verdict => Sys2Proof.Machine.execVerdict s
  | .frequencyLoss => Sys2Proof.Machine.execFrequencyLoss s
  | .frequencyReturn => Sys2Proof.Machine.execFrequencyReturn s
  | .huntCandidate port byte => Sys2Proof.Machine.execHuntCandidate port byte s
  | .presyncHeader port bytes => Sys2Proof.Machine.execPresyncHeader port bytes s
  | .syncHeader port bytes => Sys2Proof.Machine.execSyncHeader port bytes s
  | .cellDelivery port bytes => Sys2Proof.Machine.execCellDelivery port bytes s
  | .intakeHeadHandoff port => Sys2Proof.Machine.execIntakeHeadHandoff port s
  | .cellStoreAccessEnd => Sys2Proof.Machine.execCellStoreAccessEnd s
  | .emitterStagingRead choice => Sys2Proof.Machine.execEmitterStagingRead choice s
  | .slotStart => Sys2Proof.Machine.execSlotStart s
  | .eventArming => Sys2Proof.Machine.execEventArming s
  | .monitorCellSent => Sys2Proof.Machine.execMonitorCellSent s
  | .unknown => Sys2Proof.Machine.execUnknown s
  | .status => Sys2Proof.Machine.execStatus s
  | .stats => Sys2Proof.Machine.execStats s
  | .restart => Sys2Proof.Machine.execRestart s
  | .laneMapLoad => Sys2Proof.Machine.execLaneMapLoad s
  | .laneMapRead => Sys2Proof.Machine.execLaneMapRead s
  | .groupSet => Sys2Proof.Machine.execGroupSet s
  | .watchSet => Sys2Proof.Machine.execWatchSet s
  | .siteSet => Sys2Proof.Machine.execSiteSet s
  | .clockSet => Sys2Proof.Machine.execClockSet s
  | .partition => Sys2Proof.Machine.execPartition s
  | .emitStart => Sys2Proof.Machine.execEmitStart s
  | .emitStop => Sys2Proof.Machine.execEmitStop s
  | .clipOpen => Sys2Proof.Machine.execClipOpen s
  | .clipClose => Sys2Proof.Machine.execClipClose s
  | .clipRemove => Sys2Proof.Machine.execClipRemove s
  | .clipQuery => Sys2Proof.Machine.execClipQuery s
  | .spliceAdd => Sys2Proof.Machine.execSpliceAdd s
  | .spliceCancel => Sys2Proof.Machine.execSpliceCancel s
  | .spliceQuery => Sys2Proof.Machine.execSpliceQuery s

end Sys2Proof.Machine
end

