-- ==== Sys2Proof/Safety.lean ====
section
/-! DEFINITION. The laws the spec says the part keeps, block by block, and the terms in which claims speak of pulses, headers
and commands. A safe state meets every law; each is meant to be kept by every step from every state that meets it. -/

namespace Sys2Proof.Machine

/-! ### Site Clock (R1, R8) -/

/-- The phase errors of a record lie between two bounds (R8). -/
def PhaseErrors.within (p : PhaseErrors) (lo hi : Int) : Prop :=
  lo ≤ p.first ∧ p.first ≤ hi ∧ lo ≤ p.nearest ∧ p.nearest ≤ hi

/-- Every item of the Site Clock lies in the range R1 gives it, and every phase error in the range R8 gives it. -/
structure SiteClock.law (c : SiteClock) : Prop where
  subsecond : c.subsecond < 10000000
  good : c.good ≤ 3
  bad : c.bad ≤ 2
  mismatch : c.mismatch ≤ 2
  hold : c.hold ≤ 3601
  window : 1 ≤ c.window ∧ c.window ≤ 100
  limit : c.limit ≤ 3600
  passed : ∀ p, c.passed = some p → p.within (-5000000) 4999999
  coming : ∀ p, c.coming = some p → p.within (-5000000) (-1)

/-- A HOLDOVER clock has a hold count no greater than the holdover limit, so that it is in step while second-valid is 1
(R13, R15, R17). -/
def SiteClock.heldWithin (c : SiteClock) : Prop := c.state = .holdover → c.hold ≤ c.limit

/-! ### FIFOs and queues (R19, R27, R32, R157 to R159, R163) -/

/-- The FIFOs, the command queue and the monitor queue hold no more than their places, and no command that is not this
part's stands at the head of the command queue. -/
structure State.queueLaw (s : State) : Prop where
  nf : s.nf.fifo.length ≤ 32
  lf : s.lf.fifo.length ≤ 32
  commands : s.control.queue.length ≤ 8
  monitor : s.control.monitor.length ≤ 16
  head : ∀ c, s.control.queue.head? = some c → s.control.foreign c = false

/-! ### Plans and emitter settings (R52, R62, R76, R78) -/

/-- A plan's hold and slot count pass the checks of R54. -/
def Plan.law (p : Plan) : Prop := p.hold ≤ 15000000 ∧ 1000 ≤ p.slots ∧ p.slots ≤ 60000

/-- The plans lie in range, a pending plan exists only while a current plan exists, the plan-stale flag is 1 exactly while the
stale timer stands at 80,000,000, the settings lie in range, and an emitter that has been told to start has a current plan,
and one that is not STOPPED has a slot count for its second. -/
structure State.planLaw (s : State) : Prop where
  current : ∀ p, s.plan.current = some p → p.law
  pending : ∀ p, s.plan.pending = some p → p.law ∧ s.plan.current.isSome
  timer : s.plan.staleTimer ≤ 80000000
  stale : s.plan.stale = true ↔ s.plan.staleTimer = 80000000
  idle : s.plan.current = none → s.plan.staleTimer = 0
  trim : -500000 ≤ s.plan.trim ∧ s.plan.trim ≤ 500000
  late : s.emitter.lateAllowance ≤ 255
  started : s.emitter.state ≠ .stopped ∨ s.emitter.change = .start → s.plan.current.isSome
  slots : s.emitter.state ≠ .stopped → s.emitter.kNow.isSome

/-! ### Lane map (R41) -/

/-- No two lane map entries with action PASS or MEMBER name the same output lane, and no two MEMBER entries name the same group
and member (R41). -/
structure State.laneLaw (s : State) : Prop where
  outputs : ∀ i j, i ≠ j → (s.laneEntry i).output ≠ none → (s.laneEntry i).output ≠ (s.laneEntry j).output
  places : ∀ i j, i ≠ j → (s.laneEntry i).place ≠ none → (s.laneEntry i).place ≠ (s.laneEntry j).place

/-! ### Emission queue and its ring of blocks (R74, R84, R95) -/

/-- The targets of a queue never decrease from head to tail (R74). -/
def targetsRise : List Record → Prop
  | [] => True
  | [_] => True
  | a :: b :: rest => b.target.earlier a.target = false ∧ targetsRise (b :: rest)

/-- The queue never exceeds the emission blocks, its targets never decrease, it is empty unless the emitter is RUNNING, and
the number of blocks from the ring head to the ring tail is the number of its records. -/
structure State.emissionLaw (s : State) : Prop where
  capacity : s.queue.length ≤ s.store.capacity
  targets : targetsRise s.queue
  stopped : s.emitter.state ≠ .running → s.queue = []
  head : s.store.ringHead < s.store.capacity
  tail : s.store.ringTail < s.store.capacity
  ring : (s.store.ringHead + s.queue.length) % s.store.capacity = s.store.ringTail

/-! ### Clips and extents (R96, R97, R106, R118) -/

/-- A member's cursor does not pass its cell count, and its cells fill its extents in order: each but the last is full, and the
fill position is the number of cells in the last (R96, R97, R118). -/
structure ClipMember.law (m : ClipMember) : Prop where
  cursor : m.cursor ≤ m.count
  empty : m.extents = [] → m.count = 0 ∧ m.fill = none
  filled : m.extents ≠ [] → ∃ f, m.fill = some f ∧ 1 ≤ f ∧ f ≤ 1024 ∧ m.count = 1024 * (m.extents.length - 1) + f

/-- The extents that clip members hold, clip by clip. -/
def State.heldExtents (s : State) : List Nat := s.clips.toList.flatMap ClipRecord.allExtents

/-- Every extent of the clip partition is on the free extent list or in the extent list of exactly one clip member, never
both and never twice (R96). -/
def State.extentLaw (s : State) : Prop :=
  (s.store.free ++ s.heldExtents).Perm (List.range (clipExtents s.store.setting))

/-- An EMPTY clip has the values of R106, every member keeps its law, and a waiting clip cell names a clip and a member. -/
structure State.clipLaw (s : State) : Prop where
  empty : ∀ c < 64, (s.clipAt c).state = .empty → s.clipAt c = .blank
  members : ∀ c < 64, ∀ m < 4, ((s.clipAt c).memberAt m).law
  waiting : ∀ w, s.store.lfWaiting = some w → w.clip < 64 ∧ w.position < 4

/-- The clip partition and the clips agree (R96, R97, R106). -/
structure State.storeLaw (s : State) : Prop where
  extents : s.extentLaw
  clips : s.clipLaw

/-! ### Events, groups and clips (R45, R107, R125) -/

/-- An event is ARMED or IN. -/
def EventState.held (x : EventState) : Prop := x = .armed ∨ x = .onAir

/-- The pending order holds the number of every PENDING event, once, and no other, and each names a group of the group table
(R122, R125). -/
structure State.orderLaw (s : State) : Prop where
  once : s.order.Nodup
  exact : ∀ e, e ∈ s.order ↔ e < 32 ∧ (s.eventAt e).state = .pending
  group : ∀ e, e ∈ s.order → (s.eventAt e).given.group < 16

/-- The group table's law: a group has at most one event in ARMED or IN, its active event, and is SPLICED exactly when that
event is IN (R45). -/
structure State.groupLaw (s : State) : Prop where
  held : ∀ e < 32, (s.eventAt e).state.held →
    (s.eventAt e).given.group < 16 ∧ (s.groupAt (s.eventAt e).given.group).active = some e
  active : ∀ g < 16, ∀ e, (s.groupAt g).active = some e →
    e < 32 ∧ (s.eventAt e).state.held ∧ (s.eventAt e).given.group = g
  spliced : ∀ g < 16, (s.groupAt g).state = .spliced ↔
    ∃ e, (s.groupAt g).active = some e ∧ (s.eventAt e).state = .onAir

/-- A clip is CUED exactly when an ARMED event names it, PLAYING exactly when an IN event names it, and at most one event in
ARMED or IN names it (R107). -/
structure State.playLaw (s : State) : Prop where
  cued : ∀ c < 64, (s.clipAt c).state = .cued ↔ ∃ e < 32, (s.eventAt e).state = .armed ∧ (s.eventAt e).given.clip = c
  playing : ∀ c < 64, (s.clipAt c).state = .playing ↔
    ∃ e < 32, (s.eventAt e).state = .onAir ∧ (s.eventAt e).given.clip = c
  single : ∀ e < 32, ∀ f < 32, (s.eventAt e).state.held → (s.eventAt f).state.held →
    (s.eventAt e).given.clip = (s.eventAt f).given.clip → e = f
  known : ∀ e < 32, (s.eventAt e).state.held → (s.eventAt e).given.clip < 64

/-- The schedule, the groups and the clips agree (R45, R107, R125). -/
structure State.spliceLaw (s : State) : Prop where
  order : s.orderLaw
  groups : s.groupLaw
  clips : s.playLaw

/-- A safe state meets every law, and its DRAM is in canonical form. -/
structure State.safe (s : State) : Prop where
  clock : s.clock.law
  holdover : s.clock.heldWithin
  queues : s.queueLaw
  plans : s.planLaw
  lanes : s.laneLaw
  emission : s.emissionLaw
  memory : Memory.wf s.store.dram = true
  store : s.storeLaw
  splices : s.spliceLaw

/-! ### Terms of the claims -/

/-- The passed-boundary record calls for a GOOD verdict (R9). -/
def SiteClock.goodPulse (c : SiteClock) : Prop := ∃ p, c.passed = some p ∧ p.nearest.natAbs ≤ c.window

/-- The passed-boundary record calls for a BAD verdict that carries `e` (R9). -/
def SiteClock.badPulse (c : SiteClock) (e : Int) : Prop :=
  ∃ p, c.passed = some p ∧ c.window < p.nearest.natAbs ∧ p.first = e

/-- The verdict of this second is due (R9). -/
def SiteClock.verdictDue (c : SiteClock) : Prop := c.subsecond = 5000000 ∧ c.verdictTaken = false

/-- A BAD verdict steps the count: in UNLOCKED and ACQUIRING always, in LOCKED and HOLDOVER when it is the third (R11 to
R13). -/
def SiteClock.stepsOnBad (c : SiteClock) : Prop :=
  c.state = .unlocked ∨ c.state = .acquiring ∨ c.bad = 2

/-- A row takes a second boundary: SECOND_BOUNDARY or COUNTED_EDGE at the last tick of a second (R2), or a VERDICT that steps by
e = −5,000,000 (R10). -/
def State.takesBoundary (s : State) (i : Instr) : Prop :=
  (s.clock.subsecond = 9999999 ∧ (i = .secondBoundary ∨ i = .countedEdge)) ∨
    (s.clock.verdictDue ∧ s.clock.stepsOnBad ∧ s.clock.badPulse (-5000000) ∧ i = .verdict)

/-- Eight bytes are a good header (R20). -/
def goodHeader (w : List Byte) : Prop :=
  w.length = 8 ∧ w.head? = some 0xB5#8 ∧ w.getLast? = some (headerCheck (w.take 7))

/-- The last eight bytes of a stream, or all of a shorter one (R19). -/
def lastEight (stream : List Byte) : List Byte := stream.drop (stream.length - 8)

/-- What the watch list holds after the arrival of a network DATA cell of a lane at the head, with a continuity error or
without, and with a discard or without (R50). -/
def WatchEntry.afterCell (w : WatchEntry) (lane : Nat) (error discarded : Bool) : WatchEntry :=
  if w.lane = some lane then
    { w with
      arrived := satAdd w.arrived 1
      contErrors := if error then satAdd w.contErrors 1 else w.contErrors
      discarded := if discarded then satAdd w.discarded 1 else w.discarded }
  else w

/-- A command of this name stands at the head of the command queue, can be taken, and passes the checks common to every
command (R158, R159, R160). -/
structure State.grants (s : State) (name : CommandName) (c : Command) : Prop where
  head : ∃ rest, s.control.queue = c :: rest
  ours : s.control.foreign c = false
  place : s.control.monitor.length < 16
  code : commandOfCode c.code = some name
  epoch : c.addressed = true → name.epochExempt = false → c.epoch = s.control.epoch
  origin : c.origin = .localFeed → name.networkOnly = false

/-- The Control Unit after one notice has been created, stamped with the clock: the notice joins the monitor queue, or is
dropped with the notices-lost and gap-owed flags set (R163, R164). -/
def ControlUnit.withNotice (u : ControlUnit) (c : SiteClock) (kind : NoticeKind) (data : List Byte) : ControlUnit :=
  if u.monitor.length < 16 then
    { u with
      monitor := u.monitor ++
        [{ disc := u.gapOwed
           tag := BitVec.ofNat 2 c.second.toNat
           sub := BitVec.ofNat 24 c.subsecond
           payload := noticePayload kind u.epoch u.site data }]
      gapOwed := false }
  else { u with noticesLost := true, gapOwed := true }

/-- The Control Unit after notices were created one after another under one clock (R163). -/
def ControlUnit.withNotices (u : ControlUnit) (c : SiteClock) (notices : List (NoticeKind × List Byte)) : ControlUnit :=
  notices.foldl (fun v n => v.withNotice c n.1 n.2) u

/-- The cell by which a reply joins the monitor queue (R162, R164). -/
def State.replyCell (s : State) (c : Command) (r : Result) (data : List Byte) : MonitorCell where
  disc := s.control.gapOwed
  tag := BitVec.ofNat 2 s.clock.second.toNat
  sub := BitVec.ofNat 24 s.clock.subsecond
  payload := replyPayload c r s.control.epoch s.control.site data

/-- The state after the command at the head has been replied to and nothing else has changed: the command has left the
command queue with every foreign command behind it that then stood at the head, and the reply has joined the monitor queue
(R158, R159, R162). -/
def State.answered (s : State) (c : Command) (r : Result) (data : List Byte) : State :=
  { s with control := { s.control with
      queue := s.control.queue.tail.dropWhile s.control.foreign
      monitor := s.control.monitor ++ [s.replyCell c r data]
      gapOwed := false } }

/-- The row of the table that takes a command of a name. -/
def CommandName.row : CommandName → Instr
  | .status => .status
  | .stats => .stats
  | .restart => .restart
  | .laneMapLoad => .laneMapLoad
  | .laneMapRead => .laneMapRead
  | .groupSet => .groupSet
  | .watchSet => .watchSet
  | .siteSet => .siteSet
  | .clockSet => .clockSet
  | .partition => .partition
  | .emitStart => .emitStart
  | .emitStop => .emitStop
  | .clipOpen => .clipOpen
  | .clipClose => .clipClose
  | .clipRemove => .clipRemove
  | .clipQuery => .clipQuery
  | .spliceAdd => .spliceAdd
  | .spliceCancel => .spliceCancel
  | .spliceQuery => .spliceQuery

end Sys2Proof.Machine
end

