-- ==== Sys2Proof/Certificates/Slice0/Obligations.lean ====
section
/-! DEFINITION. The statements about the part, for the provers. `withNotice`, `answered`, `grants` and the laws are in
Sys2Proof/Safety.lean. -/

open Sys2Proof Sys2Proof.Machine

/-! ### The queue of waiting commands and the full reset -/

/-- A step runs the command at the front of the queue with the queue's rest; on an empty queue the part idles, which is the
model's choice (notes/assumptions/7.md). -/
def Obligations.StepRunsTheFrontCommand : Prop :=
  ∀ s : State,
    (∀ i rest, s.pending = i :: rest → step s = exec i { s with pending := rest }) ∧
    (s.pending = [] → step s = .next s)

/-- FULL_RESET: every item takes its full-reset value and the site address is the straps'. By the pin the epoch counter runs on, and
the epoch is the first of its value and the next ones that is neither 0 nor the epoch held before; by power-on the counter's value
is undefined, and the epoch is the first of its value and the next one that is not 0 (R161). The items' values are those of R1, R19,
R33, R35, R45, R48, R52, R72, R76, R94, R105, R106, R122, R125, R138, R139 and R157. The counter's value at power-on is a free value
(notes/assumptions/1.md), the reset takes no time, and the straps' levels are the row's operand (notes/assumptions/9.md). That the DRAM
lists nothing, where R105 calls its contents undefined, and that nothing stands on the two port lines are the model's choices
(notes/assumptions/2.md, 14.md). -/
def Obligations.FullReset : Prop :=
  (∀ (s : State) (straps : BitVec 16), ∃ (epoch : Word32) (k : Nat),
     exec (.fullReset .pin straps) s = .next { State.reset with
       control := { State.reset.control with
         site := straps
         epoch := epoch
         epochCounter := s.control.epochCounter }
       draws := s.draws
       pending := s.pending } ∧
     epoch ≠ 0 ∧ epoch ≠ s.control.epoch ∧ k ≤ 2 ∧ epoch = s.control.epochCounter + BitVec.ofNat 32 k ∧
     ∀ j < k, s.control.epochCounter + BitVec.ofNat 32 j = 0 ∨
       s.control.epochCounter + BitVec.ofNat 32 j = s.control.epoch) ∧
  (∀ (s : State) (straps : BitVec 16), ∃ (counter epoch : Word32) (k : Nat),
     exec (.fullReset .powerOn straps) s = .next { State.reset with
       control := { State.reset.control with
         site := straps
         epoch := epoch
         epochCounter := counter }
       draws := s.draws + 1
       pending := s.pending } ∧
     epoch ≠ 0 ∧ k ≤ 1 ∧ epoch = counter + BitVec.ofNat 32 k ∧ (k = 1 → counter = 0))

/-- The values right after a full reset, block by block (R1, R19, R33, R35, R45, R48, R52, R72, R76, R94, R105, R106, R122, R125, R138,
R139, R157). That the DRAM lists nothing, where R105 calls its contents undefined, is the model's choice (notes/assumptions/2.md). The
site address, the epoch and the epoch counter are left out, since State.reset names them by a choice (notes/assumptions/1.md), and so
are the model's own fields, the two port lines among them (notes/assumptions/3.md, 7.md, 14.md). -/
def Obligations.ResetValues : Prop :=
  State.reset.clock =
    { subsecond := 0, second := 0, secondValid := false, state := .unlocked, good := 0, bad := 0, mismatch := 0, hold := 0,
      freqPresent := false, announced := none, passed := none, coming := none, verdictTaken := false, window := 10,
      limit := 300 } ∧
  (∀ p, (State.reset.intake p).delineation = .hunt ∧ (State.reset.intake p).window = [] ∧
    (State.reset.intake p).taken = 0 ∧ (State.reset.intake p).expected = none ∧ (State.reset.intake p).presyncCount = none ∧
    (State.reset.intake p).badRun = 0 ∧ (State.reset.intake p).inProgress = none ∧ (State.reset.intake p).fifo = [] ∧
    (State.reset.intake p).counters = ⟨0, 0, 0, 0, 0, 0, 0, 0, 0, 0, 0⟩) ∧
  (∀ lane, State.reset.laneEntry lane = .drop ∧ rowAt State.reset.continuity lane none = none) ∧
  (∀ g, State.reset.groupAt g = ⟨false, .idle, none⟩ ∧
    State.reset.switchAt g = ⟨none, none, Vector.replicate 4 .waiting, Vector.replicate 4 none⟩) ∧
  (∀ w, State.reset.watchAt w = ⟨none, 0, 0, 0, 0, 0⟩) ∧
  State.reset.plan = { current := none, pending := none, staleTimer := 0, stale := false, trim := 0 } ∧
  State.reset.queue = [] ∧
  State.reset.emitter.state = .stopped ∧ State.reset.emitter.change = .none ∧ State.reset.emitter.second = 0 ∧
  State.reset.emitter.slot = 0 ∧
  State.reset.emitter.kNow = none ∧ State.reset.emitter.kPrev = none ∧ State.reset.emitter.lateAllowance = 16 ∧
  State.reset.emitter.counters = ⟨0, 0, 0, 0, 0, 0, 0, 0⟩ ∧
  (∀ lane, State.reset.outCount lane = 0 ∧ State.reset.owes lane = false) ∧
  State.reset.store =
    { setting := 0, free := List.range 768, ringHead := 0, ringTail := 0, access := none, readWaiting := none,
      nfWaiting := none, lfWaiting := none, dram := [], staged := [] } ∧
  (∀ c, (State.reset.clipAt c).state = .empty ∧ (State.reset.clipAt c).memberCount = none ∧
    (State.reset.clipAt c).origin = none ∧ (State.reset.clipAt c).check = 0xFFFFFFFF#32 ∧ (State.reset.clipAt c).lost = 0 ∧
    ∀ m, ((State.reset.clipAt c).memberAt m).count = 0 ∧ ((State.reset.clipAt c).memberAt m).extents = [] ∧
      ((State.reset.clipAt c).memberAt m).fill = none ∧ ((State.reset.clipAt c).memberAt m).cursor = 0) ∧
  State.reset.clipLanesOut = 0 ∧ State.reset.clipUnexpected = 0 ∧
  (∀ e, State.reset.eventAt e = ⟨.free, none, false, none, none, none, none, none, 0, 0, 0, none⟩) ∧
  State.reset.order = [] ∧
  State.reset.control.queue = [] ∧ State.reset.control.monitor = [] ∧ State.reset.control.noticesLost = false ∧
  State.reset.control.gapOwed = false ∧ State.reset.control.count = 0 ∧ State.reset.control.controlDrops = 0

/-- Every law that a safe state keeps holds right after reset: the ranges and agreements of R1, R19, R41, R45, R52, R76, R96, R106,
R107, R125 and R157. -/
def Obligations.ResetIsSafe : Prop := State.reset.safe

/-! ### Site Clock -/

/-- COUNTED_EDGE inside a second: the subsecond counter advances by one; the stale timer advances while a current plan exists,
stops at 80,000,000, and sets the plan-stale flag with a PLAN notice, cause STALE, when it gets there (R2, R59, R61). That the
arming this edge may bring due is the row EVENT_ARMING and not part of this one is the model's choice (notes/assumptions/11.md). -/
def Obligations.CountedEdgeInsideASecond : Prop :=
  ∀ s : State, s.clock.subsecond < 9999999 →
    ∃ t, exec .countedEdge s = .next t ∧
      t = { s with clock := { s.clock with subsecond := s.clock.subsecond + 1 }, plan := t.plan, control := t.control } ∧
      (s.plan.current = none ∨ 80000000 ≤ s.plan.staleTimer → t.plan = s.plan ∧ t.control = s.control) ∧
      (s.plan.current ≠ none → s.plan.staleTimer < 79999999 →
        t.plan = { s.plan with staleTimer := s.plan.staleTimer + 1 } ∧ t.control = s.control) ∧
      (s.plan.current ≠ none → s.plan.staleTimer = 79999999 →
        t.plan = { s.plan with staleTimer := 80000000, stale := true } ∧
        t.control = s.control.withNotice t.clock .plan (t.planNoticeData .stale))

/-- A second boundary, by SECOND_BOUNDARY or by the counted edge at 9,999,999, as the clock itself takes it: steps 1 to 3 of
R2, with the announced second adopted (R6) or compared (R7), and a CLOCK notice, cause TIME_CODE, exactly when the third mismatch
re-acquires (R7, R18); that this notice comes before those of the other blocks is the model's choice (notes/assumptions/5.md). That
COUNTED_EDGE at 9,999,999 is this whole boundary is the
model's choice (notes/assumptions/11.md). -/
def Obligations.BoundaryAdvancesTheClock : Prop :=
  ∀ (s : State) (i : Instr), i = .secondBoundary ∨ i = .countedEdge → s.clock.subsecond = 9999999 →
    ∃ t, exec i s = .next t ∧
      t.clock.subsecond = 0 ∧ t.clock.announced = none ∧ t.clock.passed = s.clock.coming ∧ t.clock.coming = none ∧
      t.clock.verdictTaken = false ∧ t.clock.freqPresent = s.clock.freqPresent ∧ t.clock.window = s.clock.window ∧
      t.clock.limit = s.clock.limit ∧
      (s.clock.announced = none →
        t.clock.second = s.clock.second + 1 ∧ t.clock.secondValid = s.clock.secondValid ∧ t.clock.state = s.clock.state ∧
        t.clock.good = s.clock.good ∧ t.clock.bad = s.clock.bad ∧ t.clock.hold = s.clock.hold ∧
        t.clock.mismatch = s.clock.mismatch) ∧
      (∀ n, s.clock.announced = some n → s.clock.state = .unlocked ∨ s.clock.state = .acquiring →
        t.clock.second = n ∧ t.clock.secondValid = true ∧ t.clock.mismatch = 0 ∧ t.clock.state = s.clock.state ∧
        t.clock.good = s.clock.good ∧ t.clock.bad = s.clock.bad ∧ t.clock.hold = s.clock.hold) ∧
      (∀ n, s.clock.announced = some n → s.clock.state = .locked ∨ s.clock.state = .holdover →
        (n = s.clock.second + 1 → t.clock.second = s.clock.second + 1 ∧ t.clock.mismatch = 0) ∧
        (n ≠ s.clock.second + 1 → s.clock.mismatch ≤ 1 →
          t.clock.second = s.clock.second + 1 ∧ t.clock.mismatch = s.clock.mismatch + 1) ∧
        (n = s.clock.second + 1 ∨ s.clock.mismatch ≤ 1 →
          t.clock.secondValid = s.clock.secondValid ∧ t.clock.state = s.clock.state ∧ t.clock.good = s.clock.good ∧
          t.clock.bad = s.clock.bad ∧ t.clock.hold = s.clock.hold) ∧
        (n ≠ s.clock.second + 1 → s.clock.mismatch = 2 →
          t.clock.second = n ∧ t.clock.secondValid = true ∧ t.clock.mismatch = 0 ∧ t.clock.state = .acquiring ∧
          t.clock.good = 0 ∧ t.clock.bad = 0 ∧ t.clock.hold = 0)) ∧
      ∃ others : List (NoticeKind × List Byte), (∀ x ∈ others, x.1 ≠ .clock) ∧
        t.control = s.control.withNotices t.clock
          ((if t.clock.state = s.clock.state then [] else [(.clock, t.clockNoticeData s.clock.state .timeCode)]) ++ others)

/-- EPOCH_COUNTER_TICK, FREQUENCY_RETURN and TIME_CODE_MESSAGE (R161; R3 and R14; R5), and FREQUENCY_LOSS: the flag becomes 0,
LOCKED enters HOLDOVER with hold count 0, ACQUIRING enters UNLOCKED with all counts 0, and a change of state queues one CLOCK
notice, cause FREQUENCY_LOST (R3, R14, R18). -/
def Obligations.ReferenceInputs : Prop :=
  (∀ (s : State) (n : Word32),
     exec .epochCounterTick s =
       .next { s with control := { s.control with epochCounter := s.control.epochCounter + 1 } } ∧
     exec .frequencyReturn s = .next { s with clock := { s.clock with freqPresent := true } } ∧
     exec (.timeCodeMessage true n) s = .next { s with clock := { s.clock with announced := some n } } ∧
     exec (.timeCodeMessage false n) s = .next s) ∧
  (∀ s : State,
     (s.clock.state = .locked →
       ∃ t, exec .frequencyLoss s = .next t ∧
         t = { s with
           clock := { s.clock with freqPresent := false, state := .holdover, hold := 0 }
           control := s.control.withNotice t.clock .clock (t.clockNoticeData .locked .frequencyLost) }) ∧
     (s.clock.state = .acquiring →
       ∃ t, exec .frequencyLoss s = .next t ∧
         t = { s with
           clock := { s.clock with freqPresent := false, state := .unlocked, good := 0, bad := 0, mismatch := 0, hold := 0 }
           control := s.control.withNotice t.clock .clock (t.clockNoticeData .acquiring .frequencyLost) }) ∧
     (s.clock.state = .unlocked ∨ s.clock.state = .holdover →
       exec .frequencyLoss s = .next { s with clock := { s.clock with freqPresent := false } }))

/-- PULSE: filed in the passed-boundary record with e the subsecond, or in the coming-boundary record with e the subsecond less
10,000,000; a record that holds pulses changes only its nearest e, and only to a smaller magnitude (R8). -/
def Obligations.PulseIsFiledAgainstItsBoundary : Prop :=
  ∀ s : State, s.clock.subsecond < 10000000 →
    ∃ t, exec .pulse s = .next t ∧
      t = { s with clock := { s.clock with passed := t.clock.passed, coming := t.clock.coming } } ∧
      (s.clock.subsecond < 5000000 →
        t.clock.coming = s.clock.coming ∧
        (s.clock.passed = none → t.clock.passed = some ⟨s.clock.subsecond, s.clock.subsecond⟩) ∧
        (∀ p, s.clock.passed = some p → s.clock.subsecond < p.nearest.natAbs →
          t.clock.passed = some ⟨p.first, s.clock.subsecond⟩) ∧
        (∀ p, s.clock.passed = some p → p.nearest.natAbs ≤ s.clock.subsecond → t.clock.passed = some p)) ∧
      (5000000 ≤ s.clock.subsecond →
        t.clock.passed = s.clock.passed ∧
        (s.clock.coming = none →
          t.clock.coming = some ⟨(s.clock.subsecond : Int) - 10000000, (s.clock.subsecond : Int) - 10000000⟩) ∧
        (∀ p, s.clock.coming = some p → 10000000 - s.clock.subsecond < p.nearest.natAbs →
          t.clock.coming = some ⟨p.first, (s.clock.subsecond : Int) - 10000000⟩) ∧
        (∀ p, s.clock.coming = some p → p.nearest.natAbs ≤ 10000000 - s.clock.subsecond → t.clock.coming = some p))

/-- VERDICT without a step in UNLOCKED and ACQUIRING: GOOD and MISSING as the table of R11 has them, and one CLOCK notice when
the state changes (R9, R11, R18). -/
def Obligations.VerdictInUnlockedAndAcquiring : Prop :=
  ∀ s : State, s.clock.verdictDue → s.clock.state = .unlocked ∨ s.clock.state = .acquiring →
    (s.clock.goodPulse →
      ∃ t, exec .verdict s = .next t ∧
        t = { s with
          clock := { s.clock with
            passed := none, verdictTaken := true, state := t.clock.state, good := t.clock.good, bad := t.clock.bad,
            mismatch := t.clock.mismatch, hold := t.clock.hold }
          control := t.control } ∧
        (s.clock.state = .unlocked →
          t.clock.state = .acquiring ∧ t.clock.good = 1 ∧ t.clock.bad = 0 ∧ t.clock.mismatch = 0 ∧ t.clock.hold = 0) ∧
        (s.clock.state = .acquiring →
          t.clock.good = min 3 (s.clock.good + 1) ∧ t.clock.mismatch = s.clock.mismatch ∧
          (2 ≤ s.clock.good ∧ s.clock.secondValid = true ∧ s.clock.freqPresent = true →
            t.clock.state = .locked ∧ t.clock.bad = 0 ∧ t.clock.hold = 0) ∧
          (¬(2 ≤ s.clock.good ∧ s.clock.secondValid = true ∧ s.clock.freqPresent = true) →
            t.clock.state = .acquiring ∧ t.clock.bad = s.clock.bad ∧ t.clock.hold = s.clock.hold)) ∧
        t.control =
          if t.clock.state = s.clock.state then s.control
          else s.control.withNotice t.clock .clock (t.clockNoticeData s.clock.state .good)) ∧
    (s.clock.passed = none → s.clock.state = .unlocked →
      exec .verdict s = .next { s with clock := { s.clock with verdictTaken := true } }) ∧
    (s.clock.passed = none → s.clock.state = .acquiring →
      exec .verdict s = .next { s with clock := { s.clock with verdictTaken := true, good := 0 } })

/-- VERDICT in LOCKED: GOOD clears the bad count, the first two BAD verdicts in a row only count, the third enters ACQUIRING
with its step, and MISSING enters HOLDOVER, or UNLOCKED where the holdover limit is 0 (R9, R12, R13, R18). -/
def Obligations.VerdictInLocked : Prop :=
  ∀ s : State, s.clock.verdictDue → s.clock.state = .locked →
    (s.clock.goodPulse →
      exec .verdict s = .next { s with clock := { s.clock with passed := none, verdictTaken := true, bad := 0 } }) ∧
    (∀ e, s.clock.badPulse e → s.clock.bad < 2 →
      exec .verdict s =
        .next { s with clock := { s.clock with passed := none, verdictTaken := true, bad := s.clock.bad + 1 } }) ∧
    (∀ e, s.clock.badPulse e → s.clock.bad = 2 →
      ∃ t, exec .verdict s = .next t ∧ t.clock.state = .acquiring ∧ t.clock.good = 0 ∧ t.clock.bad = 0 ∧
        t.clock.hold = 0 ∧ t.clock.mismatch = 0) ∧
    (s.clock.passed = none →
      ∃ t, exec .verdict s = .next t ∧
        t = { s with
          clock := { s.clock with
            verdictTaken := true, state := t.clock.state, good := t.clock.good, bad := t.clock.bad,
            mismatch := t.clock.mismatch, hold := t.clock.hold }
          control := s.control.withNotice t.clock .clock (t.clockNoticeData .locked .missing) } ∧
        (s.clock.limit = 0 →
          t.clock.state = .unlocked ∧ t.clock.good = 0 ∧ t.clock.bad = 0 ∧ t.clock.mismatch = 0 ∧ t.clock.hold = 0) ∧
        (0 < s.clock.limit →
          t.clock.state = .holdover ∧ t.clock.hold = 1 ∧ t.clock.bad = s.clock.bad ∧ t.clock.good = s.clock.good ∧
          t.clock.mismatch = s.clock.mismatch))

/-- VERDICT in HOLDOVER that leaves it there or not: GOOD with the frequency enters LOCKED, GOOD without it, BAD before the
third and MISSING count the hold, and a hold count past the limit enters UNLOCKED (R9, R13, R18). -/
def Obligations.VerdictInHoldover : Prop :=
  ∀ s : State, s.clock.verdictDue → s.clock.state = .holdover →
    (s.clock.goodPulse → s.clock.freqPresent = true →
      ∃ t, exec .verdict s = .next t ∧
        t = { s with
          clock := { s.clock with passed := none, verdictTaken := true, state := .locked, bad := 0, hold := 0 }
          control := s.control.withNotice t.clock .clock (t.clockNoticeData .holdover .good) }) ∧
    (∀ e, s.clock.badPulse e → s.clock.bad = 2 →
      ∃ t, exec .verdict s = .next t ∧ t.clock.state = .acquiring ∧ t.clock.good = 0 ∧ t.clock.bad = 0 ∧
        t.clock.hold = 0 ∧ t.clock.mismatch = 0) ∧
    (∀ cause : ClockCause,
      (cause = .good ∧ s.clock.goodPulse ∧ s.clock.freqPresent = false) ∨
      (cause = .bad ∧ (∃ e, s.clock.badPulse e) ∧ s.clock.bad < 2) ∨ (cause = .missing ∧ s.clock.passed = none) →
      (s.clock.hold + 1 ≤ s.clock.limit →
        exec .verdict s =
          .next { s with clock := { s.clock with
            passed := none
            verdictTaken := true
            bad := if cause = .bad then s.clock.bad + 1 else s.clock.bad
            hold := s.clock.hold + 1 } }) ∧
      (s.clock.limit < s.clock.hold + 1 →
        ∃ t, exec .verdict s = .next t ∧
          t = { s with
            clock := { s.clock with
              passed := none, verdictTaken := true, state := .unlocked, good := 0, bad := 0, mismatch := 0, hold := 0 }
            control := s.control.withNotice t.clock .clock (t.clockNoticeData .holdover cause) }))

/-- A BAD verdict that steps: the counter becomes 5,000,000 less e, the coming-boundary record is emptied, the second number
and the announced second stay, the clock is in ACQUIRING, a forward step passes slots over, and no event of the pending order
is left due (R10, R11 to R13, R81, R128). With e = −5,000,000 the step takes a second boundary
at once, whose parts in the other blocks are those of any boundary (BoundaryChangesPlanAndEmitter, BoundarySendsTheMarker,
BoundaryEndsEvents). A change of clock state
queues a CLOCK notice, cause BAD (R18); that it carries the values after the step and comes before the other notices is the model's
choice (notes/assumptions/5.md). That the slot index is kept while the emitter is STOPPED, and that a slot that starts exactly at
the new subsecond is passed over, is the model's reading of R81 (notes/assumptions/25.md), and which events count as due at a
difference of exactly 2^31 s is its choice (notes/assumptions/34.md). -/
def Obligations.VerdictStepsTheCount : Prop :=
  ∀ (s : State) (e : Int), s.clock.verdictDue → s.clock.badPulse e → s.clock.stepsOnBad → -5000000 ≤ e → e < 5000000 →
    ∃ t, exec .verdict s = .next t ∧ t.clock.state = .acquiring ∧ t.clock.good = 0 ∧ t.clock.coming = none ∧
      t.clock.passed = none ∧ t.clock.secondValid = (s.clock.secondValid || (decide (e = -5000000) && s.clock.announced.isSome)) ∧
      t.clock.freqPresent = s.clock.freqPresent ∧ t.clock.window = s.clock.window ∧ t.clock.limit = s.clock.limit ∧
      (s.clock.state ≠ .acquiring → t.clock.bad = 0 ∧ t.clock.hold = 0) ∧
      (s.clock.state = .acquiring → t.clock.bad = s.clock.bad ∧ t.clock.hold = s.clock.hold) ∧
      (-5000000 < e →
        (t.clock.subsecond : Int) = 5000000 - e ∧ t.clock.verdictTaken = true ∧ t.clock.second = s.clock.second ∧
        t.clock.announced = s.clock.announced ∧
        t.clock.mismatch = (if s.clock.state = .acquiring then s.clock.mismatch else 0) ∧
        t.queue = s.queue ∧ t.plan = s.plan ∧ t.dueForArming = [] ∧
        t.emitter = { s.emitter with slot := t.emitter.slot } ∧
        (0 < e ∨ s.emitter.state = .stopped → t.emitter.slot = s.emitter.slot) ∧
        (∀ k, e < 0 → s.emitter.state ≠ .stopped → s.emitter.kNow = some k → 1 ≤ k → s.emitter.slot < k →
          t.emitter.slot < k ∧ s.emitter.slot ≤ t.emitter.slot ∧
          (∀ j, s.emitter.slot < j → j < k → (j ≤ t.emitter.slot ↔ slotStartTick j k ≤ t.clock.subsecond)))) ∧
      (e = -5000000 →
        t.clock.subsecond = 0 ∧ t.clock.verdictTaken = false ∧ t.clock.announced = none ∧
        t.clock.second = s.clock.announced.getD (s.clock.second + 1) ∧
        t.emitter.second = t.clock.second ∧ t.emitter.slot = 0 ∧ t.emitter.change = .none) ∧
      ∃ others : List (NoticeKind × List Byte),
        (∀ x ∈ others, x.1 ≠ .clock ∧ (-5000000 < e → x.1 = .splice)) ∧
        t.control = s.control.withNotices t.clock
          ((if s.clock.state = .acquiring then [] else [(.clock, t.clockNoticeData s.clock.state .bad)]) ++ others)

/-- The in-step condition (R15). -/
def Obligations.InStepCondition : Prop :=
  ∀ c : SiteClock, c.inStep = true ↔
    (c.state = .locked ∨ (c.state = .holdover ∧ c.hold ≤ c.limit)) ∧ c.secondValid = true

/-! ### The second boundary in the other blocks -/

/-- A second boundary in the Timing Plan unit and the Emitter, at a counted edge or by a step of e = −5,000,000 (R2, R10): the stale
timer's edge, at a counted edge alone (R59), the change of plan (R58), the Emitter's second, slot counts and slot index, and the table
of R77 with its flush; and the notices of the boundary: CLOCK, STALE and PLAN_CHANGE, then the EMITTER notice among the SPLICE notices
(R18, R61, R91). That COUNTED_EDGE at 9,999,999 is the whole boundary, that the stale timer's edge stands between the clock's part and
the change of plan and not in a step, and the order of the notices of different blocks are the model's choices
(notes/assumptions/11.md, 21.md, 5.md). -/
def Obligations.BoundaryChangesPlanAndEmitter : Prop :=
  ∀ (s : State) (i : Instr), s.takesBoundary i →
    ∃ t, exec i s = .next t ∧
      (s.clock.subsecond ≠ 9999999 ∨ s.plan.current = none ∨ 80000000 ≤ s.plan.staleTimer →
        t.plan.staleTimer = s.plan.staleTimer ∧ t.plan.stale = s.plan.stale) ∧
      (s.clock.subsecond = 9999999 → s.plan.current ≠ none → s.plan.staleTimer < 79999999 →
        t.plan.staleTimer = s.plan.staleTimer + 1 ∧ t.plan.stale = s.plan.stale) ∧
      (s.clock.subsecond = 9999999 → s.plan.current ≠ none → s.plan.staleTimer = 79999999 →
        t.plan.staleTimer = 80000000 ∧ t.plan.stale = true) ∧
      t.plan.trim = s.plan.trim ∧
      (s.plan.pending = none → t.plan.current = s.plan.current ∧ t.plan.pending = none) ∧
      (∀ p, s.plan.pending = some p → secondNoLater p.eff t.clock.second = true →
        t.plan.current = some p ∧ t.plan.pending = none) ∧
      (∀ p, s.plan.pending = some p → secondNoLater p.eff t.clock.second = false →
        t.plan.current = s.plan.current ∧ t.plan.pending = some p) ∧
      t.emitter.second = t.clock.second ∧ t.emitter.slot = 0 ∧ t.emitter.change = .none ∧
      t.emitter.lateAllowance = s.emitter.lateAllowance ∧
      t.emitter.kNow = t.plan.slotsFor t.clock.second ∧
      (∀ k, s.emitter.kNow = some k → t.emitter.kPrev = some k) ∧
      (s.emitter.kNow = none → t.emitter.kPrev = t.emitter.kNow) ∧
      (s.emitter.state = .stopped → s.emitter.change ≠ .start → t.emitter.state = .stopped ∧ t.queue = s.queue) ∧
      (s.emitter.state = .stopped → s.emitter.change = .start →
        t.emitter.state = (if t.clock.inStep then .running else .muted) ∧ t.queue = s.queue) ∧
      (s.emitter.state ≠ .stopped → s.emitter.change = .stop → t.emitter.state = .stopped ∧ t.queue = []) ∧
      (s.emitter.state = .muted → s.emitter.change = .none →
        t.emitter.state = (if t.clock.inStep then .running else .muted) ∧ t.queue = s.queue) ∧
      (s.emitter.state = .running → s.emitter.change = .none →
        t.emitter.state = (if t.clock.inStep then .running else .muted) ∧
        t.queue = (if t.clock.inStep then s.queue else [])) ∧
      ∃ before after : List (NoticeKind × List Byte), (∀ x ∈ before ++ after, x.1 = .splice) ∧
        t.control = s.control.withNotices t.clock
          ((if t.clock.state = s.clock.state then []
            else [(.clock, t.clockNoticeData s.clock.state (if s.clock.subsecond = 9999999 then .timeCode else .bad))]) ++
            (if s.clock.subsecond = 9999999 ∧ s.plan.current ≠ none ∧ s.plan.staleTimer = 79999999 then
              [(.plan, ({ t with plan := { s.plan with staleTimer := 80000000, stale := true } } : State).planNoticeData .stale)]
            else []) ++
            (match s.plan.pending with
              | none => []
              | some p => if secondNoLater p.eff t.clock.second then [(.plan, t.planNoticeData .planChange)] else []) ++
            before ++
            (if s.emitter.state = .stopped ∧ s.emitter.change = .start then
              [(.emitter, t.emitterNoticeData .stopped .start 0)]
            else if s.emitter.state ≠ .stopped ∧ s.emitter.change = .stop then
              [(.emitter, t.emitterNoticeData s.emitter.state .stop s.queue.length)]
            else if s.emitter.state = .muted ∧ t.emitter.state = .running then
              [(.emitter, t.emitterNoticeData .muted .stepGained 0)]
            else if s.emitter.state = .running ∧ t.emitter.state = .muted then
              [(.emitter, t.emitterNoticeData .running .stepLost s.queue.length)]
            else []) ++
            after)

/-- Slot 0 of a second that begins in MUTED or RUNNING carries the marker cell, whose items are read after the boundary's
changes; while the emitter is STOPPED nothing goes out, whether the boundary falls at a counted edge or is taken by a step of
e = −5,000,000 (R2, R10, R77, R82, R83, R170). That COUNTED_EDGE at 9,999,999 is this whole boundary is the model's choice
(notes/assumptions/11.md). -/
def Obligations.BoundarySendsTheMarker : Prop :=
  ∀ (s : State) (i : Instr), s.takesBoundary i →
    ∃ t, exec i s = .next t ∧
      (t.emitter.state = .stopped →
        t.emitter.line = s.emitter.line ∧ ∀ lane, t.outCount lane = s.outCount lane) ∧
      (t.emitter.state ≠ .stopped →
        t.emitter.line = some
          { header :=
              { lane := 1022, kind := .timing, start := false, safe := false, disc := false, zero := false,
                count := s.outCount 1022, tag := t.emitter.second.setWidth 2, sub := 0 }
            payload := padPayload (bytes4 t.clock.second.toNat ++
              bytes1 (128 * t.clock.secondValid.toNat + 64 * t.clock.inStep.toNat + 32 * t.plan.stale.toNat +
                8 * t.clock.state.code + 2 * t.emitter.state.code) ++
              bytes2 (t.emitter.kNow.getD 0) ++ bytes2 ((t.plan.slotsFor (t.emitter.second + 1)).getD 0) ++
              bytes4 (((t.plan.inForce t.emitter.second).map Plan.hold).getD 0) ++ bytesTrim t.plan.trim ++
              bytes2 t.splicedSet ++ bytes4 t.control.epoch.toNat ++ bytes2 t.control.site.toNat) } ∧
        t.outCount 1022 = s.outCount 1022 + 1 ∧ ∀ lane, lane ≠ 1022 → t.outCount lane = s.outCount lane)

/-- What a second boundary does to the schedule, at a counted edge or by a step of e = −5,000,000 (R2, R10): the events due leave the
pending order ARMED or FAILED, and no event is left due (R128, R129), an ARMED event whose out-time is no later than the marker time is
FAILED, reason MISSED (R131), and an IN event past its forced end, or any IN event of an emitter that leaves RUNNING, is DONE, at slot 0
of the new second: with cause OUT_TIME or EARLY_RETURN at its forced end, and STOPPED or MUTED at the emitter's change (R148, R153).
Which of the two ends takes an event that meets both, and whether the arming stands before or after an end at the same boundary (R130),
are free values (notes/assumptions/3.md, 36.md). That an arming time exactly 2^31 s from the marker time is due, that the slot index is
0 before the arming, that of a return time and an out-time exactly 2^31 s apart the return time is the threshold (R144), and that
COUNTED_EDGE at 9,999,999 is this whole boundary are the model's choices (notes/assumptions/34.md, 37.md, 38.md, 11.md). -/
def Obligations.BoundaryEndsEvents : Prop :=
  ∀ (s : State) (i : Instr), s.spliceLaw → s.takesBoundary i →
    ∃ t, exec i s = .next t ∧
      t.dueForArming = [] ∧
      (let due := s.order.takeWhile (fun k =>
          Time.noLater ⟨(s.eventAt k).given.inTime.sec - 2, (s.eventAt k).given.inTime.sub⟩ t.markerTime)
       t.order = s.order.filter (fun k => decide (k ∉ due)) ∧
       (∀ k ∈ due, (t.eventAt k).state = .armed ∨ (t.eventAt k).state = .failed) ∧
       (∀ k ∈ due, (t.eventAt k).state = .failed → (t.eventAt k).finish = some ⟨t.clock.second, 0⟩) ∧
       (∀ k ∈ s.order, k ∉ due → t.eventAt k = s.eventAt k)) ∧
      (∀ e < 32, (t.eventAt e).state = .armed → (t.eventAt e).given.outTime.noLater t.markerTime = false) ∧
      (∀ e < 32, (s.eventAt e).state = .armed → (s.eventAt e).given.outTime.noLater t.markerTime = true →
        t.eventAt e = { s.eventAt e with
          state := .failed, cause := none, reason := some .missed, finish := some ⟨t.clock.second, 0⟩ }) ∧
      (let past (e : Nat) : Prop :=
         (∃ p, (s.switchAt (s.eventAt e).given.group).pOut = some p ∧ t.markerTime.noEarlier (p.addSeconds 2) = true) ∨
         ((s.switchAt (s.eventAt e).given.group).pOut = none ∧
           t.markerTime.noEarlier ((s.eventAt e).threshold.addSeconds 2) = true)
       let own (e : Nat) : EndingCause := if (s.eventAt e).returnRequested then .earlyReturn else .outTime
       let ended (e : Nat) : Prop := t.eventAt e = { s.eventAt e with
         state := .done
         cause := (t.eventAt e).cause
         reason := none
         truncated := (t.eventAt e).truncated
         finish := some ⟨t.clock.second, 0⟩ }
       (∀ e < 32, (s.eventAt e).state = .onAir → past e →
         ended e ∧ (t.emitter.state = .running → (t.eventAt e).cause = some (own e))) ∧
       (∀ e < 32, (s.eventAt e).state = .onAir → ¬past e → s.emitter.state = .running → t.emitter.state = .running →
         t.eventAt e = s.eventAt e) ∧
       (∀ left : EndingCause, s.emitter.state = .running →
         (t.emitter.state = .stopped ∧ left = .stopped) ∨ (t.emitter.state = .muted ∧ left = .muted) →
         ∀ e < 32, (s.eventAt e).state = .onAir →
           ended e ∧ (¬past e → (t.eventAt e).cause = some left) ∧
           (past e → (t.eventAt e).cause = some left ∨ (t.eventAt e).cause = some (own e)))) ∧
      (s.emitter.state ≠ .stopped → t.emitter.state = .stopped →
        ∀ e < 32, (t.eventAt e).state ≠ .onAir ∧ ((s.eventAt e).state = .onAir → (t.eventAt e).state = .done)) ∧
      (s.emitter.state = .running → t.emitter.state = .muted → ∀ e < 32, (t.eventAt e).state ≠ .onAir)

/-! ### Intakes -/

/-- HUNT_CANDIDATE: the byte is taken, and the candidate that it completes is judged; a good one enters PRESYNC with presync
count 1 and the next header expected 136 positions after it (R21). -/
def Obligations.HuntJudgesEveryPosition : Prop :=
  ∀ (s : State) (p : Port) (b : Byte), (s.intake p).delineation = .hunt →
    (goodHeader (lastEight ((s.intake p).window ++ [b])) →
      exec (.huntCandidate p b) s = .next (s.setIntake p { s.intake p with
        window := lastEight ((s.intake p).window ++ [b])
        taken := (s.intake p).taken + 1
        delineation := .presync
        presyncCount := some 1
        expected := some ((s.intake p).taken + 129) })) ∧
    (¬goodHeader (lastEight ((s.intake p).window ++ [b])) →
      exec (.huntCandidate p b) s = .next (s.setIntake p { s.intake p with
        window := lastEight ((s.intake p).window ++ [b])
        taken := (s.intake p).taken + 1 }))

/-- PRESYNC_HEADER: short of the expected header's last byte the bytes are only taken; with it the header is judged: the
second good one counts, the third enters SYNC and begins a cell, with a SYNC notice, and a bad one returns to HUNT (R22,
R24). -/
def Obligations.PresyncConfirmsOrReturnsToHunt : Prop :=
  ∀ (s : State) (p : Port) (bytes : List Byte) (e : Nat), (s.intake p).delineation = .presync →
    (s.intake p).expected = some e →
    let w := lastEight ((s.intake p).window ++ bytes)
    let x : Intake := { s.intake p with window := w, taken := (s.intake p).taken + bytes.length }
    ((s.intake p).taken + bytes.length < e + 8 → exec (.presyncHeader p bytes) s = .next (s.setIntake p x)) ∧
    ((s.intake p).taken + bytes.length = e + 8 →
      (¬goodHeader w →
        exec (.presyncHeader p bytes) s = .next (s.setIntake p
          { x with delineation := .hunt, presyncCount := none, expected := none, badRun := 0 })) ∧
      (goodHeader w → (s.intake p).presyncCount = some 1 →
        exec (.presyncHeader p bytes) s = .next (s.setIntake p
          { x with presyncCount := some 2, expected := some (e + 136) })) ∧
      (goodHeader w → (s.intake p).presyncCount = some 2 →
        ∃ t h, exec (.presyncHeader p bytes) s = .next t ∧ readHeader w = some h ∧
          t.intake p = { x with
            delineation := .sync, presyncCount := none, badRun := 0, expected := some (e + 136),
            inProgress := some ⟨h, []⟩ } ∧
          t = { s.setIntake p (t.intake p) with
            control := s.control.withNotice s.clock .sync (t.syncNoticeData p .gained) }))

/-- SYNC_HEADER: a good header begins a cell and clears the bad header run; a bad one is counted, with the spacing kept; the
third in a row loses sync, with a SYNC notice (R23, R24, R33). -/
def Obligations.SyncJudgesExpectedHeaders : Prop :=
  ∀ (s : State) (p : Port) (bytes : List Byte) (e : Nat), (s.intake p).delineation = .sync →
    (s.intake p).inProgress = none → (s.intake p).expected = some e →
    let w := lastEight ((s.intake p).window ++ bytes)
    let x : Intake := { s.intake p with window := w, taken := (s.intake p).taken + bytes.length }
    let c := (s.intake p).counters
    ((s.intake p).taken + bytes.length < e + 8 → exec (.syncHeader p bytes) s = .next (s.setIntake p x)) ∧
    ((s.intake p).taken + bytes.length = e + 8 →
      (goodHeader w →
        ∃ h, readHeader w = some h ∧
          exec (.syncHeader p bytes) s = .next (s.setIntake p
            { x with badRun := 0, expected := some (e + 136), inProgress := some ⟨h, []⟩ })) ∧
      (¬goodHeader w → (s.intake p).badRun ≤ 1 →
        exec (.syncHeader p bytes) s = .next (s.setIntake p
          { x with
            badRun := (s.intake p).badRun + 1
            expected := some (e + 136)
            counters := { c with headerErrors := satAdd c.headerErrors 1 } })) ∧
      (¬goodHeader w → (s.intake p).badRun = 2 →
        ∃ t, exec (.syncHeader p bytes) s = .next t ∧
          t.intake p = { x with
            delineation := .hunt, badRun := 0, expected := none, presyncCount := none,
            counters := { c with headerErrors := satAdd c.headerErrors 1, syncLosses := satAdd c.syncLosses 1 } } ∧
          t = { s.setIntake p (t.intake p) with
            control := s.control.withNotice s.clock .sync (t.syncNoticeData p .lost) }))

/-- CELL_DELIVERY: payload bytes short of 128 leave the cell in progress; the last one delivers it: it is a good cell, and the
first of the checks of R25 that it fails discards it, then FILL is consumed, then a full FIFO discards it, and otherwise it
joins the FIFO (R23, R25 to R27). -/
def Obligations.DeliveryChecksInOrder : Prop :=
  ∀ (s : State) (p : Port) (bytes : List Byte) (cell : Cell), (s.intake p).delineation = .sync →
    (s.intake p).inProgress = some cell →
    let x : Intake := { s.intake p with
      window := lastEight ((s.intake p).window ++ bytes), taken := (s.intake p).taken + bytes.length }
    let whole : Cell := { cell with payload := cell.payload ++ bytes }
    let h := cell.header
    let c : PortCounters := { x.counters with goodCells := satAdd x.counters.goodCells 1 }
    (whole.payload.length < 128 →
      exec (.cellDelivery p bytes) s = .next (s.setIntake p { x with inProgress := some whole })) ∧
    (whole.payload.length = 128 →
      exec (.cellDelivery p bytes) s = .next (s.setIntake p
        (if (h.kind = .data ∧ (h.lane = 1022 ∨ h.lane = 1023)) ∨ (h.kind = .control ∧ h.lane ≠ 1023) ∨
            (h.kind = .timing ∧ h.lane ≠ 1022) then
          { x with inProgress := none, counters := { c with kindLane := satAdd c.kindLane 1 } }
        else if p = .lf ∧ h.kind = .timing then
          { x with inProgress := none, counters := { c with kindNotPermitted := satAdd c.kindNotPermitted 1 } }
        else if (h.kind = .data ∨ h.kind = .timing) ∧ 10000000 ≤ h.sub.toNat then
          { x with inProgress := none, counters := { c with badStamps := satAdd c.badStamps 1 } }
        else if h.kind = .fill then { x with inProgress := none, counters := c }
        else if 32 ≤ x.fifo.length then
          { x with inProgress := none, counters := { c with overflows := satAdd c.overflows 1 } }
        else { x with inProgress := none, counters := c, fifo := x.fifo ++ [whole] })))

/-- INTAKE_HEAD_HANDOFF of a network DATA cell that joins no queue: a DROP lane counts not mapped, and a PASS or MEMBER lane
counts not running while the emitter is not RUNNING. In both the head leaves, the continuity test is made against the lane's
entry, which becomes the cell's count, and the watch list hears of it (R28, R29, R37, R50). -/
def Obligations.NetworkDataNotQueued : Prop :=
  ∀ (s : State) (cell : Cell) (rest : List Cell) (entry : LaneEntry) (error : Bool), s.nf.fifo = cell :: rest →
    cell.header.kind = .data → s.store.nfWaiting = none → s.laneEntry cell.header.lane.toNat = entry →
    (error = true ↔ ∃ c, rowAt s.continuity cell.header.lane.toNat none = some c ∧ cell.header.disc = false ∧
      cell.header.count ≠ c + 1) →
    entry = .drop ∨ s.emitter.state ≠ .running →
    ∃ t, exec (.intakeHeadHandoff .nf) s = .next t ∧
      t = { s with
        nf := { s.nf with
          fifo := rest
          counters := { s.nf.counters with
            continuityErrors :=
              if error then satAdd s.nf.counters.continuityErrors 1 else s.nf.counters.continuityErrors
            notMapped := if entry = .drop then satAdd s.nf.counters.notMapped 1 else s.nf.counters.notMapped } }
        continuity := setRow s.continuity cell.header.lane.toNat (some cell.header.count)
        watch := t.watch
        emitter := { s.emitter with counters := { s.emitter.counters with
          notRunning :=
            if entry = .drop then s.emitter.counters.notRunning else satAdd s.emitter.counters.notRunning 1 } } } ∧
      ∀ n, t.watchAt n = (s.watchAt n).afterCell cell.header.lane.toNat error true

/-- INTAKE_HEAD_HANDOFF of a network DATA cell of a PASS or MEMBER lane while the emitter is RUNNING: the continuity test is made and
the watch list hears of it (R29, R50), and the arithmetic forms the cell's record with the plans in force for the release second and
for the emission second. While the store is busy the head waits for the grant of its write; while it is idle the record joins the
queue at once, clamped to the tail's target, or is discarded by a full queue (R28, R38, R64 to R69, R72, R73, R95, R102). That a record
that joins fewer than 64 is staged as it joins is the model's reading of R104 (notes/assumptions/22.md). -/
def Obligations.NetworkDataFormsARecord : Prop :=
  ∀ (s : State) (cell : Cell) (rest : List Cell) (output : Nat) (place : Option GroupPlace) (p q : Plan) (error : Bool),
    s.nf.fifo = cell :: rest → cell.header.kind = .data → s.store.nfWaiting = none → s.emitter.state = .running →
    (s.laneEntry cell.header.lane.toNat).output = some output → (s.laneEntry cell.header.lane.toNat).place = place →
    (error = true ↔ ∃ c, rowAt s.continuity cell.header.lane.toNat none = some c ∧ cell.header.disc = false ∧
      cell.header.count ≠ c + 1) →
    s.plan.inForce (releaseSecond cell.header.tag s.clock.second) = some p →
    let n := nominalTime (releaseSecond cell.header.tag s.clock.second) cell.header.sub.toNat p.hold
    let e := n.shift s.plan.trim
    s.plan.inForce e.sec = some q →
    let r : Record :=
      { inLane := cell.header.lane.toNat, outLane := output, place := place, nominal := n, target := targetSlot e q.slots,
        start := cell.header.start, safe := cell.header.safe, disc := cell.header.disc, payload := cell.payload }
    ∃ t, exec (.intakeHeadHandoff .nf) s = .next t ∧
      t.continuity = setRow s.continuity cell.header.lane.toNat (some cell.header.count) ∧
      t.nf.counters = { s.nf.counters with
        continuityErrors :=
          if error then satAdd s.nf.counters.continuityErrors 1 else s.nf.counters.continuityErrors } ∧
      (s.store.access ≠ none →
        t.nf.fifo = cell :: rest ∧ t.queue = s.queue ∧ t.store = { s.store with nfWaiting := some r } ∧
        t.emitter = s.emitter ∧ ∀ w, t.watchAt w = (s.watchAt w).afterCell r.inLane error false) ∧
      (s.store.access = none → s.store.readWaiting = none → s.store.lfWaiting = none →
        t.nf.fifo = rest ∧
        (s.store.capacity ≤ s.queue.length →
          t.queue = s.queue ∧ t.store = s.store ∧
          t.emitter = { s.emitter with counters := { s.emitter.counters with
            queueFull := satAdd s.emitter.counters.queueFull 1 } } ∧
          ∀ w, t.watchAt w = (s.watchAt w).afterCell r.inLane error true) ∧
        (s.queue.length < s.store.capacity →
          ∃ joined : Record,
            (∀ last, s.queue.getLast? = some last → r.target.earlier last.target = true →
              joined = { r with target := last.target } ∧
              t.emitter = { s.emitter with counters := { s.emitter.counters with
                orderClamps := satAdd s.emitter.counters.orderClamps 1 } }) ∧
            ((∀ last, s.queue.getLast? = some last → r.target.earlier last.target = false) →
              joined = r ∧ t.emitter = s.emitter) ∧
            t.queue = s.queue ++ [joined] ∧
            t.store = { s.store with
              ringTail := (s.store.ringTail + 1) % s.store.capacity
              access := some (.write s.store.ringTail (.record joined))
              staged := t.store.staged } ∧
            (s.queue.length < 64 →
              t.store.staged = s.store.staged ++ [⟨.record s.store.ringTail, some (.record joined)⟩]) ∧
            (64 ≤ s.queue.length → t.store.staged = s.store.staged) ∧
            ∀ w, t.watchAt w =
              if (s.watchAt w).lane = some r.inLane then
                { (s.watchAt w).afterCell r.inLane error false with queued := satAdd (s.watchAt w).queued 1 }
              else s.watchAt w))

/-- INTAKE_HEAD_HANDOFF of a network TIMING cell: a bad one and a late plan are counted, the first valid one becomes the
current plan, one that repeats the plan in force or the pending plan refreshes it, and any other with a later effective second
becomes the pending plan. Every valid one but a late plan restarts the stale timer, and the notices of R61 follow (R54 to R57,
R59, R61). That FRESH and PENDING both report the plans after the whole event is the model's choice (notes/assumptions/20.md). -/
def Obligations.TimingCellSetsThePlan : Prop :=
  ∀ (s : State) (cell : Cell) (rest : List Cell), s.nf.fifo = cell :: rest → cell.header.kind = .timing →
    s.store.nfWaiting = none →
    let p := readPlan cell.payload
    let valid := p.hold ≤ 15000000 ∧ 1000 ≤ p.slots ∧ p.slots ≤ 60000 ∧ cell.header.tag.toNat = p.eff.toNat % 4
    ∃ t, exec (.intakeHeadHandoff .nf) s = .next t ∧
      t = { s with nf := { s.nf with fifo := rest, counters := t.nf.counters }, plan := t.plan, control := t.control } ∧
      (¬valid → t.plan = s.plan ∧ t.control = s.control ∧
        t.nf.counters = { s.nf.counters with badTiming := satAdd s.nf.counters.badTiming 1 }) ∧
      (valid → s.plan.current = none →
        t.plan = { s.plan with current := some p, staleTimer := 0 } ∧ t.nf.counters = s.nf.counters ∧
        t.control = s.control.withNotice s.clock .plan (t.planNoticeData .firstPlan)) ∧
      (∀ cur, valid → s.plan.current = some cur → secondNoLater p.eff s.clock.second = true →
        ¬(p.hold = cur.hold ∧ p.slots = cur.slots) →
        t.plan = s.plan ∧ t.control = s.control ∧
        t.nf.counters = { s.nf.counters with lateTiming := satAdd s.nf.counters.lateTiming 1 }) ∧
      (∀ cur, valid → s.plan.current = some cur →
        let fresh := if s.plan.stale then s.control.withNotice s.clock .plan (t.planNoticeData .fresh) else s.control
        (secondNoLater p.eff s.clock.second = true → p.hold = cur.hold → p.slots = cur.slots →
          t.plan = { s.plan with staleTimer := 0, stale := false } ∧ t.nf.counters = s.nf.counters ∧ t.control = fresh) ∧
        (secondNoLater p.eff s.clock.second = false → s.plan.pending = some p →
          t.plan = { s.plan with staleTimer := 0, stale := false } ∧ t.nf.counters = s.nf.counters ∧ t.control = fresh) ∧
        (secondNoLater p.eff s.clock.second = false → s.plan.pending ≠ some p →
          t.plan = { s.plan with pending := some p, staleTimer := 0, stale := false } ∧
          t.nf.counters = s.nf.counters ∧ t.control = fresh.withNotice s.clock .plan (t.planNoticeData .pending)))

/-- INTAKE_HEAD_HANDOFF of a CONTROL cell on either port: the head leaves, and its command joins the command queue with the port's
origin, or is a control drop where the queue holds 8; commands that are not this part's then leave the head of the queue without
reply. Of a local DATA cell: a lane of 256 or more is counted and the cell discarded; any other names clip and member, and the
cell's write waits while the store is busy (R28, R30 to R32, R106, R108, R158). That the command is taken by a row of its own and
not within this one is the model's choice (notes/assumptions/8.md). -/
def Obligations.OtherHeadsAreHandedOn : Prop :=
  (∀ (s : State) (p : Port) (cell : Cell) (rest : List Cell), (s.intake p).fifo = cell :: rest →
     cell.header.kind = .control → (p = .nf → s.store.nfWaiting = none) → (p = .lf → s.store.lfWaiting = none) →
     ∃ t, exec (.intakeHeadHandoff p) s = .next t ∧
       t = { s.setIntake p { s.intake p with fifo := rest } with control := t.control } ∧
       (s.control.queue.length < 8 →
         t.control = { s.control with
           queue := (s.control.queue ++
             [({ origin := if p = .nf then .network else .localFeed, payload := cell.payload } : Command)]).dropWhile s.control.foreign }) ∧
       (8 ≤ s.control.queue.length →
         t.control = { s.control with controlDrops := satAdd s.control.controlDrops 1 })) ∧
  (∀ (s : State) (cell : Cell) (rest : List Cell), s.lf.fifo = cell :: rest → cell.header.kind = .data →
     s.store.lfWaiting = none →
     (256 ≤ cell.header.lane.toNat →
       exec (.intakeHeadHandoff .lf) s =
         .next { s with lf := { s.lf with fifo := rest }, clipLanesOut := satAdd s.clipLanesOut 1 }) ∧
     (∀ clip member, clip < 64 → cell.header.lane.toNat = 64 * member + clip → member < 4 → s.store.access ≠ none →
       exec (.intakeHeadHandoff .lf) s =
         .next { s with store := { s.store with lfWaiting := some ⟨clip, member, cell⟩ } }))

/-! ### Cell store -/

/-- CELL_STORE_ACCESS_END of a write: its block holds the data written, and every other block reads as before. Of a read with no
request waiting: its copy joins the staging buffer, unless its item was dropped while the access ran, and the store is idle (R93,
R98, R102, R104). -/
def Obligations.AccessesEnd : Prop :=
  (∀ (s : State) (b : Nat) (d : BlockData), s.store.access = some (.write b d) → b < 1048576 →
     ∃ t, exec .cellStoreAccessEnd s = .next t ∧ dramRead t.store.dram b = some d ∧
       ∀ a, a ≠ b → dramRead t.store.dram a = dramRead s.store.dram a) ∧
  (∀ (s : State) (r : ReadRequest) (wanted : Bool), s.store.access = some (.read r wanted) → r.block < 1048576 →
     s.store.readWaiting = none → s.store.nfWaiting = none → s.store.lfWaiting = none →
     exec .cellStoreAccessEnd s = .next { s with store := { s.store with
       access := none
       staged := if wanted then s.store.staged ++ [⟨r.item, dramRead s.store.dram r.block⟩] else s.store.staged } })

/-- The grant at the end of an access goes to a waiting emitter read, else to the Network Intake's write, else to the Local
Intake's. A record that joins there is clamped to the tail's target where its own is earlier, and the watch list hears of it as queued;
one that the queue discards, because the emitter is not RUNNING or the queue is full, is counted, is reported as discarded and gives its
access up, and the next request is granted at once. A clip cell granted there is unexpected, appended at its member's next block, given
the extent at the head of the free extent list, or lost (R50, R73, R95, R97, R102, R103, R109, R110). -/
def Obligations.ArbiterGrantsByRank : Prop :=
  ∀ (s : State) (a : Access), s.store.access = some a → a.block < 1048576 →
    let noClipWrite (t : State) : Prop :=
      t.store.lfWaiting = s.store.lfWaiting ∧ t.lf = s.lf ∧ t.store.free = s.store.free ∧ t.clips = s.clips ∧
      t.clipUnexpected = s.clipUnexpected
    let clipWrite (t : State) (w : ClipWrite) : Prop :=
      let r := s.clipAt w.clip
      let x := r.memberAt w.position
      t.store.lfWaiting = none ∧ t.lf = { s.lf with fifo := s.lf.fifo.tail } ∧
      (r.state ≠ .loading ∨ r.memberCount.getD 0 ≤ w.position →
        t.store.access = none ∧ t.store.free = s.store.free ∧ t.clips = s.clips ∧
        t.clipUnexpected = satAdd s.clipUnexpected 1) ∧
      (r.state = .loading → w.position < r.memberCount.getD 0 →
        t.clipUnexpected = s.clipUnexpected ∧
        (∀ last f, x.extents.getLast? = some last → x.fill = some f → f < 1024 →
          t.store.access = some (.write (emissionBlocks s.store.setting + 1024 * last + f) (.clipCell w.cell)) ∧
          t.store.free = s.store.free ∧
          t.clips = setRow s.clips w.clip { r with
            check := clipCheck r.check w.cell.payload
            members := setRow r.members w.position { x with count := x.count + 1, fill := some (f + 1) } }) ∧
        (∀ n free, x.extents = [] ∨ x.fill = some 1024 → s.store.free = n :: free →
          t.store.access = some (.write (emissionBlocks s.store.setting + 1024 * n) (.clipCell w.cell)) ∧
          t.store.free = free ∧
          t.clips = setRow s.clips w.clip { r with
            check := clipCheck r.check w.cell.payload
            members := setRow r.members w.position
              { x with count := x.count + 1, extents := x.extents ++ [n], fill := some 1 } }) ∧
        (x.extents = [] ∨ x.fill = some 1024 → s.store.free = [] →
          t.store.access = none ∧ t.store.free = [] ∧
          t.clips = setRow s.clips w.clip { r with lost := satAdd r.lost 1 }))
    let discarded (t : State) (r : Record) : Prop :=
      t.queue = s.queue ∧ t.store.ringTail = s.store.ringTail ∧
      (∀ n, t.watchAt n =
        if (s.watchAt n).lane = some r.inLane then
          { s.watchAt n with discarded := satAdd (s.watchAt n).discarded 1 }
        else s.watchAt n) ∧
      (∀ w, s.store.lfWaiting = some w → clipWrite t w) ∧
      (s.store.lfWaiting = none → t.store.access = none ∧ noClipWrite t)
    ∃ t, exec .cellStoreAccessEnd s = .next t ∧
      (∀ r, s.store.readWaiting = some r →
        t.store.access = some (.read r true) ∧ t.store.readWaiting = none ∧ t.store.nfWaiting = s.store.nfWaiting ∧
        noClipWrite t ∧ t.nf = s.nf ∧ t.queue = s.queue ∧ t.emitter = s.emitter ∧ t.watch = s.watch) ∧
      (∀ r, s.store.readWaiting = none → s.store.nfWaiting = some r →
        t.store.nfWaiting = none ∧ t.nf = { s.nf with fifo := s.nf.fifo.tail } ∧
        (s.emitter.state = .running → s.queue.length < s.store.capacity →
          noClipWrite t ∧
          ∃ joined : Record,
            (∀ last, s.queue.getLast? = some last → r.target.earlier last.target = true →
              joined = { r with target := last.target } ∧
              t.emitter = { s.emitter with counters := { s.emitter.counters with
                orderClamps := satAdd s.emitter.counters.orderClamps 1 } }) ∧
            ((∀ last, s.queue.getLast? = some last → r.target.earlier last.target = false) →
              joined = r ∧ t.emitter = s.emitter) ∧
            t.queue = s.queue ++ [joined] ∧
            t.store.access = some (.write s.store.ringTail (.record joined)) ∧
            t.store.ringTail = (s.store.ringTail + 1) % s.store.capacity ∧
            ∀ n, t.watchAt n =
              if (s.watchAt n).lane = some r.inLane then { s.watchAt n with queued := satAdd (s.watchAt n).queued 1 }
              else s.watchAt n) ∧
        (s.emitter.state = .running → s.store.capacity ≤ s.queue.length →
          discarded t r ∧
          t.emitter = { s.emitter with counters := { s.emitter.counters with
            queueFull := satAdd s.emitter.counters.queueFull 1 } }) ∧
        (s.emitter.state ≠ .running →
          discarded t r ∧
          t.emitter = { s.emitter with counters := { s.emitter.counters with
            notRunning := satAdd s.emitter.counters.notRunning 1 } })) ∧
      (∀ w, s.store.readWaiting = none → s.store.nfWaiting = none → s.store.lfWaiting = some w →
        clipWrite t w ∧ t.nf = s.nf ∧ t.queue = s.queue ∧ t.emitter = s.emitter ∧ t.watch = s.watch)

/-- INTAKE_HEAD_HANDOFF of a local DATA cell with the store idle: its write is granted at once. A cell of a clip that is not
LOADING, or of a member the clip does not have, is unexpected; otherwise it takes the next block of its member's last extent,
or the first block of the extent at the head of the free extent list, or is lost where there is none. A cell written counts and
enters the running check (R93, R96, R97, R102, R109, R110). -/
def Obligations.ClipCellTakesTheNextBlock : Prop :=
  ∀ (s : State) (cell : Cell) (rest : List Cell) (c m : Nat), s.lf.fifo = cell :: rest → cell.header.kind = .data →
    c < 64 → m < 4 → cell.header.lane.toNat = 64 * m + c → s.store.access = none → s.store.readWaiting = none →
    s.store.nfWaiting = none → s.store.lfWaiting = none →
    let r := s.clipAt c
    let x := r.memberAt m
    ((s.clipAt c).state ≠ .loading ∨ r.memberCount.getD 0 ≤ m →
      exec (.intakeHeadHandoff .lf) s =
        .next { s with lf := { s.lf with fifo := rest }, clipUnexpected := satAdd s.clipUnexpected 1 }) ∧
    (r.state = .loading → m < r.memberCount.getD 0 →
      (∀ last f, x.extents.getLast? = some last → x.fill = some f → f < 1024 →
        exec (.intakeHeadHandoff .lf) s = .next { s with
          lf := { s.lf with fifo := rest }
          store := { s.store with
            access := some (.write (emissionBlocks s.store.setting + 1024 * last + f) (.clipCell cell)) }
          clips := setRow s.clips c { r with
            check := clipCheck r.check cell.payload
            members := setRow r.members m { x with count := x.count + 1, fill := some (f + 1) } } }) ∧
      (∀ n free, x.extents = [] ∨ x.fill = some 1024 → s.store.free = n :: free →
        exec (.intakeHeadHandoff .lf) s = .next { s with
          lf := { s.lf with fifo := rest }
          store := { s.store with
            free := free
            access := some (.write (emissionBlocks s.store.setting + 1024 * n) (.clipCell cell)) }
          clips := setRow s.clips c { r with
            check := clipCheck r.check cell.payload
            members := setRow r.members m
              { x with count := x.count + 1, extents := x.extents ++ [n], fill := some 1 } } }) ∧
      (x.extents = [] ∨ x.fill = some 1024 → s.store.free = [] →
        exec (.intakeHeadHandoff .lf) s = .next { s with
          lf := { s.lf with fifo := rest }
          clips := setRow s.clips c { r with lost := satAdd r.lost 1 } }))

/-- EMITTER_STAGING_READ: what may be staged is the record nearest the head, within the first 64 places, that is not staged and not
being written, and the next cell of each member of a CUED or PLAYING clip that is not staged. The read is presented of the item used
soonest, granted at once in an idle store and waiting in a busy one; an item that another is used before is not read (R102, R104). That
an item's use is read from the queue as it stands, each record going through the Splice Switch in its turn, and that among items whose
uses it does not tell apart the row's operand says which is read, is the model's choice (notes/assumptions/4.md), as is that the
other items' rows change nothing (notes/assumptions/6.md). -/
def Obligations.StagingReadsAhead : Prop :=
  ∀ (s : State), s.store.readWaiting = none →
    let cursor (t : State) (c m : Nat) : Nat := ((t.clipAt c).memberAt m).cursor
    let passed (n : Nat) : State := (s.queue.take n).foldl (fun t r => (t.switchRecord r).1) s
    let takes (c m n : Nat) : Prop := n < s.queue.length ∧ (∀ j ≤ n, cursor (passed j) c m = cursor s c m) ∧
      cursor (passed (n + 1)) c m = cursor s c m + 1
    let wants (c m : Nat) : Prop := c < 64 ∧ m < 4 ∧ ((s.clipAt c).state = .cued ∨ (s.clipAt c).state = .playing) ∧
      m < (s.clipAt c).memberCount.getD 0 ∧ cursor s c m < ((s.clipAt c).memberAt m).count ∧
      s.store.holds (.clipCell c m (cursor s c m)) = false
    let idle (i : Nat) : Prop := s.store.holds (.record (s.store.recordBlock i)) = false ∧
      s.store.writing (s.store.recordBlock i) = false
    let nearest (i : Nat) : Prop := i < 64 ∧ i < s.queue.length ∧ idle i ∧ ∀ j < i, ¬idle j
    let ask (choice : StageChoice) (r : ReadRequest) : Prop :=
      (s.store.access = none →
        exec (.emitterStagingRead choice) s = .next { s with store := { s.store with access := some (.read r true) } }) ∧
      (s.store.access ≠ none →
        exec (.emitterStagingRead choice) s = .next { s with store := { s.store with readWaiting := some r } })
    (∀ i, nearest i → (∀ c m n, wants c m → takes c m n → i ≤ n) →
      ask .nearestRecord ⟨.record (s.store.recordBlock i), s.store.recordBlock i⟩) ∧
    (∀ c m, wants c m → (∀ i, nearest i → ∃ n, takes c m n ∧ n ≤ i) →
      (∀ c' m' n', wants c' m' → takes c' m' n' → ∃ n, takes c m n ∧ n ≤ n') →
      ask (.clipCell c m) ⟨.clipCell c m (cursor s c m),
        clipCellBlock s.store.setting ((s.clipAt c).memberAt m) (cursor s c m)⟩) ∧
    (∀ i c m n, nearest i → wants c m → takes c m n → n < i → exec (.emitterStagingRead .nearestRecord) s = .next s) ∧
    (∀ c m i, wants c m → nearest i → (∀ n, takes c m n → i < n) → exec (.emitterStagingRead (.clipCell c m)) s = .next s) ∧
    (∀ c m c' m' n', wants c m → wants c' m' → takes c' m' n' → (∀ n, takes c m n → n' < n) →
      exec (.emitterStagingRead (.clipCell c m)) s = .next s)

/-! ### Slots -/

/-- SLOT_START in MUTED: the slot carries the fill cell of R89, and no counter moves. Of a RUNNING emitter out of step: it enters
MUTED, the queue is flushed, the slot carries fill without being counted, and every IN event ends DONE, cause MUTED, in this slot; the
EMITTER notice, cause STEP_LOST, carries the records flushed, and the SPLICE notices follow it in ascending order of event number
(R75, R80, R84, R87, R89, R91, R137, R153). -/
def Obligations.SlotsOutOfStepCarryFill : Prop :=
  (∀ (s : State) (k : Nat), s.emitter.state = .muted → s.emitter.kNow = some k → s.emitter.slot + 1 < k →
     s.clock.subsecond = (s.emitter.slot + 1) * 10000000 / k →
     exec .slotStart s = .next { s with emitter := { s.emitter with
       slot := s.emitter.slot + 1
       line := some
         { header :=
             { lane := 0, kind := .fill, start := false, safe := false, disc := false, zero := false, count := 0, tag := 0,
               sub := 0 }
           payload := List.replicate 128 0 } } }) ∧
  (∀ (s : State) (k : Nat), s.emitter.state = .running → s.emitter.kNow = some k → s.emitter.slot + 1 < k →
     s.clock.subsecond = (s.emitter.slot + 1) * 10000000 / k → s.clock.inStep = false →
     ∃ t, exec .slotStart s = .next t ∧
       t.queue = [] ∧ t.store.ringHead = s.store.ringTail ∧ t.store.ringTail = s.store.ringTail ∧
       t.emitter.state = .muted ∧ t.emitter.slot = s.emitter.slot + 1 ∧ t.emitter.line = some fillCell ∧
       t.emitter.outCounts = s.emitter.outCounts ∧
       t.emitter.counters = { s.emitter.counters with clipTruncated := t.emitter.counters.clipTruncated } ∧
       (∀ w, t.watchAt w = { s.watchAt w with
         discarded := satAdd (s.watchAt w).discarded (s.queue.countP (fun r => decide ((s.watchAt w).lane = some r.inLane))) }) ∧
       (∀ e < 32, (s.eventAt e).state = .onAir →
         t.eventAt e = { s.eventAt e with
           state := .done
           cause := some .muted
           reason := none
           truncated := (t.eventAt e).truncated
           finish := some ⟨s.clock.second, s.emitter.slot + 1⟩ }) ∧
       (∀ e < 32, (s.eventAt e).state ≠ .onAir → t.eventAt e = s.eventAt e) ∧
       t.control = s.control.withNotices s.clock
         ((.emitter, t.emitterNoticeData .running .stepLost s.queue.length) ::
           ((List.range 32).filter (fun e => decide ((s.eventAt e).state = .onAir))).map
             (fun e => (.splice, t.spliceNoticeData e .onAir))))

/-- SLOT_START of a RUNNING emitter in step: the heads that are too late, or due beyond the late allowance, are discarded, counted and
reported to the watch list, and where the next record is not due, or there is none, the slot carries fill, which is counted. Of the
store, the ring head alone moves and the staged copies of the discarded records are dropped: no block is written, an access goes on,
and a read of a discarded record is withdrawn or no longer wanted (R50, R71, R85, R86, R95, R104). -/
def Obligations.SlotDiscardsTooLateHeads : Prop :=
  ∀ (s : State) (k : Nat) (gone rest : List Record), s.emitter.state = .running → s.emitter.kNow = some k →
    s.emitter.slot + 1 < k → s.clock.subsecond = (s.emitter.slot + 1) * 10000000 / k → s.clock.inStep = true →
    s.queue = gone ++ rest →
    let late (r : Record) := lateness s.emitter.second (s.emitter.slot + 1) k (s.emitter.kPrev.getD 0) r.target
    (∀ r ∈ gone, late r = .tooLate ∨ ∃ n, late r = .due n ∧ s.emitter.lateAllowance < n) →
    (∀ r, rest.head? = some r → late r = .notDue) →
    ∃ t, exec .slotStart s = .next t ∧
      t.queue = rest ∧ t.store.ringHead = (s.store.ringHead + gone.length) % s.store.capacity ∧
      t.emitter = { s.emitter with
        slot := s.emitter.slot + 1
        line := some fillCell
        counters := { s.emitter.counters with
          tooLate := satAdd s.emitter.counters.tooLate gone.length
          fillEmitted := satAdd s.emitter.counters.fillEmitted 1 } } ∧
      (∀ w, t.watchAt w = { s.watchAt w with
        discarded := satAdd (s.watchAt w).discarded (gone.countP (fun r => decide ((s.watchAt w).lane = some r.inLane))) }) ∧
      (let kept (x : StagedItem) : Prop := ∀ i < gone.length, x ≠ .record (s.store.recordBlock i)
       t.store = { s.store with
         ringHead := t.store.ringHead, staged := t.store.staged, readWaiting := t.store.readWaiting,
         access := t.store.access } ∧
       (∀ x, x ∈ t.store.staged ↔ x ∈ s.store.staged ∧ kept x.item) ∧
       (∀ r, t.store.readWaiting = some r ↔ s.store.readWaiting = some r ∧ kept r.item) ∧
       (s.store.access = none → t.store.access = none) ∧
       (∀ b d, s.store.access = some (.write b d) → t.store.access = some (.write b d)) ∧
       (∀ r wanted, s.store.access = some (.read r wanted) → ∃ still, t.store.access = some (.read r still) ∧
         (still = true ↔ wanted = true ∧ kept r.item))) ∧
      t = { s with queue := rest, emitter := t.emitter, watch := t.watch, store := t.store }

/-- SLOT_START that finds a record due within the late allowance, at the head or behind heads it discards: the discarded ones are
counted and reported, the record is taken, counted as late where it is, and goes through the Splice Switch. A passed record goes on
air with its own flags and payload and a replaced one with the clip cell's, under the record's output lane, that lane's next count, and
the stamp of the record's nominal time; the discontinuity flag is forced on a lane that is owed it, which is then no longer owed. A
record consumed with fill leaves its lane's count and its place in that set (R50, R71, R85, R86, R88, R95, R149 to R151). -/
def Obligations.SlotSendsTheDueRecord : Prop :=
  ∀ (s : State) (k n : Nat) (gone : List Record) (r : Record) (rest : List Record), s.emitter.state = .running →
    s.emitter.kNow = some k → s.emitter.slot + 1 < k → s.clock.subsecond = (s.emitter.slot + 1) * 10000000 / k →
    s.clock.inStep = true → s.queue = gone ++ r :: rest → r.outLane < 1024 →
    let lateOf (x : Record) := lateness s.emitter.second (s.emitter.slot + 1) k (s.emitter.kPrev.getD 0) x.target
    (∀ x ∈ gone, lateOf x = .tooLate ∨ ∃ late, lateOf x = .due late ∧ s.emitter.lateAllowance < late) →
    lateOf r = .due n → n ≤ s.emitter.lateAllowance →
    let begun : State := { s with emitter := { s.emitter with slot := s.emitter.slot + 1 } }
    let looked : State := (begun.dropHead gone.length).watchDiscards gone
    let taken : State := (looked.dropHead 1).watchLane r.inLane WatchEntry.addEmitted
    let u : State := { taken with emitter := { begun.emitter with counters := { s.emitter.counters with
      tooLate := satAdd s.emitter.counters.tooLate gone.length
      lateEmitted := if n = 0 then s.emitter.counters.lateEmitted else satAdd s.emitter.counters.lateEmitted 1 } } }
    u.queue = rest ∧ u.store.ringHead = (s.store.ringHead + gone.length + 1) % s.store.capacity ∧
    u.store.dram = s.store.dram ∧ u.store.ringTail = s.store.ringTail ∧
    (∀ w, u.watchAt w = { s.watchAt w with
      discarded := satAdd (s.watchAt w).discarded (gone.countP (fun x => decide ((s.watchAt w).lane = some x.inLane)))
      emitted := if (s.watchAt w).lane = some r.inLane then satAdd (s.watchAt w).emitted 1 else (s.watchAt w).emitted }) ∧
    ∃ t : State, exec .slotStart s = .next t ∧
      t = { (u.switchRecord r).1 with emitter := t.emitter, owed := t.owed } ∧
      t.emitter = { (u.switchRecord r).1.emitter with line := t.emitter.line, outCounts := t.emitter.outCounts } ∧
      let onAir (v : State) (start safe disc : Bool) (payload : List Byte) : Prop :=
        t.emitter.line = some
          { header :=
              { lane := BitVec.ofNat 10 r.outLane, kind := .data, start := start, safe := safe,
                disc := disc || v.owes r.outLane, zero := false, count := s.outCount r.outLane,
                tag := r.nominal.sec.setWidth 2, sub := BitVec.ofNat 24 r.nominal.sub }
            payload := payload } ∧
        t.outCount r.outLane = s.outCount r.outLane + 1 ∧ t.owes r.outLane = false ∧
        ∀ lane, lane ≠ r.outLane → t.outCount lane = s.outCount lane ∧ t.owes lane = v.owes lane
      ((u.switchRecord r).2 = .passed → onAir (u.switchRecord r).1 r.start r.safe r.disc r.payload) ∧
      (∀ c, (u.switchRecord r).2 = .replaced c →
        onAir (u.switchRecord r).1 c.header.start c.header.safe c.header.disc c.payload) ∧
      ((u.switchRecord r).2 = .short →
        t.emitter.line = some fillCell ∧ (∀ lane, t.outCount lane = s.outCount lane) ∧
        t.owed = (u.switchRecord r).1.owed)

/-! ### Switching on air -/

/-- A record of a PASS lane, which has no place in a group, passes and changes nothing. A record of an IDLE group passes unless it is a qualifying leader record of an ARMED event at or after the in-time;
within the interval the leader switches in: the event is IN, the group SPLICED, the clip PLAYING, the leader in CLIP with the
record's output lane, which is owed the discontinuity flag, and the record is replaced by the clip cell at the cursor of member 0, or
consumed with fill where the member is exhausted; at or after the out-time the event is FAILED, reason MISSED, its clip returns from
CUED to READY, its group has no active event, and a SPLICE notice is queued (R118, R119, R132, R137, R140 to R142, R149, R151). That the slot reads the store and not the staging buffer is the model's reading (notes/assumptions/22.md). -/
def Obligations.RecordOfAnIdleGroup : Prop :=
  (∀ (s : State) (r : Record), r.place = none → s.switchRecord r = (s, .passed)) ∧
  (∀ (s : State) (r : Record) (g m : Nat), r.place = some ⟨g, m⟩ → g < 16 → (s.groupAt g).state = .idle →
    ((s.groupAt g).active = none → s.switchRecord r = (s, .passed)) ∧
    (∀ e, (s.groupAt g).active = some e → e < 32 → (s.eventAt e).given.group = g → (s.eventAt e).given.clip < 64 →
      r.outLane < 1024 →
      let o := (s.eventAt e).given
      (m ≠ 0 ∨ r.start = false ∨ r.safe = false ∨ r.nominal.earlier o.inTime = true → s.switchRecord r = (s, .passed)) ∧
      (m = 0 → r.start = true → r.safe = true → r.nominal.earlier o.inTime = false → r.nominal.earlier o.outTime = true →
        ∃ t, t = (s.switchRecord r).1 ∧
          (t.eventAt e).state = .onAir ∧ (t.eventAt e).pIn = some r.nominal ∧ (t.eventAt e).given = o ∧
          (t.groupAt g) = { s.groupAt g with state := .spliced } ∧ (t.clipAt o.clip).state = .playing ∧
          (t.switchAt g).pIn = some r.nominal ∧ (t.switchAt g).pOut = (s.switchAt g).pOut ∧
          (t.switchAt g).phaseAt 0 = .clip ∧ (t.switchAt g).laneAt 0 = some r.outLane ∧
          (∀ j, j ≠ 0 → (t.switchAt g).phaseAt j = (s.switchAt g).phaseAt j) ∧ t.owes r.outLane = true ∧
          (let x := (s.clipAt o.clip).memberAt 0
           0 < (s.clipAt o.clip).memberCount.getD 0 →
            (∀ cell, x.cursor < x.count →
              s.store.content (emissionBlocks s.store.setting + 1024 * x.extents.getD (x.cursor / 1024) 0 + x.cursor % 1024) =
                some (.clipCell cell) →
              (s.switchRecord r).2 = .replaced cell ∧ (t.clipAt o.clip).memberAt 0 = { x with cursor := x.cursor + 1 } ∧
              (t.eventAt e).replaced = satAdd (s.eventAt e).replaced 1 ∧ (t.eventAt e).short = (s.eventAt e).short) ∧
            (x.count ≤ x.cursor →
              (s.switchRecord r).2 = .short ∧ (t.clipAt o.clip).memberAt 0 = x ∧
              (t.eventAt e).short = satAdd (s.eventAt e).short 1 ∧ (t.eventAt e).replaced = (s.eventAt e).replaced ∧
              t.emitter.counters = { s.emitter.counters with clipShort := satAdd s.emitter.counters.clipShort 1 })) ∧
          t.control = s.control.withNotice s.clock .splice (t.spliceNoticeData e .armed)) ∧
      (m = 0 → r.start = true → r.safe = true → r.nominal.earlier o.inTime = false → r.nominal.earlier o.outTime = false →
        ∃ t, s.switchRecord r = (t, .passed) ∧
          t.eventAt e = { s.eventAt e with
            state := .failed, cause := none, reason := some .missed, finish := some ⟨s.clock.second, s.emitter.slot⟩ } ∧
          (t.groupAt g).active = none ∧ (t.groupAt g).state = .idle ∧
          ((s.eventAt e).state = .armed → (s.clipAt o.clip).state = .cued →
            t.clipAt o.clip = { s.clipAt o.clip with
              state := .ready, members := (s.clipAt o.clip).members.map (fun x => { x with cursor := 0 }) }) ∧
          t.control = s.control.withNotice s.clock .splice (t.spliceNoticeData e (s.eventAt e).state) ∧
          t.order = s.order.filter (fun x => decide (x ≠ e)) ∧ t.switch = s.switch ∧ t.owed = s.owed ∧
          t.emitter = s.emitter ∧ t.queue = s.queue)))

/-- A record of member 1 to 3 of a SPLICED group, by the member's phase: the tables of R143 for WAITING and of R146 for CLIP, and
a member in BACK passes. A switch-in enters CLIP with the record's output lane, which is owed the discontinuity flag, and is replaced; a
switch-out enters BACK, its lane owed the flag too, and is passed, and the splice ends with it where the leader is in BACK and no member
is in CLIP any more (R140, R143, R146, R147). -/
def Obligations.RecordOfASplicedMember : Prop :=
  ∀ (s : State) (r : Record) (g m e : Nat), r.place = some ⟨g, m⟩ → (s.groupAt g).state = .spliced →
    (s.groupAt g).active = some e → 1 ≤ m → m ≤ 3 →
    let w := s.switchAt g
    let count := (s.clipAt (s.eventAt e).given.clip).memberCount.getD 0
    let entered (p : Phase) (lanes : Vector (Option Nat) 4) : State :=
      { s with
        switch := setRow s.switch g { w with phases := setRow w.phases m p, lanes := lanes }
        owed := setRow s.owed r.outLane true }
    let inn : State := entered .clip (setRow w.lanes m (some r.outLane))
    let out : State := entered .back w.lanes
    (g < 16 → r.outLane < 1024 →
      (inn.switchAt g).phaseAt m = .clip ∧ (inn.switchAt g).laneAt m = some r.outLane ∧ inn.owes r.outLane = true ∧
      ∀ j, j ≠ m → (inn.switchAt g).phaseAt j = w.phaseAt j ∧ (inn.switchAt g).laneAt j = w.laneAt j) ∧
    (g < 16 → r.outLane < 1024 →
      (out.switchAt g).phaseAt m = .back ∧ (out.switchAt g).laneAt m = w.laneAt m ∧ out.owes r.outLane = true ∧
      ∀ j, j ≠ m → (out.switchAt g).phaseAt j = w.phaseAt j ∧ (out.switchAt g).laneAt j = w.laneAt j) ∧
    (w.phaseAt m = .waiting →
      ((w.pOut ≠ none ∨ count ≤ m ∨ r.start = false ∨ (∃ p, w.pIn = some p ∧ r.nominal.earlier p = true)) →
        s.switchRecord r = (s, .passed)) ∧
      (∀ p, w.pOut = none → m < count → r.start = true → w.pIn = some p → r.nominal.noEarlier p = true →
        s.switchRecord r = inn.replaceRecord e m ∧ (s.switchRecord r).1.switch = inn.switch ∧
        (s.switchRecord r).1.owed = inn.owed)) ∧
    (w.phaseAt m = .clip →
      (w.pOut = none → s.switchRecord r = s.replaceRecord e m) ∧
      (∀ p, w.pOut = some p →
        (r.nominal.earlier p = true → s.switchRecord r = s.replaceRecord e m) ∧
        (r.start = false → r.nominal.noEarlier p = true → r.nominal.earlier ⟨p.sec + 1, p.sub⟩ = true →
          s.switchRecord r = s.replaceRecord e m) ∧
        (r.nominal.noEarlier p = true → r.start = true ∨ r.nominal.noEarlier ⟨p.sec + 1, p.sub⟩ = true →
          (w.phaseAt 0 = .back ∧ (∀ j, 1 ≤ j → j ≤ 3 → j ≠ m → w.phaseAt j ≠ .clip) →
            s.switchRecord r =
              (out.endSplice e .done (if (s.eventAt e).returnRequested then .earlyReturn else .outTime), .passed)) ∧
          (w.phaseAt 0 ≠ .back ∨ (∃ j, 1 ≤ j ∧ j ≤ 3 ∧ j ≠ m ∧ w.phaseAt j = .clip) →
            s.switchRecord r = (out, .passed))))) ∧
    (w.phaseAt m = .back → s.switchRecord r = (s, .passed))

/-- A record of the leader of a SPLICED group: in CLIP, a qualifying record at or after the switch-out threshold (the out-time,
or the return time where one is requested and earlier) switches out: P_out is its nominal time, the leader is in BACK, its lane
is owed the discontinuity flag and the record passes, and the splice ends with it where no member is in CLIP; every other one is
replaced. In BACK it passes (R144, R145, R147). Of a return time and an out-time exactly 2^31 s apart the return time is the threshold,
which is the model's choice (notes/assumptions/38.md). -/
def Obligations.RecordOfASplicedLeader : Prop :=
  ∀ (s : State) (r : Record) (g e : Nat), r.place = some ⟨g, 0⟩ → (s.groupAt g).state = .spliced →
    (s.groupAt g).active = some e → g < 16 → e < 32 → r.outLane < 1024 → (s.eventAt e).given.group = g →
    let w := s.switchAt g
    ∀ threshold : Time,
    (((s.eventAt e).returnRequested = false ∧ threshold = (s.eventAt e).given.outTime) ∨
      (∃ x, (s.eventAt e).returnRequested = true ∧ (s.eventAt e).returnTime = some x ∧
        threshold = if x.earlier (s.eventAt e).given.outTime then x else (s.eventAt e).given.outTime)) →
    (w.phaseAt 0 = .back → s.switchRecord r = (s, .passed)) ∧
    (w.phaseAt 0 = .clip →
      (r.start = false ∨ r.safe = false ∨ r.nominal.earlier threshold = true → s.switchRecord r = s.replaceRecord e 0) ∧
      (r.start = true → r.safe = true → r.nominal.noEarlier threshold = true →
        ∃ t, s.switchRecord r = (t, .passed) ∧ (t.eventAt e).pOut = some r.nominal ∧ t.owes r.outLane = true ∧
          ((∀ j, 1 ≤ j → j ≤ 3 → w.phaseAt j ≠ .clip) →
            (t.eventAt e).state = .done ∧
            (t.eventAt e).cause = some (if (s.eventAt e).returnRequested then .earlyReturn else .outTime) ∧
            t.groupAt g = { s.groupAt g with state := .idle, active := none } ∧ t.switchAt g = .clear) ∧
          ((∃ j, 1 ≤ j ∧ j ≤ 3 ∧ w.phaseAt j = .clip) →
            t.eventAt e = { s.eventAt e with pOut := some r.nominal } ∧ t.groupAt g = s.groupAt g ∧
            t.switchAt g = { w with pOut := some r.nominal, phases := setRow w.phases 0 .back })))

/-- A replaced record asks its clip member for the next cell: the cell at the cursor, which then advances, or, for an exhausted
member, none: the record is consumed with fill and counted short (R96, R118, R149, R151). That the slot reads the store and not the
staging buffer is the model's choice (notes/assumptions/22.md). -/
def Obligations.ReplacementTakesTheNextCell : Prop :=
  ∀ (s : State) (e m c : Nat), e < 32 → m < 4 → c < 64 → (s.eventAt e).given.clip = c →
    m < (s.clipAt c).memberCount.getD 0 →
    let x := (s.clipAt c).memberAt m
    (∀ cell, x.cursor < x.count →
      s.store.content (emissionBlocks s.store.setting + 1024 * x.extents.getD (x.cursor / 1024) 0 + x.cursor % 1024) =
        some (.clipCell cell) →
      (s.replaceRecord e m).2 = .replaced cell ∧
      ((s.replaceRecord e m).1.clipAt c).memberAt m = { x with cursor := x.cursor + 1 } ∧
      (s.replaceRecord e m).1.eventAt e = { s.eventAt e with replaced := satAdd (s.eventAt e).replaced 1 } ∧
      (s.replaceRecord e m).1.owed = s.owed ∧ (s.replaceRecord e m).1.emitter = s.emitter) ∧
    (x.count ≤ x.cursor →
      s.replaceRecord e m = ({ s with
        events := setRow s.events e { s.eventAt e with short := satAdd (s.eventAt e).short 1 }
        emitter := { s.emitter with counters := { s.emitter.counters with
          clipShort := satAdd s.emitter.counters.clipShort 1 } } }, .short))

/-- The end of a splice in its five steps: the cells that played members leave unplayed are truncated, the lanes of members in
CLIP are owed the discontinuity flag, the event is final with its finish time and its notice, the clip is READY with cursors at
0, and the group is IDLE with a clear switch state (R119, R132, R137, R152). -/
def Obligations.EndOfASplice : Prop :=
  ∀ (s : State) (e g c : Nat) (final : EventState) (cause : EndingCause), e < 32 → g < 16 → c < 64 →
    (s.eventAt e).given.group = g → (s.eventAt e).given.clip = c → (s.groupAt g).active = some e →
    (s.clipAt c).state = .playing →
    let w := s.switchAt g
    let left (m : Nat) : Nat :=
      if w.phaseAt m = .waiting then 0 else ((s.clipAt c).memberAt m).count - ((s.clipAt c).memberAt m).cursor
    let n := left 0 + left 1 + left 2 + left 3
    ∃ t, t = s.endSplice e final cause ∧
      t.eventAt e = { s.eventAt e with
        state := final
        cause := some cause
        reason := none
        truncated := satAdd (s.eventAt e).truncated n
        finish := some ⟨s.clock.second, s.emitter.slot⟩ } ∧
      t.emitter = { s.emitter with counters := { s.emitter.counters with
        clipTruncated := satAdd s.emitter.counters.clipTruncated n } } ∧
      (∀ lane < 1024, t.owes lane = true ↔
        s.owes lane = true ∨ ∃ m < 4, w.phaseAt m = .clip ∧ w.laneAt m = some lane) ∧
      t.order = s.order.filter (fun x => decide (x ≠ e)) ∧
      t.clipAt c = { s.clipAt c with
        state := .ready, members := (s.clipAt c).members.map (fun m => { m with cursor := 0 }) } ∧
      t.groupAt g = { s.groupAt g with state := .idle, active := none } ∧
      t.switchAt g = ⟨none, none, Vector.replicate 4 .waiting, Vector.replicate 4 none⟩ ∧
      t.control = s.control.withNotice s.clock .splice (t.spliceNoticeData e (s.eventAt e).state)

/-! ### Arming and the monitor port -/

/-- EVENT_ARMING: the events at the front of the pending order whose arming time, two seconds before the in-time, is no later
than nominal now leave the order, and none is left due; no other event changes. An event taken up alone is ARMED, its group's
active event, with its clip CUED and every cursor 0, or FAILED with the first reason that holds, its group and clip left as they
are (R124, R125, R128, R129, R132, R137). That an arming time exactly 2^31 s from nominal now is due is the model's choice
(notes/assumptions/34.md). -/
def Obligations.EventArmingTakesUpTheDue : Prop :=
  ∀ (s : State),
    let due := s.order.takeWhile (fun e =>
      Time.noLater ⟨(s.eventAt e).given.inTime.sec - 2, (s.eventAt e).given.inTime.sub⟩ s.nominalNow)
    ∃ t, exec .eventArming s = .next t ∧ t.dueForArming = [] ∧ t.order = s.order.filter (fun x => decide (x ∉ due)) ∧
      (∀ k, k ∉ due → t.eventAt k = s.eventAt k) ∧
      (∀ e, due = [e] → e < 32 → (s.eventAt e).state = .pending → (s.eventAt e).given.group < 16 →
        (s.eventAt e).given.clip < 64 →
        let g := (s.eventAt e).given.group
        let c := (s.eventAt e).given.clip
        let failed (why : FailReason) : Prop :=
          t.eventAt e = { s.eventAt e with
            state := .failed, cause := none, reason := some why, finish := some ⟨s.clock.second, s.emitter.slot⟩ } ∧
          t.groupAt g = s.groupAt g ∧ t.clipAt c = s.clipAt c ∧
          t.control = s.control.withNotice s.clock .splice (t.spliceNoticeData e .pending)
        (s.memberLane g 0 = none → (s.groupAt g).active ≠ some e → failed .noLeader) ∧
        (s.memberLane g 0 ≠ none → (s.groupAt g).active ≠ none → (s.groupAt g).active ≠ some e → failed .groupBusy) ∧
        (s.memberLane g 0 ≠ none → (s.groupAt g).active = none → (s.clipAt c).state ≠ .ready → failed .clipNotReady) ∧
        (s.memberLane g 0 ≠ none → (s.groupAt g).active = none → (s.clipAt c).state = .ready →
          t.eventAt e = { s.eventAt e with state := .armed } ∧ t.groupAt g = { s.groupAt g with active := some e } ∧
          t.clipAt c = { s.clipAt c with
            state := .cued, members := (s.clipAt c).members.map (fun m => { m with cursor := 0 }) } ∧
          t.control = s.control))

/-- MONITOR_CELL_SENT: the head of the monitor queue goes out on lane 1023 with the monitor continuity count, which advances,
and leaves the queue; a command at the head of the command queue that is not this part's leaves it then (R158, R164). When the count
advances is the model's reading (notes/assumptions/13.md). -/
def Obligations.MonitorCellGoesOut : Prop :=
  ∀ (s : State) (m : MonitorCell) (rest : List MonitorCell), s.control.monitor = m :: rest →
    exec .monitorCellSent s = .next { s with control := { s.control with
      monitor := rest
      count := s.control.count + 1
      queue := s.control.queue.dropWhile s.control.foreign
      line := some
        { header :=
            { lane := 1023, kind := .control, start := true, safe := false, disc := m.disc, zero := false,
              count := s.control.count, tag := m.tag, sub := m.sub }
          payload := m.payload } } }

/-! ### Commands: the common checks -/

/-- The checks common to every command, for every row of the catalogue: an unknown code is replied UNKNOWN, an addressed command
that is not exempt and carries another epoch BAD_EPOCH, and a network-only command from local origin NOT_PERMITTED; nothing but
the reply changes. A command that meets a full monitor queue waits, whatever it is. The codes, the network-only commands and those
exempt from the epoch check are the catalogue's; the head and the arguments of a command stand at their bytes, a command of another
record type or another site's address is not this part's, and a reply's head is built as laid out, with its result's code (R158 to
R160, R162, R169, R171). -/
def Obligations.CommandsAreChecked : Prop :=
  (∀ (code : Nat) (name : CommandName), commandOfCode code = some name ↔ (code, name) ∈ ([(0x01, .status), (0x02, .stats),
    (0x03, .restart), (0x10, .laneMapLoad), (0x11, .laneMapRead), (0x12, .groupSet), (0x13, .watchSet), (0x20, .siteSet),
    (0x21, .clockSet), (0x22, .partition), (0x30, .emitStart), (0x31, .emitStop), (0x40, .clipOpen), (0x41, .clipClose),
    (0x42, .clipRemove), (0x43, .clipQuery), (0x50, .spliceAdd), (0x51, .spliceCancel), (0x52, .spliceQuery)] :
      List (Nat × CommandName))) ∧
  (∀ (c : Command) (u : ControlUnit), let p := c.payload
    c.code = read1 p 1 ∧ c.address = read2 p 4 ∧ c.epoch = readSecond p 6 ∧
    (u.foreign c = true ↔ read1 p 0 ≠ 1 ∨ (read2 p 4 ≠ u.site.toNat ∧ read2 p 4 ≠ 0xFFFF)) ∧
    c.selector = read1 p 10 ∧ c.groupArg = read1 p 10 ∧ c.localAllowedArg = read1 p 11 ∧
    c.watchArg = read1 p 10 ∧ c.watchPresence = read1 p 11 ∧ c.watchLaneArg = read2 p 12 ∧
    c.trimArg = readTrim p 10 ∧ c.lateArg = read2 p 14 ∧ c.windowArg = read1 p 10 ∧ c.limitArg = read2 p 11 ∧
    c.settingArg = read1 p 10 ∧ c.clipArg = read1 p 10 ∧ c.memberCountArg = read1 p 11 ∧
    c.closeCounts = [read4 p 11, read4 p 15, read4 p 19, read4 p 23] ∧ c.closeCheck = readSecond p 27 ∧
    c.addGroup = read1 p 10 ∧ c.addClip = read1 p 11 ∧ c.addIn = ⟨readSecond p 12, read4 p 16⟩ ∧
    c.addOut = ⟨readSecond p 20, read4 p 24⟩ ∧ c.eventArg = read1 p 10) ∧
  (∀ (c : Command) (result : Result) (epoch : Word32) (site : BitVec 16) (data : List Byte), data.length ≤ 116 →
    let p := replyPayload c result epoch site data
    p.length = 128 ∧ read1 p 0 = 2 ∧ read1 p 1 = read1 c.payload 1 ∧ read2 p 2 = read2 c.payload 2 ∧ read2 p 4 = site.toNat ∧
    readSecond p 6 = epoch ∧ read1 p 11 = 0 ∧ (p.drop 12).take data.length = data ∧
    (∀ b ∈ p.drop (12 + data.length), b = 0) ∧
    (read1 p 10, result) ∈ ([(0, .ok), (1, .partialLoad), (2, .badEpoch), (3, .notPermitted), (4, .badArgument), (5, .wrongState),
      (6, .inUse), (7, .overlap), (8, .tooSoon), (9, .noEntry), (10, .notInStep), (11, .noPlan), (12, .checkFailed),
      (13, .unknown)] : List (Nat × Result))) ∧
  (∀ name : CommandName,
    (name.networkOnly = true ↔ name = .stats ∨ name = .restart ∨ name = .laneMapLoad ∨ name = .groupSet ∨ name = .watchSet ∨
      name = .siteSet ∨ name = .clockSet ∨ name = .partition ∨ name = .emitStart ∨ name = .emitStop) ∧
    (name.epochExempt = true ↔
      name = .status ∨ name = .laneMapRead ∨ name = .clipQuery ∨ name = .spliceQuery)) ∧
  ∀ (s : State) (c : Command) (rest : List Command), s.control.queue = c :: rest → s.control.foreign c = false →
    (s.control.monitor.length < 16 →
      (commandOfCode c.code = none → exec .unknown s = .next (s.answered c .unknown [])) ∧
      (∀ name : CommandName, commandOfCode c.code = some name →
        (c.address ≠ 0xFFFF → name.epochExempt = false → c.epoch ≠ s.control.epoch →
          exec name.row s = .next (s.answered c .badEpoch [])) ∧
        (c.address = 0xFFFF ∨ name.epochExempt = true ∨ c.epoch = s.control.epoch →
          c.origin = .localFeed → name.networkOnly = true → exec name.row s = .next (s.answered c .notPermitted [])))) ∧
    (16 ≤ s.control.monitor.length →
      exec .unknown s = .next s ∧ ∀ name : CommandName, exec name.row s = .next s)

/-! ### Commands: reports -/

/-- STATUS: the reply reports every item of the list at its place in the layout, the command itself not counted among those
waiting, and the notices-lost flag then becomes 0; nothing else changes (R165, R169). That the Network Intake's delineation state
stands before the Local Intake's is the model's choice (notes/assumptions/39.md). -/
def Obligations.StatusReports : Prop :=
  ∀ (s : State) (c : Command), s.grants .status c → ∃ (m : MonitorCell) (data : List Byte),
    exec .status s = .next { s with control := { s.control with
      queue := s.control.queue.tail.dropWhile s.control.foreign
      monitor := s.control.monitor ++ [m]
      gapOwed := false
      noticesLost := false } } ∧
    m = s.replyCell c .ok data ∧ data.length = 66 ∧
    read1 data 0 = s.clock.state.code ∧ read1 data 1 = s.clock.inStep.toNat ∧ readSecond data 2 = s.clock.second ∧
    read1 data 6 = s.clock.secondValid.toNat ∧ (s.clock.subsecond < 10000000 → read4 data 7 = s.clock.subsecond) ∧
    (s.clock.hold < 65536 → read2 data 11 = s.clock.hold) ∧
    read1 data 13 = s.plan.current.isSome.toNat ∧
    (∀ p, s.plan.current = some p → p.law → readPlan (data.drop 14) = p) ∧
    read1 data 24 = s.plan.pending.isSome.toNat ∧
    (∀ p, s.plan.pending = some p → p.law → readPlan (data.drop 25) = p) ∧
    read1 data 35 = s.plan.stale.toNat ∧
    (-500000 ≤ s.plan.trim → s.plan.trim ≤ 500000 → readTrim data 36 = s.plan.trim) ∧
    (s.emitter.lateAllowance < 65536 → read2 data 40 = s.emitter.lateAllowance) ∧
    (s.clock.window < 256 → read1 data 42 = s.clock.window) ∧ (s.clock.limit < 65536 → read2 data 43 = s.clock.limit) ∧
    read1 data 45 = s.emitter.state.code ∧ read1 data 46 = s.emitter.change.code ∧
    (s.queue.length < 4294967296 → read4 data 47 = s.queue.length) ∧
    (s.store.setting < 256 → read1 data 51 = s.store.setting) ∧
    (s.store.free.length < 65536 → read2 data 52 = s.store.free.length) ∧
    read1 data 54 = s.nf.delineation.code ∧ read1 data 55 = s.lf.delineation.code ∧
    (s.control.queue.length ≤ 8 → read1 data 56 = s.control.queue.length - 1) ∧
    read1 data 57 = s.control.noticesLost.toNat ∧
    (∀ g < 16, (read2 data 58).testBit g = decide ((s.groupAt g).state = .spliced)) ∧
    readSecond data 60 = s.control.epoch ∧ read2 data 64 = s.control.site.toNat

/-- The other queries: LANE MAP READ, CLIP QUERY and SPLICE QUERY read their arguments at their widths, refuse those out of range with
BAD_ARGUMENT and otherwise report the items of their rules, and change nothing but that their reply joins the monitor queue (R44, R113,
R116, R122, R124, R136, R169, R171). The width of LANE MAP READ's count is the model's choice (notes/assumptions/31.md), and so are
that the refusals carry no data (notes/assumptions/16.md) and what SPLICE QUERY reports as the arming time of an entry without an
in-time (notes/assumptions/19.md). -/
def Obligations.QueriesChangeNothing : Prop :=
  (∀ (s : State) (c : Command) (first count : Nat), s.grants .laneMapRead c → first = read2 c.payload 10 →
    count = read1 c.payload 12 →
    (1021 < first ∨ count = 0 ∨ 28 < count → exec .laneMapRead s = .next (s.answered c .badArgument [])) ∧
    (first ≤ 1021 → 1 ≤ count → count ≤ 28 → ∀ n, n = min count (1022 - first) →
      exec .laneMapRead s = .next (s.answered c .ok (bytes2 first ++ bytes1 n ++
        (List.range n).flatMap (fun i =>
          match s.laneEntry (first + i) with
          | .drop => [0, 0, 0, 0]
          | .pass output => [0x10, 0] ++ bytes2 output
          | .member output group member => bytes1 (32 + member) ++ bytes1 group ++ bytes2 output))))) ∧
  (∀ (s : State) (c : Command) (clip member place : Nat), s.grants .clipQuery c → clip = read1 c.payload 10 →
    member = read1 c.payload 11 → place = read2 c.payload 12 →
    (63 < clip ∨ 3 < member → exec .clipQuery s = .next (s.answered c .badArgument [])) ∧
    (clip ≤ 63 → member ≤ 3 →
      let r := s.clipAt clip
      let listed := ((r.memberAt member).extents.drop place).take 24
      exec .clipQuery s = .next (s.answered c .ok
        (bytes1 r.state.code ++ bytes1 (r.memberCount.getD 0) ++ bytes1 ((r.origin.map Origin.code).getD 0) ++
          bytes4 (~~~r.check).toNat ++ bytes4 r.lost ++
          [0, 1, 2, 3].flatMap (fun m => bytes4 (r.memberAt m).count ++ bytes2 (r.memberAt m).extents.length ++
            bytes2 ((r.memberAt m).fill.getD 0) ++ bytes4 (r.memberAt m).cursor) ++
          bytes1 listed.length ++ listed.flatMap bytes2)))) ∧
  (∀ (s : State) (c : Command) (e : Nat), s.grants .spliceQuery c → e = read1 c.payload 10 →
    (31 < e → exec .spliceQuery s = .next (s.answered c .badArgument [])) ∧
    (e ≤ 31 →
      let r := s.eventAt e
      let time (x : Time) : List Byte := bytes4 x.sec.toNat ++ bytes4 x.sub
      let times (x : Option Time) : List Byte :=
        match x with
        | none => [0, 0, 0, 0, 0, 0, 0, 0, 0]
        | some x => 1 :: time x
      let byte (x : Option Nat) : List Byte :=
        match x with
        | none => [0, 0]
        | some x => 1 :: bytes1 x
      let given :=
        match r.order with
        | none => byte none ++ byte none ++ byte none ++ times none ++ times none
        | some o => byte (some (if o.origin = .network then 0 else 1)) ++ byte (some o.group) ++ byte (some o.clip) ++
            times (some o.inTime) ++ times (some o.outTime)
      let finish :=
        match r.finish with
        | none => [0, 0, 0, 0, 0, 0, 0]
        | some x => 1 :: bytes4 x.sec.toNat ++ bytes2 x.slot
      let arming :=
        match r.order with
        | none => [0, 0, 0, 0, 0, 0, 0, 0]
        | some o => time ⟨o.inTime.sec - 2, o.inTime.sub⟩
      let place : List Byte → Prop := fun bytes =>
        (e ∉ s.order → bytes = [0, 0, 0]) ∧
        (∀ n, n < s.order.length → s.order[n]? = some e → (∀ j < n, s.order[j]? ≠ some e) → bytes = 1 :: bytes2 n)
      ∃ at_ : List Byte, place at_ ∧ exec .spliceQuery s = .next (s.answered c .ok
        (bytes1 e ++ bytes1 r.state.code ++ given ++ bytesFlag r.returnRequested ++ times r.returnTime ++ times r.pIn ++
          times r.pOut ++ byte (r.cause.map EndingCause.code) ++ byte (r.reason.map FailReason.code) ++ bytes4 r.replaced ++
          bytes4 r.short ++ bytes4 r.truncated ++ finish ++ arming ++ at_ ++ time s.nominalNow))))

/-- STATS: selector 0 reports the 28 counters in their order and sets each to 0; selectors 1 to 4 report four watch entries each
and set their twenty counters to 0, keeping the lanes; any other selector is refused and clears nothing (R33, R51, R90, R112,
R166, R169). That the refusal carries no data is the model's choice (notes/assumptions/16.md). -/
def Obligations.StatsReportsAndClears : Prop :=
  ∀ (s : State) (c : Command), s.grants .stats c →
    (4 < c.selector → exec .stats s = .next (s.answered c .badArgument [])) ∧
    (c.selector = 0 →
      let n := s.nf.counters
      let l := s.lf.counters
      let e := s.emitter.counters
      let t := s.answered c .ok
        ([n.goodCells, n.headerErrors, n.syncLosses, n.kindLane, n.badStamps, n.overflows, n.continuityErrors, n.notMapped,
          n.badTiming, n.lateTiming, l.goodCells, l.headerErrors, l.syncLosses, l.kindLane, l.kindNotPermitted, l.badStamps,
          l.overflows, e.fillEmitted, e.lateEmitted, e.tooLate, e.orderClamps, e.queueFull, e.notRunning, e.clipShort,
          e.clipTruncated, s.clipLanesOut, s.clipUnexpected, s.control.controlDrops].flatMap bytes4)
      exec .stats s = .next { t with
        nf := { s.nf with counters := ⟨0, 0, 0, 0, 0, 0, 0, 0, 0, 0, 0⟩ }
        lf := { s.lf with counters := ⟨0, 0, 0, 0, 0, 0, 0, 0, 0, 0, 0⟩ }
        emitter := { s.emitter with counters := ⟨0, 0, 0, 0, 0, 0, 0, 0⟩ }
        clipLanesOut := 0
        clipUnexpected := 0
        control := { t.control with controlDrops := 0 } }) ∧
    (∀ k, c.selector = k + 1 → k < 4 → ∃ t : State,
      t.control = (s.answered c .ok ([4 * k, 4 * k + 1, 4 * k + 2, 4 * k + 3].flatMap (fun n =>
        (match (s.watchAt n).lane with
          | none => [0, 0, 0]
          | some lane => 1 :: bytes2 lane) ++
        bytes4 (s.watchAt n).arrived ++ bytes4 (s.watchAt n).contErrors ++ bytes4 (s.watchAt n).queued ++
        bytes4 (s.watchAt n).emitted ++ bytes4 (s.watchAt n).discarded))).control ∧
      (∀ n < 16, t.watchAt n =
        if 4 * k ≤ n ∧ n < 4 * k + 4 then ⟨(s.watchAt n).lane, 0, 0, 0, 0, 0⟩ else s.watchAt n) ∧
      exec .stats s = .next { s with control := t.control, watch := t.watch })

/-! ### Commands: RESTART -/

/-- RESTART: the intake FIFOs and their waiting writes go, the command queue is emptied, the epoch is the first of the epoch
counter and its successors that is neither 0 nor the epoch before, the reply carries it and the number of commands behind, the
PENDING, ARMED and IN events are CANCELLED with cause RESTART, the emitter is STOPPED with nothing pending and its queue flushed;
the rest is kept, an access in progress too, whose read is no longer wanted where its item is dropped. The SPLICE notices follow the
reply in ascending order of event number, and the EMITTER notice, cause RESTART, follows them. The watch list hears of each record and
of a waiting cell as discarded. With the schedule, the groups and the clips in agreement, every group is then IDLE, every CUED or PLAYING
clip READY, the pending order empty, and the output lane of every member in CLIP owed the discontinuity flag, beside the lanes owed
before (R34, R50, R91, R92, R104, R105, R121, R137, R138, R154, R161, R167). -/
def Obligations.RestartKeepsAndClears : Prop :=
  ∀ (s : State) (c : Command), s.grants .restart c → ∃ (t : State) (epoch : Word32),
    exec .restart s = .next t ∧
    epoch ≠ 0 ∧ epoch ≠ s.control.epoch ∧
    (∃ k : Nat, k ≤ 2 ∧ epoch = s.control.epochCounter + BitVec.ofNat 32 k ∧
      ∀ j < k, s.control.epochCounter + BitVec.ofNat 32 j = 0 ∨
        s.control.epochCounter + BitVec.ofNat 32 j = s.control.epoch) ∧
    (let answered : ControlUnit := { s.control with
       epoch := epoch
       queue := []
       monitor := s.control.monitor ++
         [{ disc := s.control.gapOwed, tag := BitVec.ofNat 2 s.clock.second.toNat, sub := BitVec.ofNat 24 s.clock.subsecond,
            payload := replyPayload c .ok epoch s.control.site (bytes1 (s.control.queue.length - 1)) }]
       gapOwed := false }
     t.control = answered.withNotices s.clock
        (((List.range 32).filter (fun e => decide ((s.eventAt e).state = .pending ∨ (s.eventAt e).state = .armed ∨
            (s.eventAt e).state = .onAir))).map (fun e => (.splice, t.spliceNoticeData e (s.eventAt e).state)) ++
          if s.emitter.state = .stopped then []
          else [(.emitter, t.emitterNoticeData s.emitter.state .restart s.queue.length)])) ∧
    t.nf = { s.nf with fifo := [] } ∧ t.lf = { s.lf with fifo := [] } ∧
    t.clock = s.clock ∧ t.plan = s.plan ∧ t.laneMap = s.laneMap ∧ t.continuity = s.continuity ∧
    t.queue = [] ∧
    t.emitter = { s.emitter with
      state := .stopped
      change := .none
      counters := { s.emitter.counters with clipTruncated := t.emitter.counters.clipTruncated } } ∧
    t.store.setting = s.store.setting ∧ t.store.free = s.store.free ∧ t.store.dram = s.store.dram ∧
    t.store.nfWaiting = none ∧ t.store.lfWaiting = none ∧ t.store.ringHead = s.store.ringTail ∧
    t.store.ringTail = s.store.ringTail ∧ t.clipLanesOut = s.clipLanesOut ∧ t.clipUnexpected = s.clipUnexpected ∧
    (s.store.access = none → t.store.access = none) ∧
    (∀ b d, s.store.access = some (.write b d) → t.store.access = some (.write b d)) ∧
    (∀ r wanted, s.store.access = some (.read r wanted) → ∃ still, t.store.access = some (.read r still) ∧
      (∀ b, r.item = .record b → still = false) ∧
      (∀ k m x, r.item = .clipCell k m x → (s.clipAt k).state ≠ .cued → (s.clipAt k).state ≠ .playing →
        still = wanted)) ∧
    (∀ n < 16, t.watchAt n = { s.watchAt n with
      discarded := satAdd (s.watchAt n).discarded
        ((s.store.nfWaiting.toList ++ s.queue).countP (fun r => decide ((s.watchAt n).lane = some r.inLane))) }) ∧
    (∀ e < 32,
      ((s.eventAt e).state = .pending ∨ (s.eventAt e).state = .armed ∨ (s.eventAt e).state = .onAir →
        (t.eventAt e).state = .cancelled ∧ (t.eventAt e).cause = some .restart ∧ (t.eventAt e).reason = none ∧
        (t.eventAt e).order = (s.eventAt e).order ∧
        (t.eventAt e).finish = some ⟨s.clock.second, s.emitter.slot⟩) ∧
      ((s.eventAt e).state ≠ .pending → (s.eventAt e).state ≠ .armed → (s.eventAt e).state ≠ .onAir →
        t.eventAt e = s.eventAt e)) ∧
    (s.spliceLaw →
      t.order = [] ∧
      (∀ g < 16, t.groupAt g = ⟨(s.groupAt g).localAllowed, .idle, none⟩) ∧
      (∀ g < 16, (s.groupAt g).state = .spliced → t.switchAt g = .clear) ∧
      (∀ lane < 1024, t.owes lane = true ↔ s.owes lane = true ∨ ∃ g < 16, (s.groupAt g).state = .spliced ∧
        ∃ m < 4, (s.switchAt g).phaseAt m = .clip ∧ (s.switchAt g).laneAt m = some lane) ∧
      (∀ r wanted k m x, s.store.access = some (.read r wanted) → r.item = .clipCell k m x → k < 64 →
        (s.clipAt k).state = .cued ∨ (s.clipAt k).state = .playing → t.store.access = some (.read r false)) ∧
      (∀ k < 64,
        ((s.clipAt k).state = .cued ∨ (s.clipAt k).state = .playing →
          t.clipAt k = { s.clipAt k with
            state := .ready, members := (s.clipAt k).members.map (fun m => { m with cursor := 0 }) }) ∧
        ((s.clipAt k).state ≠ .cued → (s.clipAt k).state ≠ .playing → t.clipAt k = s.clipAt k)))

/-! ### Commands: tables and settings -/

/-- An entry of a LANE MAP LOAD fails by its first failing check: BAD_ARGUMENT for an index, action, output lane, group or member out of
range, then OVERLAP for an output lane or a member position that an entry at another index holds, then IN_USE for a present or new group
with an active event; it passes exactly when its index is mappable, its action, output lane, group and member are in range,
no entry at another index holds its output lane or its member position, and neither its present nor its new group has an active
event. Entries are applied in order, each replacing the entry and clearing the lane's continuity entry, until the first that
fails, which the reply names with its reason; a count outside 1 to 28 refuses the load (R39 to R42, R171), without data, which is
the model's choice (notes/assumptions/16.md). -/
def Obligations.LaneMapLoadAppliesInOrder : Prop :=
  (∀ (s : State) (index : Nat) (x : RawEntry) (e : LaneEntry), s.checkEntry index x = .ok e ↔
    index ≤ 1021 ∧
    ((x.action = 0 ∧ e = .drop) ∨ (x.action = 1 ∧ e = .pass x.output) ∨
      (x.action = 2 ∧ e = .member x.output x.group x.position)) ∧
    (∀ o, e.output = some o → 1 ≤ o ∧ o ≤ 1021 ∧ ∀ j, j ≠ index → (s.laneEntry j).output ≠ some o) ∧
    (∀ p, e.place = some p → p.group ≤ 15 ∧ p.position ≤ 3 ∧ (∀ j, j ≠ index → (s.laneEntry j).place ≠ some p) ∧
      (s.groupAt p.group).active = none) ∧
    (∀ p, (s.laneEntry index).place = some p → (s.groupAt p.group).active = none)) ∧
  (∀ (s : State) (index : Nat) (x : RawEntry) (why : Result),
    let bad : Prop := 1021 < index ∨ 3 ≤ x.action ∨ (1 ≤ x.action ∧ (x.output < 1 ∨ 1021 < x.output)) ∨
      (x.action = 2 ∧ (15 < x.group ∨ 3 < x.position))
    let overlap : Prop := (1 ≤ x.action ∧ ∃ j, j ≠ index ∧ (s.laneEntry j).output = some x.output) ∨
      (x.action = 2 ∧ ∃ j, j ≠ index ∧ (s.laneEntry j).place = some ⟨x.group, x.position⟩)
    let inUse : Prop := (∃ p, (s.laneEntry index).place = some p ∧ (s.groupAt p.group).active ≠ none) ∨
      (x.action = 2 ∧ (s.groupAt x.group).active ≠ none)
    (bad → (s.checkEntry index x = .error why ↔ why = .badArgument)) ∧
    (¬bad → overlap → (s.checkEntry index x = .error why ↔ why = .overlap)) ∧
    (¬bad → ¬overlap → inUse → (s.checkEntry index x = .error why ↔ why = .inUse)) ∧
    (¬bad → ¬overlap → ¬inUse → s.checkEntry index x ≠ .error why)) ∧
  (∀ (s : State) (c : Command), s.grants .laneMapLoad c →
    (c.entryCount = 0 ∨ 28 < c.entryCount → exec .laneMapLoad s = .next (s.answered c .badArgument [])) ∧
    (∀ (n : Nat) (m : Nat → State), 1 ≤ c.entryCount → c.entryCount ≤ 28 → n ≤ c.entryCount → m 0 = s →
      (∀ i < n, ∃ e, (m i).checkEntry (c.firstIndex + i) (readRawEntry c.payload (13 + 4 * i)) = .ok e ∧
        m (i + 1) = { m i with
          laneMap := setRow (m i).laneMap (c.firstIndex + i) e
          continuity := setRow (m i).continuity (c.firstIndex + i) none }) →
      (n = c.entryCount →
        exec .laneMapLoad s = .next ((m n).answered c .ok (bytes4 c.firstIndex ++ bytes1 0 ++ bytes1 n))) ∧
      (∀ why, n < c.entryCount →
        (m n).checkEntry (c.firstIndex + n) (readRawEntry c.payload (13 + 4 * n)) = .error why →
        exec .laneMapLoad s =
          .next ((m n).answered c .partialLoad (bytes4 (c.firstIndex + n) ++ bytes1 why.code ++ bytes1 n)))))

/-- GROUP SET sets local-allowed alone and reports the record; WATCH SET sets an entry's lane and clears its counters, and reports
the lane; arguments out of range are refused and change nothing (R47, R49, R169). That these refusals carry no data is the model's choice
(notes/assumptions/16.md). -/
def Obligations.GroupAndWatchAreSet : Prop :=
  (∀ (s : State) (c : Command), s.grants .groupSet c →
    (15 < c.groupArg ∨ 1 < c.localAllowedArg → exec .groupSet s = .next (s.answered c .badArgument [])) ∧
    (∀ g allowed, c.groupArg = g → g ≤ 15 → c.localAllowedArg = allowed → allowed ≤ 1 →
      exec .groupSet s = .next (({ s with
        groups := setRow s.groups g { s.groupAt g with localAllowed := decide (allowed = 1) } } : State).answered c .ok
          ([BitVec.ofNat 8 g, BitVec.ofNat 8 allowed] ++ bytes1 (s.groupAt g).state.code ++
            (match (s.groupAt g).active with
              | none => [0, 0]
              | some e => 1 :: bytes1 e) ++
            [0, 1, 2, 3].flatMap (fun m =>
              match s.memberLane g m with
              | none => [0, 0, 0]
              | some lane => 1 :: bytes2 lane))))) ∧
  (∀ (s : State) (c : Command), s.grants .watchSet c →
    (15 < c.watchArg ∨ (c.watchPresence = 1 ∧ 1021 < c.watchLaneArg) →
      exec .watchSet s = .next (s.answered c .badArgument [])) ∧
    (c.watchArg ≤ 15 → c.watchPresence = 0 →
      exec .watchSet s = .next (({ s with watch := setRow s.watch c.watchArg ⟨none, 0, 0, 0, 0, 0⟩ } : State).answered c .ok
        (bytes1 c.watchArg ++ [0, 0, 0]))) ∧
    (c.watchArg ≤ 15 → c.watchPresence = 1 → c.watchLaneArg ≤ 1021 →
      exec .watchSet s = .next (({ s with
        watch := setRow s.watch c.watchArg ⟨some c.watchLaneArg, 0, 0, 0, 0, 0⟩ } : State).answered c .ok
          (bytes1 c.watchArg ++ 1 :: bytes2 c.watchLaneArg))))

/-- SITE SET sets the clamped trim and late allowance and reports them. With the trim already in force it does nothing else, whatever
event is due. With another trim it takes up behind its reply, as EVENT_ARMING does, every event that nominal now has then brought due,
leaving none; with none due nothing else changes. CLOCK SET sets the clamped pulse window and holdover
limit and reports them; a HOLDOVER past the new limit becomes UNLOCKED with its counts at 0, and a CLOCK notice follows the reply
(R13, R17, R62, R128). Which events count as due at a difference of exactly 2^31 s is the model's choice (notes/assumptions/34.md). -/
def Obligations.SettingsAreClamped : Prop :=
  (∀ (s : State) (c : Command), s.grants .siteSet c →
    let trim := if c.trimArg < -500000 then -500000 else if 500000 < c.trimArg then 500000 else c.trimArg
    let late := if 255 < c.lateArg then 255 else c.lateArg
    let u := ({ s with
      plan := { s.plan with trim := trim }
      emitter := { s.emitter with lateAllowance := late } } : State).answered c .ok
        (bytes4 (BitVec.ofInt 32 trim).toNat ++ bytes2 late)
    (trim = s.plan.trim → exec .siteSet s = .next u) ∧
    (trim ≠ s.plan.trim →
      ∃ (t : State) (notices : List MonitorCell), exec .siteSet s = .next t ∧ exec .eventArming u = .next t ∧
        t.plan = u.plan ∧ t.emitter = u.emitter ∧ t.clock = s.clock ∧ t.queue = s.queue ∧
        t.control.monitor = u.control.monitor ++ notices ∧ t.control.queue = u.control.queue ∧ t.dueForArming = [] ∧
        (u.dueForArming = [] → t = u))) ∧
  (∀ (s : State) (c : Command), s.grants .clockSet c →
    let window := if c.windowArg < 1 then 1 else if 100 < c.windowArg then 100 else c.windowArg
    let limit := if 3600 < c.limitArg then 3600 else c.limitArg
    let u := ({ s with clock := { s.clock with window := window, limit := limit } } : State).answered c .ok
      (bytes1 window ++ bytes2 limit)
    (s.clock.state ≠ .holdover ∨ s.clock.hold ≤ limit → exec .clockSet s = .next u) ∧
    (s.clock.state = .holdover → limit < s.clock.hold →
      exec .clockSet s = .next { u with
        clock := { u.clock with state := .unlocked, good := 0, bad := 0, mismatch := 0, hold := 0 }
        control := u.control.withNotice s.clock .clock
          ([3, 0, 5] ++ bytes4 s.clock.second.toNat ++ bytesFlag s.clock.secondValid ++ bytes4 s.clock.subsecond ++
            bytesFlag s.clock.freqPresent ++
            [0, 0, 0, 0, 0]) }))

/-- PARTITION acts while its setting is 0 to 3, the emitter STOPPED and every clip EMPTY: the setting is taken, every extent of it
is free in ascending order, and the ring stands at block 0. EMIT START makes START pending in STOPPED with a current plan; EMIT
STOP makes STOP pending in MUTED and RUNNING and withdraws a pending START in STOPPED. Otherwise each is refused with its result
and changes nothing; each reply reports the state after (R78, R79, R100, R101). The widths of two items of PARTITION's reply and
that NO_PLAN carries the report too are the model's choice (notes/assumptions/15.md, 16.md). -/
def Obligations.PartitionAndEmitCommands : Prop :=
  (∀ (s : State) (c : Command), s.grants .partition c →
    let report (setting free : Nat) : List Byte :=
      bytes1 setting ++ bytes4 (262144 - 65536 * setting) ++ bytes2 (768 + 64 * setting) ++ bytes2 free
    (3 < c.settingArg →
      exec .partition s = .next (s.answered c .badArgument (report s.store.setting s.store.free.length))) ∧
    (c.settingArg ≤ 3 → s.emitter.state ≠ .stopped ∨ (∃ k < 64, (s.clipAt k).state ≠ .empty) →
      exec .partition s = .next (s.answered c .inUse (report s.store.setting s.store.free.length))) ∧
    (∀ k, c.settingArg = k → k ≤ 3 → s.emitter.state = .stopped → (∀ j < 64, (s.clipAt j).state = .empty) →
      exec .partition s = .next (({ s with store := { s.store with
        setting := k
        free := List.range (768 + 64 * k)
        ringHead := 0
        ringTail := 0 } } : State).answered c .ok (report k (768 + 64 * k))))) ∧
  (∀ (s : State) (c : Command), s.grants .emitStart c →
    (s.plan.current = none →
      exec .emitStart s = .next (s.answered c .noPlan (bytes1 s.emitter.state.code ++ bytes1 s.emitter.change.code))) ∧
    (s.plan.current ≠ none → s.emitter.state = .stopped →
      exec .emitStart s =
        .next (({ s with emitter := { s.emitter with change := .start } } : State).answered c .ok [0, 1])) ∧
    (s.plan.current ≠ none → s.emitter.state ≠ .stopped →
      exec .emitStart s =
        .next (s.answered c .wrongState (bytes1 s.emitter.state.code ++ bytes1 s.emitter.change.code)))) ∧
  (∀ (s : State) (c : Command), s.grants .emitStop c →
    (s.emitter.state ≠ .stopped →
      exec .emitStop s = .next (({ s with emitter := { s.emitter with change := .stop } } : State).answered c .ok
        (bytes1 s.emitter.state.code ++ [2]))) ∧
    (s.emitter.state = .stopped → s.emitter.change = .start →
      exec .emitStop s = .next (({ s with emitter := { s.emitter with change := .none } } : State).answered c .ok [0, 0])) ∧
    (s.emitter.state = .stopped → s.emitter.change ≠ .start →
      exec .emitStop s = .next (s.answered c .wrongState (0 :: bytes1 s.emitter.change.code))))

/-! ### Commands: clips -/

/-- CLIP OPEN opens an EMPTY clip into LOADING with the member count and origin of the command; CLIP REMOVE empties a LOADING or
READY clip, whose extents join the tail of the free extent list. CLIP CLOSE of a LOADING clip compares the four counts and the
check value: in agreement the clip is READY with its cursors at 0, in any difference it is EMPTY with its extents free. Every other
case is refused and changes nothing (R99, R106, R110, R113 to R115). The data of the refusals that their rules do not list are the
model's choice (notes/assumptions/16.md). -/
def Obligations.ClipsOpenCloseAndGo : Prop :=
  ((∀ (s : State) (c : Command), s.grants .clipOpen c →
     (63 < c.clipArg ∨ c.memberCountArg = 0 ∨ 4 < c.memberCountArg →
       exec .clipOpen s = .next (s.answered c .badArgument [])) ∧
     (∀ n k, c.clipArg = n → n ≤ 63 → c.memberCountArg = k → 1 ≤ k → k ≤ 4 →
       ((s.clipAt n).state = .empty →
         exec .clipOpen s = .next (({ s with clips := setRow s.clips n { s.clipAt n with
           state := .loading
           memberCount := some k
           origin := some c.origin
           check := 0xFFFFFFFF
           lost := 0
           members := (s.clipAt n).members.map (fun m => { m with count := 0, cursor := 0 }) } } : State).answered c .ok
             ([BitVec.ofNat 8 n, 1, BitVec.ofNat 8 k] ++ bytes2 s.store.free.length))) ∧
       ((s.clipAt n).state ≠ .empty →
         exec .clipOpen s = .next (s.answered c .wrongState (bytes1 n ++ bytes1 (s.clipAt n).state.code ++
           bytes1 ((s.clipAt n).memberCount.getD 0) ++ bytes2 s.store.free.length))))) ∧
   (∀ (s : State) (c : Command), s.grants .clipRemove c →
     (63 < c.clipArg → exec .clipRemove s = .next (s.answered c .badArgument [])) ∧
     (∀ n, c.clipArg = n → n ≤ 63 →
       let held := (s.clipAt n).allExtents
       ((s.clipAt n).state = .loading ∨ (s.clipAt n).state = .ready →
         exec .clipRemove s = .next (({ s with
           clips := setRow s.clips n .blank
           store := { s.store with free := s.store.free ++ held } } : State).answered c .ok
             ([BitVec.ofNat 8 n, 0] ++ bytes2 held.length ++ bytes2 (s.store.free.length + held.length)))) ∧
       ((s.clipAt n).state = .cued ∨ (s.clipAt n).state = .playing →
         exec .clipRemove s = .next (s.answered c .inUse
           (bytes1 n ++ bytes1 (s.clipAt n).state.code ++ [0, 0] ++ bytes2 s.store.free.length))) ∧
       ((s.clipAt n).state = .empty →
         exec .clipRemove s = .next (s.answered c .wrongState
           ([BitVec.ofNat 8 n, 0, 0, 0] ++ bytes2 s.store.free.length)))))) ∧
  (∀ (s : State) (c : Command), s.grants .clipClose c →
     (63 < c.clipArg → exec .clipClose s = .next (s.answered c .badArgument [])) ∧
     (∀ n, c.clipArg = n → n ≤ 63 →
       let r := s.clipAt n
       let count (m : Nat) : Nat := (r.memberAt m).count
       let report := bytes1 n ++ bytes4 (count 0) ++ bytes4 (count 1) ++ bytes4 (count 2) ++ bytes4 (count 3) ++
         bytes4 (~~~r.check).toNat
       let agreed : Prop := read4 c.payload 11 = count 0 ∧ read4 c.payload 15 = count 1 ∧ read4 c.payload 19 = count 2 ∧
         read4 c.payload 23 = count 3 ∧ readSecond c.payload 27 = ~~~r.check
       (r.state ≠ .loading → exec .clipClose s = .next (s.answered c .wrongState [])) ∧
       (r.state = .loading → agreed →
         exec .clipClose s = .next (({ s with clips := setRow s.clips n { r with
           state := .ready
           members := r.members.map (fun m => { m with cursor := 0 }) } } : State).answered c .ok
             (report ++ [0, 1, 2, 3].flatMap (fun m => bytes2 (r.memberAt m).extents.length)))) ∧
       (r.state = .loading → ¬agreed →
         exec .clipClose s = .next (({ s with
           clips := setRow s.clips n .blank
           store := { s.store with free := s.store.free ++ r.allExtents } } : State).answered c .checkFailed
             (report ++ bytes4 r.lost ++ bytes2 r.allExtents.length)))))

/-! ### Commands: splice events -/

/-- SPLICE ADD: the six checks in their order, each with its result and data; an event that passes them all is written whole into
its entry, the lowest FREE one where there is one, otherwise the one in a final state whose finish time is oldest, the lowest of equal
ones, where the finish times lie within half of R53's circle (beyond it the choice is the model's reading, notes/assumptions/24.md), and
joins the pending order in front of the first event that has a later in-time, or an equal one and a higher number, which on in-times
that span more than half the circle is the model's choice (notes/assumptions/35.md). Nothing else changes (R53, R124 to R127, R171). -/
def Obligations.SpliceAddChecksInOrder : Prop :=
  ∀ (s : State) (c : Command) (o : SpliceOrder), s.grants .spliceAdd c →
    o = ⟨c.origin, c.addGroup, c.addClip, c.addIn, c.addOut⟩ →
    let noStep : Prop := s.clock.secondValid = false ∨ s.plan.current = none
    let barred : Prop := c.origin = .localFeed ∧ (15 < o.group ∨ (s.groupAt o.group).localAllowed = false)
    let length : Int := ((o.outTime.sec - o.inTime.sec).toNat : Int) * 10000000 + o.outTime.sub - o.inTime.sub
    let bad : Prop := 15 < o.group ∨ 63 < o.clip ∨ 10000000 ≤ o.inTime.sub ∨ 10000000 ≤ o.outTime.sub ∨
      length < 10000000 ∨ 9000000000 < length ∨ s.memberLane o.group 0 = none
    let soon : Prop := o.inTime.earlier ⟨s.nominalNow.sec + 3, s.nominalNow.sub⟩ = true
    let clashes (e : Nat) : Prop :=
      ((s.eventAt e).state = .pending ∨ (s.eventAt e).state = .armed ∨ (s.eventAt e).state = .onAir) ∧
      (s.eventAt e).given.group = o.group ∧ (s.eventAt e).given.inTime.earlier o.outTime = true ∧
      o.inTime.earlier (s.eventAt e).given.outTime = true
    let final (e : Nat) : Prop :=
      (s.eventAt e).state = .done ∨ (s.eventAt e).state = .failed ∨ (s.eventAt e).state = .cancelled
    (noStep → exec .spliceAdd s = .next (s.answered c .notInStep [])) ∧
    (¬noStep → barred → exec .spliceAdd s = .next (s.answered c .notPermitted [])) ∧
    (¬noStep → ¬barred → bad → exec .spliceAdd s = .next (s.answered c .badArgument [])) ∧
    (¬noStep → ¬barred → ¬bad → soon →
      exec .spliceAdd s = .next (s.answered c .tooSoon (bytesTime s.nominalNow))) ∧
    (∀ e < 32, ¬noStep → ¬barred → ¬bad → ¬soon → clashes e → (∀ k < e, ¬clashes k) →
      exec .spliceAdd s = .next (s.answered c .overlap (bytes1 e))) ∧
    (¬noStep → ¬barred → ¬bad → ¬soon → (∀ e < 32, ¬clashes e) →
      ((∀ e < 32, (s.eventAt e).state ≠ .free ∧ ¬final e) → exec .spliceAdd s = .next (s.answered c .noEntry [])) ∧
      ((∃ e < 32, (s.eventAt e).state = .free ∨ final e) → s.orderLaw →
        ∃ (e : Nat) (before after : List Nat), e < 32 ∧
        ((s.eventAt e).state = .free ∧ (∀ k < e, (s.eventAt k).state ≠ .free) ∨
          (final e ∧ (∀ k < 32, (s.eventAt k).state ≠ .free) ∧
            ∀ base : Word32,
              (∀ k < 32, final k → ∃ x, (s.eventAt k).finish = some x ∧ (x.sec - base).toNat < 2147483648) →
              ∀ k < 32, k ≠ e → final k → ∀ x y, (s.eventAt e).finish = some x → (s.eventAt k).finish = some y →
                (x.sec - base).toNat < (y.sec - base).toNat ∨ (x.sec = y.sec ∧ x.slot < y.slot) ∨ (x = y ∧ e < k))) ∧
        s.order = before ++ after ∧
        (∀ f ∈ before, o.inTime.earlier (s.eventAt f).given.inTime = false ∧
          (o.inTime = (s.eventAt f).given.inTime → f ≤ e)) ∧
        (∀ f, after.head? = some f → o.inTime.earlier (s.eventAt f).given.inTime = true ∨
          (o.inTime = (s.eventAt f).given.inTime ∧ e < f)) ∧
        exec .spliceAdd s = .next (({ s with
          events := setRow s.events e ⟨.pending, some o, false, none, none, none, none, none, 0, 0, 0, none⟩
          order := before ++ e :: after } : State).answered c .ok
            (bytes1 e ++ bytes1 o.group ++ bytes1 o.clip ++ bytesTime o.inTime ++ bytesTime o.outTime ++
              bytesTime ⟨o.inTime.sec - 2, o.inTime.sub⟩ ++ bytes1 (s.eventAt e).state.code))))

/-- SPLICE CANCEL: the three checks in their order; a PENDING or ARMED event becomes CANCELLED with cause COMMAND, leaves the
pending order and its group, returns its clip to READY where it was ARMED, and its notice follows the reply; an IN event takes a
return request and keeps the first return time (R132 to R134, R137). The order of the reply's items is the model's reading
(notes/assumptions/17.md). -/
def Obligations.SpliceCancelActsByState : Prop :=
  ∀ (s : State) (c : Command) (e : Nat), s.grants .spliceCancel c → c.eventArg = e →
    let r := s.eventAt e
    let barred : Prop := c.origin = .localFeed ∧
      (r.state = .free ∨ r.given.origin = .network ∨ (s.groupAt r.given.group).localAllowed = false)
    (31 < e → exec .spliceCancel s = .next (s.answered c .badArgument (bytes1 e))) ∧
    (e ≤ 31 → barred → exec .spliceCancel s = .next (s.answered c .notPermitted (bytes1 e))) ∧
    (e ≤ 31 → ¬barred →
      (r.state = .free ∨ r.state = .done ∨ r.state = .failed ∨ r.state = .cancelled →
        exec .spliceCancel s = .next (s.answered c .wrongState (bytes1 e ++ bytes1 r.state.code))) ∧
      (r.state = .onAir → r.returnRequested = false →
        exec .spliceCancel s = .next (({ s with events := setRow s.events e { r with
          returnRequested := true, returnTime := some s.nominalNow } } : State).answered c .ok
            ([3, 1] ++ bytesTime s.nominalNow))) ∧
      (∀ x, r.state = .onAir → r.returnRequested = true → r.returnTime = some x →
        exec .spliceCancel s = .next (s.answered c .ok ([3, 1] ++ bytesTime x))) ∧
      (r.state = .pending ∨ r.state = .armed → ∃ t : State, exec .spliceCancel s = .next t ∧
        t.eventAt e = { r with
          state := .cancelled
          cause := some .command
          reason := none
          finish := some ⟨s.clock.second, s.emitter.slot⟩ } ∧
        (∀ k, k ≠ e → t.eventAt k = s.eventAt k) ∧
        t.order = s.order.filter (fun x => decide (x ≠ e)) ∧
        (∀ g, t.groupAt g =
          if g = r.given.group ∧ g < 16 ∧ (s.groupAt g).active = some e then { s.groupAt g with active := none }
          else s.groupAt g) ∧
        (∀ k, t.clipAt k =
          if k = r.given.clip ∧ r.state = .armed ∧ ((s.clipAt k).state = .cued ∨ (s.clipAt k).state = .playing) then
            { s.clipAt k with state := .ready, members := (s.clipAt k).members.map (fun m => { m with cursor := 0 }) }
          else s.clipAt k) ∧
        t.control = (s.answered c .ok [6]).control.withNotice s.clock .splice (t.spliceNoticeData e r.state) ∧
        t.emitter = s.emitter ∧ t.queue = s.queue ∧ t.switch = s.switch ∧ t.owed = s.owed ∧ t.plan = s.plan))

/-! ### Headers and the emission arithmetic -/

/-- Headers on the wire and headers as data agree: the eight bytes of every header are a good header that reads back as itself,
and every good header of eight bytes is the bytes of the header it reads as, so that no bit of it is dropped (R20, R168). -/
def Obligations.HeadersRoundTrip : Prop :=
  (∀ h : Header, readHeader h.bytes = some h) ∧
  (∀ (bytes : List Byte) (h : Header), readHeader bytes = some h → h.bytes = bytes) ∧
  (∀ bytes : List Byte, goodHeader bytes ↔ ∃ h, readHeader bytes = some h)

/-- The plan in force for a second is the pending plan where one exists whose S_eff is no later than the second, and the current plan
otherwise, and its K is the slot count of the second; at a difference of exactly 2^31 this follows R60's words, which is the model's
choice (notes/assumptions/32.md) (R53, R60). The times of the emission arithmetic: the release second is the one of now − 2, now − 1, now and now + 1 that is congruent to
the second tag; the nominal time is the release time plus the hold with whole seconds carried; the emission time is the nominal
time plus the trim, with at most one borrow or carry (R65 to R67). -/
def Obligations.TimesOfTheArithmetic : Prop :=
  (∀ (u : PlanUnit) (sec : Word32),
    (u.pending = none → u.inForce sec = u.current) ∧
    (∀ p, u.pending = some p →
      ((p.eff = sec ∨ (1 ≤ (sec - p.eff).toNat ∧ (sec - p.eff).toNat ≤ 2147483648)) → u.inForce sec = some p) ∧
      ((1 ≤ (p.eff - sec).toNat ∧ (p.eff - sec).toNat ≤ 2147483647) → u.inForce sec = u.current)) ∧
    (∀ p, u.inForce sec = some p → u.slotsFor sec = some p.slots) ∧ (u.inForce sec = none → u.slotsFor sec = none)) ∧
  (∀ (tag : BitVec 2) (now : Word32),
    (releaseSecond tag now).toNat % 4 = tag.toNat ∧
    (releaseSecond tag now = now - 2 ∨ releaseSecond tag now = now - 1 ∨ releaseSecond tag now = now ∨
      releaseSecond tag now = now + 1)) ∧
  (∀ (release : Word32) (sub hold : Nat), sub < 10000000 → hold ≤ 15000000 →
    ∃ carry : Nat, carry ≤ 2 ∧ nominalTime release sub hold = ⟨release + BitVec.ofNat 32 carry, sub + hold - 10000000 * carry⟩ ∧
      10000000 * carry ≤ sub + hold ∧ sub + hold < 10000000 * carry + 10000000) ∧
  (∀ (n : Time) (trim : Int), n.sub < 10000000 → -500000 ≤ trim → trim ≤ 500000 →
    (n.shift trim).sub < 10000000 ∧
    ((n.sub : Int) + trim < 0 → (n.shift trim).sec = n.sec - 1 ∧ ((n.shift trim).sub : Int) = n.sub + trim + 10000000) ∧
    (0 ≤ (n.sub : Int) + trim → (n.sub : Int) + trim < 10000000 →
      (n.shift trim).sec = n.sec ∧ ((n.shift trim).sub : Int) = n.sub + trim) ∧
    (10000000 ≤ (n.sub : Int) + trim →
      (n.shift trim).sec = n.sec + 1 ∧ ((n.shift trim).sub : Int) = n.sub + trim - 10000000))

/-- The target slot: the smallest j whose start, j × 10,000,000 / K rounded down, is no earlier than E_sub, which is E_sub × K
divided by 10,000,000 rounded up and lies in 0..K; j = K gives slot 0 of the following second, and slot 0 gives way to slot 1
(R69). -/
def Obligations.TargetIsTheFirstSlot : Prop :=
  ∀ (e : Time) (k : Nat), e.sub < 10000000 → 1 ≤ k →
    ∃ j : Nat, j ≤ k ∧ e.sub ≤ j * 10000000 / k ∧ (∀ i < j, i * 10000000 / k < e.sub) ∧
      e.sub * k ≤ j * 10000000 ∧ j * 10000000 < e.sub * k + 10000000 ∧
      (j = k → targetSlot e k = ⟨e.sec + 1, 1⟩) ∧
      (j = 0 → targetSlot e k = ⟨e.sec, 1⟩) ∧
      (j ≠ k → j ≠ 0 → targetSlot e k = ⟨e.sec, j⟩)

/-- How the Emitter measures the lateness of the head, row by row of the table; the one second that R53 puts both later than c and
earlier than c − 1 is taken by the first row, which is the model's reading (notes/assumptions/26.md) (R53, R71). -/
def Obligations.LatenessOfTheHead : Prop :=
  ∀ (c : Word32) (i kNow kPrev : Nat) (t : SlotTime),
    (secondLater t.sec c = true → lateness c i kNow kPrev t = .notDue) ∧
    (t.sec = c → t.slot < kNow → i < t.slot → lateness c i kNow kPrev t = .notDue) ∧
    (t.sec = c → t.slot < kNow → t.slot ≤ i → lateness c i kNow kPrev t = .due (i - t.slot)) ∧
    (t.sec = c → kNow ≤ t.slot → lateness c i kNow kPrev t = .notDue) ∧
    (t.sec = c - 1 → t.slot < kPrev → lateness c i kNow kPrev t = .due (kPrev - t.slot + i)) ∧
    (t.sec = c - 1 → kPrev ≤ t.slot → 1 ≤ i → lateness c i kNow kPrev t = .due (i - 1)) ∧
    (secondEarlier t.sec (c - 1) = true → t.sec ≠ c + 2147483647 → lateness c i kNow kPrev t = .tooLate)

/-! ### The laws that every step keeps -/

/-- Every step keeps the items of the Site Clock and their phase errors in the ranges the spec gives them, with a hold count no
greater than the holdover limit in HOLDOVER (R1, R8, R13, R15, R17). -/
def Obligations.ClockLawIsKept : Prop :=
  ∀ s t : State, s.clock.law → s.clock.heldWithin → step s = .next t → t.clock.law ∧ t.clock.heldWithin

/-- Every step keeps the plans, the stale timer, the trim and the late allowance in range, a pending plan only beside a current
plan, the plan-stale flag 1 exactly at 80,000,000, and a current plan and a slot count wherever the emitter runs (R52, R54, R59,
R62, R76, R78). -/
def Obligations.PlanLawIsKept : Prop :=
  ∀ s t : State, s.planLaw → step s = .next t → t.planLaw

/-- Every step keeps the FIFOs and queues within their places, with no foreign command at the head of the command queue; every
step keeps the lane map free of shared output lanes and shared member positions; and every step keeps the DRAM in canonical
form (R27, R32, R41, R93, R157, R158, R164). -/
def Obligations.QueueLaneAndMemoryLawsAreKept : Prop :=
  (∀ s t : State, s.queueLaw → step s = .next t → t.queueLaw) ∧
  (∀ s t : State, s.laneLaw → step s = .next t → t.laneLaw) ∧
  (∀ s t : State, Memory.wf s.store.dram = true → step s = .next t → Memory.wf t.store.dram = true)

/-- Every step keeps the emission queue within its blocks, its targets never decreasing, empty unless the emitter is RUNNING, and
as long as the ring from head to tail (R73, R74, R75, R95). -/
def Obligations.EmissionLawIsKept : Prop :=
  ∀ s t : State, s.emissionLaw → step s = .next t → t.emissionLaw

/-- Every step keeps each extent either free or held by exactly one clip member, every member's cells filling its extents in
order with its cursor within its count, and every EMPTY clip at the values of R106 (R96, R97, R99, R101, R106, R118). -/
def Obligations.StoreLawIsKept : Prop :=
  ∀ s t : State, s.storeLaw → step s = .next t → t.storeLaw

/-- Every step keeps the pending order holding the PENDING events, once each; a group with at most one event ARMED or IN, its
active event, and SPLICED exactly when that event is IN; and a clip CUED or PLAYING exactly when one ARMED or IN event names it
(R45, R107, R122, R125). -/
def Obligations.SpliceLawIsKept : Prop :=
  ∀ s t : State, s.spliceLaw → step s = .next t → t.spliceLaw
end

