-- ==== Sys2Proof/Laws/State.lean ====
section
/-! SUPPORT. Rows of the tables after an update, and one lemma per plain update of State: the blocks it leaves as they are, field by
field, for simp. -/

namespace Sys2Proof.Machine

/-- Reading a row of a table after a row was replaced. -/
theorem rowAt_setRow {α : Type} {n : Nat} (v : Vector α n) (i j : Nat) (x d : α) :
    rowAt (setRow v i x) j d = if i = j ∧ j < n then x else rowAt v j d := by
  unfold rowAt setRow
  by_cases hj : j < n
  · by_cases hij : i = j
    · subst hij; simp [hj]
    · simp [Vector.getElem?_setIfInBounds_ne hij, hij]
  · simp [hj]

/-- A row of a table of equal rows. -/
theorem rowAt_replicate {α : Type} {n : Nat} (x : α) (j : Nat) : rowAt (Vector.replicate n x) j x = x := by
  unfold rowAt
  by_cases hj : j < n <;> simp [hj]

/-- A row the table does not have reads as the default. -/
theorem rowAt_of_le {α : Type} {n : Nat} (v : Vector α n) (j : Nat) (d : α) (h : n ≤ j) : rowAt v j d = d := by
  simp [rowAt, h]

/-- Reading a group record after one was replaced. -/
theorem State.groupAt_setGroup (s : State) (g h : Nat) (r : GroupRecord) :
    (s.setGroup g r).groupAt h = if g = h ∧ h < 16 then r else s.groupAt h := rowAt_setRow _ _ _ _ _

/-- Reading a switch state after one was replaced. -/
theorem State.switchAt_setSwitch (s : State) (g h : Nat) (w : SwitchState) :
    (s.setSwitch g w).switchAt h = if g = h ∧ h < 16 then w else s.switchAt h := rowAt_setRow _ _ _ _ _

/-- Reading a clip record after one was replaced. -/
theorem State.clipAt_setClip (s : State) (c d : Nat) (r : ClipRecord) :
    (s.setClip c r).clipAt d = if c = d ∧ d < 64 then r else s.clipAt d := rowAt_setRow _ _ _ _ _

/-- Reading an event record after one was replaced. -/
theorem State.eventAt_setEvent (s : State) (e f : Nat) (r : EventRecord) :
    (s.setEvent e r).eventAt f = if e = f ∧ f < 32 then r else s.eventAt f := rowAt_setRow _ _ _ _ _

/-- Reading a member after one was replaced. -/
theorem ClipRecord.memberAt_setMember (r : ClipRecord) (m k : Nat) (x : ClipMember) :
    (r.setMember m x).memberAt k = if m = k ∧ k < 4 then x else r.memberAt k := rowAt_setRow _ _ _ _ _

/-- A lane is owed after a lane joined the discontinuity-owed set exactly when it was, or is that lane. -/
theorem State.owes_owe (s : State) (lane k : Nat) :
    (s.owe lane).owes k = if lane = k ∧ k < 1024 then true else s.owes k := rowAt_setRow _ _ _ _ _

/-- Replacing a group record changes the group table alone. -/
@[simp] theorem State.setGroup_frame (s : State) (g : Nat) (r : GroupRecord) :
    (s.setGroup g r).clock = s.clock ∧ (s.setGroup g r).nf = s.nf ∧ (s.setGroup g r).lf = s.lf ∧
    (s.setGroup g r).laneMap = s.laneMap ∧ (s.setGroup g r).continuity = s.continuity ∧
    (s.setGroup g r).watch = s.watch ∧ (s.setGroup g r).plan = s.plan ∧ (s.setGroup g r).queue = s.queue ∧
    (s.setGroup g r).emitter = s.emitter ∧ (s.setGroup g r).switch = s.switch ∧ (s.setGroup g r).owed = s.owed ∧
    (s.setGroup g r).store = s.store ∧ (s.setGroup g r).clips = s.clips ∧
    (s.setGroup g r).clipLanesOut = s.clipLanesOut ∧ (s.setGroup g r).clipUnexpected = s.clipUnexpected ∧
    (s.setGroup g r).events = s.events ∧ (s.setGroup g r).order = s.order ∧ (s.setGroup g r).control = s.control ∧
    (s.setGroup g r).draws = s.draws ∧ (s.setGroup g r).pending = s.pending :=
  ⟨rfl, rfl, rfl, rfl, rfl, rfl, rfl, rfl, rfl, rfl, rfl, rfl, rfl, rfl, rfl, rfl, rfl, rfl, rfl, rfl⟩

/-- Replacing a switch state changes the switch states alone. -/
@[simp] theorem State.setSwitch_frame (s : State) (g : Nat) (w : SwitchState) :
    (s.setSwitch g w).clock = s.clock ∧ (s.setSwitch g w).nf = s.nf ∧ (s.setSwitch g w).lf = s.lf ∧
    (s.setSwitch g w).laneMap = s.laneMap ∧ (s.setSwitch g w).continuity = s.continuity ∧
    (s.setSwitch g w).groups = s.groups ∧ (s.setSwitch g w).watch = s.watch ∧ (s.setSwitch g w).plan = s.plan ∧
    (s.setSwitch g w).queue = s.queue ∧ (s.setSwitch g w).emitter = s.emitter ∧ (s.setSwitch g w).owed = s.owed ∧
    (s.setSwitch g w).store = s.store ∧ (s.setSwitch g w).clips = s.clips ∧
    (s.setSwitch g w).clipLanesOut = s.clipLanesOut ∧ (s.setSwitch g w).clipUnexpected = s.clipUnexpected ∧
    (s.setSwitch g w).events = s.events ∧ (s.setSwitch g w).order = s.order ∧ (s.setSwitch g w).control = s.control ∧
    (s.setSwitch g w).draws = s.draws ∧ (s.setSwitch g w).pending = s.pending :=
  ⟨rfl, rfl, rfl, rfl, rfl, rfl, rfl, rfl, rfl, rfl, rfl, rfl, rfl, rfl, rfl, rfl, rfl, rfl, rfl, rfl⟩

/-- Replacing a clip record changes the Clip Table alone. -/
@[simp] theorem State.setClip_frame (s : State) (c : Nat) (r : ClipRecord) :
    (s.setClip c r).clock = s.clock ∧ (s.setClip c r).nf = s.nf ∧ (s.setClip c r).lf = s.lf ∧
    (s.setClip c r).laneMap = s.laneMap ∧ (s.setClip c r).continuity = s.continuity ∧ (s.setClip c r).groups = s.groups ∧
    (s.setClip c r).watch = s.watch ∧ (s.setClip c r).plan = s.plan ∧ (s.setClip c r).queue = s.queue ∧
    (s.setClip c r).emitter = s.emitter ∧ (s.setClip c r).switch = s.switch ∧ (s.setClip c r).owed = s.owed ∧
    (s.setClip c r).store = s.store ∧ (s.setClip c r).clipLanesOut = s.clipLanesOut ∧
    (s.setClip c r).clipUnexpected = s.clipUnexpected ∧ (s.setClip c r).events = s.events ∧
    (s.setClip c r).order = s.order ∧ (s.setClip c r).control = s.control ∧ (s.setClip c r).draws = s.draws ∧
    (s.setClip c r).pending = s.pending :=
  ⟨rfl, rfl, rfl, rfl, rfl, rfl, rfl, rfl, rfl, rfl, rfl, rfl, rfl, rfl, rfl, rfl, rfl, rfl, rfl, rfl⟩

/-- Replacing an event record changes the event table alone. -/
@[simp] theorem State.setEvent_frame (s : State) (e : Nat) (r : EventRecord) :
    (s.setEvent e r).clock = s.clock ∧ (s.setEvent e r).nf = s.nf ∧ (s.setEvent e r).lf = s.lf ∧
    (s.setEvent e r).laneMap = s.laneMap ∧ (s.setEvent e r).continuity = s.continuity ∧
    (s.setEvent e r).groups = s.groups ∧ (s.setEvent e r).watch = s.watch ∧ (s.setEvent e r).plan = s.plan ∧
    (s.setEvent e r).queue = s.queue ∧ (s.setEvent e r).emitter = s.emitter ∧ (s.setEvent e r).switch = s.switch ∧
    (s.setEvent e r).owed = s.owed ∧ (s.setEvent e r).store = s.store ∧ (s.setEvent e r).clips = s.clips ∧
    (s.setEvent e r).clipLanesOut = s.clipLanesOut ∧ (s.setEvent e r).clipUnexpected = s.clipUnexpected ∧
    (s.setEvent e r).order = s.order ∧ (s.setEvent e r).control = s.control ∧ (s.setEvent e r).draws = s.draws ∧
    (s.setEvent e r).pending = s.pending :=
  ⟨rfl, rfl, rfl, rfl, rfl, rfl, rfl, rfl, rfl, rfl, rfl, rfl, rfl, rfl, rfl, rfl, rfl, rfl, rfl, rfl⟩

/-- Replacing an intake changes the intakes alone. -/
@[simp] theorem State.setIntake_frame (s : State) (p : Port) (x : Intake) :
    (s.setIntake p x).clock = s.clock ∧ (s.setIntake p x).laneMap = s.laneMap ∧
    (s.setIntake p x).continuity = s.continuity ∧ (s.setIntake p x).groups = s.groups ∧
    (s.setIntake p x).watch = s.watch ∧ (s.setIntake p x).plan = s.plan ∧ (s.setIntake p x).queue = s.queue ∧
    (s.setIntake p x).emitter = s.emitter ∧ (s.setIntake p x).switch = s.switch ∧ (s.setIntake p x).owed = s.owed ∧
    (s.setIntake p x).store = s.store ∧ (s.setIntake p x).clips = s.clips ∧
    (s.setIntake p x).clipLanesOut = s.clipLanesOut ∧ (s.setIntake p x).clipUnexpected = s.clipUnexpected ∧
    (s.setIntake p x).events = s.events ∧ (s.setIntake p x).order = s.order ∧ (s.setIntake p x).control = s.control ∧
    (s.setIntake p x).draws = s.draws ∧ (s.setIntake p x).pending = s.pending :=
  by cases p <;> simp [State.setIntake]

/-- Owing a lane changes the discontinuity-owed set alone. -/
@[simp] theorem State.owe_frame (s : State) (lane : Nat) :
    (s.owe lane).clock = s.clock ∧ (s.owe lane).nf = s.nf ∧ (s.owe lane).lf = s.lf ∧ (s.owe lane).laneMap = s.laneMap ∧
    (s.owe lane).continuity = s.continuity ∧ (s.owe lane).groups = s.groups ∧ (s.owe lane).watch = s.watch ∧
    (s.owe lane).plan = s.plan ∧ (s.owe lane).queue = s.queue ∧ (s.owe lane).emitter = s.emitter ∧
    (s.owe lane).switch = s.switch ∧ (s.owe lane).store = s.store ∧ (s.owe lane).clips = s.clips ∧
    (s.owe lane).clipLanesOut = s.clipLanesOut ∧ (s.owe lane).clipUnexpected = s.clipUnexpected ∧
    (s.owe lane).events = s.events ∧ (s.owe lane).order = s.order ∧ (s.owe lane).control = s.control ∧
    (s.owe lane).draws = s.draws ∧ (s.owe lane).pending = s.pending :=
  ⟨rfl, rfl, rfl, rfl, rfl, rfl, rfl, rfl, rfl, rfl, rfl, rfl, rfl, rfl, rfl, rfl, rfl, rfl, rfl, rfl⟩

/-- A report to the watch list changes the watch list alone. -/
@[simp] theorem State.watchLane_frame (s : State) (lane : Nat) (f : WatchEntry → WatchEntry) :
    (s.watchLane lane f).clock = s.clock ∧ (s.watchLane lane f).nf = s.nf ∧ (s.watchLane lane f).lf = s.lf ∧
    (s.watchLane lane f).laneMap = s.laneMap ∧ (s.watchLane lane f).continuity = s.continuity ∧
    (s.watchLane lane f).groups = s.groups ∧ (s.watchLane lane f).plan = s.plan ∧ (s.watchLane lane f).queue = s.queue ∧
    (s.watchLane lane f).emitter = s.emitter ∧ (s.watchLane lane f).switch = s.switch ∧
    (s.watchLane lane f).owed = s.owed ∧ (s.watchLane lane f).store = s.store ∧ (s.watchLane lane f).clips = s.clips ∧
    (s.watchLane lane f).clipLanesOut = s.clipLanesOut ∧ (s.watchLane lane f).clipUnexpected = s.clipUnexpected ∧
    (s.watchLane lane f).events = s.events ∧ (s.watchLane lane f).order = s.order ∧
    (s.watchLane lane f).control = s.control ∧ (s.watchLane lane f).draws = s.draws ∧
    (s.watchLane lane f).pending = s.pending :=
  ⟨rfl, rfl, rfl, rfl, rfl, rfl, rfl, rfl, rfl, rfl, rfl, rfl, rfl, rfl, rfl, rfl, rfl, rfl, rfl, rfl⟩

/-- A report of discards changes the watch list alone. -/
@[simp] theorem State.watchDiscards_frame (s : State) (l : List Record) :
    (s.watchDiscards l).clock = s.clock ∧ (s.watchDiscards l).nf = s.nf ∧ (s.watchDiscards l).lf = s.lf ∧
    (s.watchDiscards l).laneMap = s.laneMap ∧ (s.watchDiscards l).continuity = s.continuity ∧
    (s.watchDiscards l).groups = s.groups ∧ (s.watchDiscards l).plan = s.plan ∧ (s.watchDiscards l).queue = s.queue ∧
    (s.watchDiscards l).emitter = s.emitter ∧ (s.watchDiscards l).switch = s.switch ∧ (s.watchDiscards l).owed = s.owed ∧
    (s.watchDiscards l).store = s.store ∧ (s.watchDiscards l).clips = s.clips ∧
    (s.watchDiscards l).clipLanesOut = s.clipLanesOut ∧ (s.watchDiscards l).clipUnexpected = s.clipUnexpected ∧
    (s.watchDiscards l).events = s.events ∧ (s.watchDiscards l).order = s.order ∧
    (s.watchDiscards l).control = s.control ∧ (s.watchDiscards l).draws = s.draws ∧
    (s.watchDiscards l).pending = s.pending :=
  ⟨rfl, rfl, rfl, rfl, rfl, rfl, rfl, rfl, rfl, rfl, rfl, rfl, rfl, rfl, rfl, rfl, rfl, rfl, rfl, rfl⟩

/-- A cell joining the monitor queue changes the Control Unit alone. -/
@[simp] theorem State.joinMonitor_frame (s : State) (p : List Byte) :
    (s.joinMonitor p).clock = s.clock ∧ (s.joinMonitor p).nf = s.nf ∧ (s.joinMonitor p).lf = s.lf ∧
    (s.joinMonitor p).laneMap = s.laneMap ∧ (s.joinMonitor p).continuity = s.continuity ∧
    (s.joinMonitor p).groups = s.groups ∧ (s.joinMonitor p).watch = s.watch ∧ (s.joinMonitor p).plan = s.plan ∧
    (s.joinMonitor p).queue = s.queue ∧ (s.joinMonitor p).emitter = s.emitter ∧ (s.joinMonitor p).switch = s.switch ∧
    (s.joinMonitor p).owed = s.owed ∧ (s.joinMonitor p).store = s.store ∧ (s.joinMonitor p).clips = s.clips ∧
    (s.joinMonitor p).clipLanesOut = s.clipLanesOut ∧ (s.joinMonitor p).clipUnexpected = s.clipUnexpected ∧
    (s.joinMonitor p).events = s.events ∧ (s.joinMonitor p).order = s.order ∧ (s.joinMonitor p).draws = s.draws ∧
    (s.joinMonitor p).pending = s.pending :=
  ⟨rfl, rfl, rfl, rfl, rfl, rfl, rfl, rfl, rfl, rfl, rfl, rfl, rfl, rfl, rfl, rfl, rfl, rfl, rfl, rfl⟩

/-- A reply changes the Control Unit alone. -/
@[simp] theorem State.reply_frame (s : State) (c : Command) (r : Result) (d : List Byte) :
    (s.reply c r d).clock = s.clock ∧ (s.reply c r d).nf = s.nf ∧ (s.reply c r d).lf = s.lf ∧
    (s.reply c r d).laneMap = s.laneMap ∧ (s.reply c r d).continuity = s.continuity ∧ (s.reply c r d).groups = s.groups ∧
    (s.reply c r d).watch = s.watch ∧ (s.reply c r d).plan = s.plan ∧ (s.reply c r d).queue = s.queue ∧
    (s.reply c r d).emitter = s.emitter ∧ (s.reply c r d).switch = s.switch ∧ (s.reply c r d).owed = s.owed ∧
    (s.reply c r d).store = s.store ∧ (s.reply c r d).clips = s.clips ∧ (s.reply c r d).clipLanesOut = s.clipLanesOut ∧
    (s.reply c r d).clipUnexpected = s.clipUnexpected ∧ (s.reply c r d).events = s.events ∧
    (s.reply c r d).order = s.order ∧ (s.reply c r d).draws = s.draws ∧ (s.reply c r d).pending = s.pending :=
  ⟨rfl, rfl, rfl, rfl, rfl, rfl, rfl, rfl, rfl, rfl, rfl, rfl, rfl, rfl, rfl, rfl, rfl, rfl, rfl, rfl⟩

/-- A notice changes the Control Unit alone. -/
@[simp] theorem State.notify_frame (s : State) (k : NoticeKind) (d : List Byte) :
    (s.notify k d).clock = s.clock ∧ (s.notify k d).nf = s.nf ∧ (s.notify k d).lf = s.lf ∧
    (s.notify k d).laneMap = s.laneMap ∧ (s.notify k d).continuity = s.continuity ∧ (s.notify k d).groups = s.groups ∧
    (s.notify k d).watch = s.watch ∧ (s.notify k d).plan = s.plan ∧ (s.notify k d).queue = s.queue ∧
    (s.notify k d).emitter = s.emitter ∧ (s.notify k d).switch = s.switch ∧ (s.notify k d).owed = s.owed ∧
    (s.notify k d).store = s.store ∧ (s.notify k d).clips = s.clips ∧ (s.notify k d).clipLanesOut = s.clipLanesOut ∧
    (s.notify k d).clipUnexpected = s.clipUnexpected ∧ (s.notify k d).events = s.events ∧
    (s.notify k d).order = s.order ∧ (s.notify k d).draws = s.draws ∧ (s.notify k d).pending = s.pending :=
  by unfold State.notify; split <;> simp

/-- An emitter counter changes the Emitter alone. -/
@[simp] theorem State.countEm_frame (s : State) (f : EmitterCounters → EmitterCounters) :
    (s.countEm f).clock = s.clock ∧ (s.countEm f).nf = s.nf ∧ (s.countEm f).lf = s.lf ∧
    (s.countEm f).laneMap = s.laneMap ∧ (s.countEm f).continuity = s.continuity ∧ (s.countEm f).groups = s.groups ∧
    (s.countEm f).watch = s.watch ∧ (s.countEm f).plan = s.plan ∧ (s.countEm f).queue = s.queue ∧
    (s.countEm f).switch = s.switch ∧ (s.countEm f).owed = s.owed ∧ (s.countEm f).store = s.store ∧
    (s.countEm f).clips = s.clips ∧ (s.countEm f).clipLanesOut = s.clipLanesOut ∧
    (s.countEm f).clipUnexpected = s.clipUnexpected ∧ (s.countEm f).events = s.events ∧ (s.countEm f).order = s.order ∧
    (s.countEm f).control = s.control ∧ (s.countEm f).draws = s.draws ∧ (s.countEm f).pending = s.pending :=
  ⟨rfl, rfl, rfl, rfl, rfl, rfl, rfl, rfl, rfl, rfl, rfl, rfl, rfl, rfl, rfl, rfl, rfl, rfl, rfl, rfl⟩

/-- A port counter of NF changes the Network Intake alone. -/
@[simp] theorem State.countNf_frame (s : State) (f : PortCounters → PortCounters) :
    (s.countNf f).clock = s.clock ∧ (s.countNf f).lf = s.lf ∧ (s.countNf f).laneMap = s.laneMap ∧
    (s.countNf f).continuity = s.continuity ∧ (s.countNf f).groups = s.groups ∧ (s.countNf f).watch = s.watch ∧
    (s.countNf f).plan = s.plan ∧ (s.countNf f).queue = s.queue ∧ (s.countNf f).emitter = s.emitter ∧
    (s.countNf f).switch = s.switch ∧ (s.countNf f).owed = s.owed ∧ (s.countNf f).store = s.store ∧
    (s.countNf f).clips = s.clips ∧ (s.countNf f).clipLanesOut = s.clipLanesOut ∧
    (s.countNf f).clipUnexpected = s.clipUnexpected ∧ (s.countNf f).events = s.events ∧ (s.countNf f).order = s.order ∧
    (s.countNf f).control = s.control ∧ (s.countNf f).draws = s.draws ∧ (s.countNf f).pending = s.pending :=
  ⟨rfl, rfl, rfl, rfl, rfl, rfl, rfl, rfl, rfl, rfl, rfl, rfl, rfl, rfl, rfl, rfl, rfl, rfl, rfl, rfl⟩

/-- A head leaving its FIFO changes the intakes alone. -/
@[simp] theorem State.popFifo_frame (s : State) (p : Port) :
    (s.popFifo p).clock = s.clock ∧ (s.popFifo p).laneMap = s.laneMap ∧ (s.popFifo p).continuity = s.continuity ∧
    (s.popFifo p).groups = s.groups ∧ (s.popFifo p).watch = s.watch ∧ (s.popFifo p).plan = s.plan ∧
    (s.popFifo p).queue = s.queue ∧ (s.popFifo p).emitter = s.emitter ∧ (s.popFifo p).switch = s.switch ∧
    (s.popFifo p).owed = s.owed ∧ (s.popFifo p).store = s.store ∧ (s.popFifo p).clips = s.clips ∧
    (s.popFifo p).clipLanesOut = s.clipLanesOut ∧ (s.popFifo p).clipUnexpected = s.clipUnexpected ∧
    (s.popFifo p).events = s.events ∧ (s.popFifo p).order = s.order ∧ (s.popFifo p).control = s.control ∧
    (s.popFifo p).draws = s.draws ∧ (s.popFifo p).pending = s.pending :=
  by simp [State.popFifo]

/-- Records leaving at the head change the queue and the store alone. -/
@[simp] theorem State.dropHead_frame (s : State) (n : Nat) :
    (s.dropHead n).clock = s.clock ∧ (s.dropHead n).nf = s.nf ∧ (s.dropHead n).lf = s.lf ∧
    (s.dropHead n).laneMap = s.laneMap ∧ (s.dropHead n).continuity = s.continuity ∧ (s.dropHead n).groups = s.groups ∧
    (s.dropHead n).watch = s.watch ∧ (s.dropHead n).plan = s.plan ∧ (s.dropHead n).emitter = s.emitter ∧
    (s.dropHead n).switch = s.switch ∧ (s.dropHead n).owed = s.owed ∧ (s.dropHead n).clips = s.clips ∧
    (s.dropHead n).clipLanesOut = s.clipLanesOut ∧ (s.dropHead n).clipUnexpected = s.clipUnexpected ∧
    (s.dropHead n).events = s.events ∧ (s.dropHead n).order = s.order ∧ (s.dropHead n).control = s.control ∧
    (s.dropHead n).draws = s.draws ∧ (s.dropHead n).pending = s.pending :=
  ⟨rfl, rfl, rfl, rfl, rfl, rfl, rfl, rfl, rfl, rfl, rfl, rfl, rfl, rfl, rfl, rfl, rfl, rfl, rfl⟩

/-- A flush changes the queue, the store and the watch list alone. -/
@[simp] theorem State.flushQueue_frame (s : State) :
    (s.flushQueue).clock = s.clock ∧ (s.flushQueue).nf = s.nf ∧ (s.flushQueue).lf = s.lf ∧
    (s.flushQueue).laneMap = s.laneMap ∧ (s.flushQueue).continuity = s.continuity ∧ (s.flushQueue).groups = s.groups ∧
    (s.flushQueue).plan = s.plan ∧ (s.flushQueue).emitter = s.emitter ∧ (s.flushQueue).switch = s.switch ∧
    (s.flushQueue).owed = s.owed ∧ (s.flushQueue).clips = s.clips ∧ (s.flushQueue).clipLanesOut = s.clipLanesOut ∧
    (s.flushQueue).clipUnexpected = s.clipUnexpected ∧ (s.flushQueue).events = s.events ∧
    (s.flushQueue).order = s.order ∧ (s.flushQueue).control = s.control ∧ (s.flushQueue).draws = s.draws ∧
    (s.flushQueue).pending = s.pending :=
  ⟨rfl, rfl, rfl, rfl, rfl, rfl, rfl, rfl, rfl, rfl, rfl, rfl, rfl, rfl, rfl, rfl, rfl, rfl⟩

/-- A release changes the store and the Clip Table alone. -/
@[simp] theorem State.releaseClip_frame (s : State) (c : Nat) :
    (s.releaseClip c).clock = s.clock ∧ (s.releaseClip c).nf = s.nf ∧ (s.releaseClip c).lf = s.lf ∧
    (s.releaseClip c).laneMap = s.laneMap ∧ (s.releaseClip c).continuity = s.continuity ∧
    (s.releaseClip c).groups = s.groups ∧ (s.releaseClip c).watch = s.watch ∧ (s.releaseClip c).plan = s.plan ∧
    (s.releaseClip c).queue = s.queue ∧ (s.releaseClip c).emitter = s.emitter ∧ (s.releaseClip c).switch = s.switch ∧
    (s.releaseClip c).owed = s.owed ∧ (s.releaseClip c).clipLanesOut = s.clipLanesOut ∧
    (s.releaseClip c).clipUnexpected = s.clipUnexpected ∧ (s.releaseClip c).events = s.events ∧
    (s.releaseClip c).order = s.order ∧ (s.releaseClip c).control = s.control ∧ (s.releaseClip c).draws = s.draws ∧
    (s.releaseClip c).pending = s.pending :=
  ⟨rfl, rfl, rfl, rfl, rfl, rfl, rfl, rfl, rfl, rfl, rfl, rfl, rfl, rfl, rfl, rfl, rfl, rfl, rfl⟩

/-- A clip's return changes the store and the Clip Table alone. -/
@[simp] theorem State.returnClip_frame (s : State) (c : Nat) :
    (s.returnClip c).clock = s.clock ∧ (s.returnClip c).nf = s.nf ∧ (s.returnClip c).lf = s.lf ∧
    (s.returnClip c).laneMap = s.laneMap ∧ (s.returnClip c).continuity = s.continuity ∧
    (s.returnClip c).groups = s.groups ∧ (s.returnClip c).watch = s.watch ∧ (s.returnClip c).plan = s.plan ∧
    (s.returnClip c).queue = s.queue ∧ (s.returnClip c).emitter = s.emitter ∧ (s.returnClip c).switch = s.switch ∧
    (s.returnClip c).owed = s.owed ∧ (s.returnClip c).clipLanesOut = s.clipLanesOut ∧
    (s.returnClip c).clipUnexpected = s.clipUnexpected ∧ (s.returnClip c).events = s.events ∧
    (s.returnClip c).order = s.order ∧ (s.returnClip c).control = s.control ∧ (s.returnClip c).draws = s.draws ∧
    (s.returnClip c).pending = s.pending :=
  by unfold State.returnClip; dsimp only; split <;> simp

/-- The Emitter's new second changes the Emitter alone. -/
@[simp] theorem State.emitterSecond_frame (s : State) :
    (s.emitterSecond).clock = s.clock ∧ (s.emitterSecond).nf = s.nf ∧ (s.emitterSecond).lf = s.lf ∧
    (s.emitterSecond).laneMap = s.laneMap ∧ (s.emitterSecond).continuity = s.continuity ∧
    (s.emitterSecond).groups = s.groups ∧ (s.emitterSecond).watch = s.watch ∧ (s.emitterSecond).plan = s.plan ∧
    (s.emitterSecond).queue = s.queue ∧ (s.emitterSecond).switch = s.switch ∧ (s.emitterSecond).owed = s.owed ∧
    (s.emitterSecond).store = s.store ∧ (s.emitterSecond).clips = s.clips ∧
    (s.emitterSecond).clipLanesOut = s.clipLanesOut ∧ (s.emitterSecond).clipUnexpected = s.clipUnexpected ∧
    (s.emitterSecond).events = s.events ∧ (s.emitterSecond).order = s.order ∧ (s.emitterSecond).control = s.control ∧
    (s.emitterSecond).draws = s.draws ∧ (s.emitterSecond).pending = s.pending :=
  ⟨rfl, rfl, rfl, rfl, rfl, rfl, rfl, rfl, rfl, rfl, rfl, rfl, rfl, rfl, rfl, rfl, rfl, rfl, rfl, rfl⟩

/-- A cell on EM changes the Emitter alone. -/
@[simp] theorem State.sendEm_frame (s : State) (c : Cell) :
    (s.sendEm c).clock = s.clock ∧ (s.sendEm c).nf = s.nf ∧ (s.sendEm c).lf = s.lf ∧ (s.sendEm c).laneMap = s.laneMap ∧
    (s.sendEm c).continuity = s.continuity ∧ (s.sendEm c).groups = s.groups ∧ (s.sendEm c).watch = s.watch ∧
    (s.sendEm c).plan = s.plan ∧ (s.sendEm c).queue = s.queue ∧ (s.sendEm c).switch = s.switch ∧
    (s.sendEm c).owed = s.owed ∧ (s.sendEm c).store = s.store ∧ (s.sendEm c).clips = s.clips ∧
    (s.sendEm c).clipLanesOut = s.clipLanesOut ∧ (s.sendEm c).clipUnexpected = s.clipUnexpected ∧
    (s.sendEm c).events = s.events ∧ (s.sendEm c).order = s.order ∧ (s.sendEm c).control = s.control ∧
    (s.sendEm c).draws = s.draws ∧ (s.sendEm c).pending = s.pending :=
  ⟨rfl, rfl, rfl, rfl, rfl, rfl, rfl, rfl, rfl, rfl, rfl, rfl, rfl, rfl, rfl, rfl, rfl, rfl, rfl, rfl⟩

/-- A numbered cell on EM changes the Emitter alone. -/
@[simp] theorem State.sendCounted_frame (s : State) (n : Nat) (c : Cell) :
    (s.sendCounted n c).clock = s.clock ∧ (s.sendCounted n c).nf = s.nf ∧ (s.sendCounted n c).lf = s.lf ∧
    (s.sendCounted n c).laneMap = s.laneMap ∧ (s.sendCounted n c).continuity = s.continuity ∧
    (s.sendCounted n c).groups = s.groups ∧ (s.sendCounted n c).watch = s.watch ∧ (s.sendCounted n c).plan = s.plan ∧
    (s.sendCounted n c).queue = s.queue ∧ (s.sendCounted n c).switch = s.switch ∧ (s.sendCounted n c).owed = s.owed ∧
    (s.sendCounted n c).store = s.store ∧ (s.sendCounted n c).clips = s.clips ∧
    (s.sendCounted n c).clipLanesOut = s.clipLanesOut ∧ (s.sendCounted n c).clipUnexpected = s.clipUnexpected ∧
    (s.sendCounted n c).events = s.events ∧ (s.sendCounted n c).order = s.order ∧
    (s.sendCounted n c).control = s.control ∧ (s.sendCounted n c).draws = s.draws ∧
    (s.sendCounted n c).pending = s.pending :=
  ⟨rfl, rfl, rfl, rfl, rfl, rfl, rfl, rfl, rfl, rfl, rfl, rfl, rfl, rfl, rfl, rfl, rfl, rfl, rfl, rfl⟩

/-- The marker changes the Emitter alone. -/
@[simp] theorem State.sendMarker_frame (s : State) :
    (s.sendMarker).clock = s.clock ∧ (s.sendMarker).nf = s.nf ∧ (s.sendMarker).lf = s.lf ∧
    (s.sendMarker).laneMap = s.laneMap ∧ (s.sendMarker).continuity = s.continuity ∧ (s.sendMarker).groups = s.groups ∧
    (s.sendMarker).watch = s.watch ∧ (s.sendMarker).plan = s.plan ∧ (s.sendMarker).queue = s.queue ∧
    (s.sendMarker).switch = s.switch ∧ (s.sendMarker).owed = s.owed ∧ (s.sendMarker).store = s.store ∧
    (s.sendMarker).clips = s.clips ∧ (s.sendMarker).clipLanesOut = s.clipLanesOut ∧
    (s.sendMarker).clipUnexpected = s.clipUnexpected ∧ (s.sendMarker).events = s.events ∧
    (s.sendMarker).order = s.order ∧ (s.sendMarker).control = s.control ∧ (s.sendMarker).draws = s.draws ∧
    (s.sendMarker).pending = s.pending :=
  by unfold State.sendMarker; split <;> simp

/-- A DATA cell on EM changes the Emitter and the discontinuity-owed set alone. -/
@[simp] theorem State.sendData_frame (s : State) (r : Record) (st sa di : Bool) (p : List Byte) :
    (s.sendData r st sa di p).clock = s.clock ∧ (s.sendData r st sa di p).nf = s.nf ∧
    (s.sendData r st sa di p).lf = s.lf ∧ (s.sendData r st sa di p).laneMap = s.laneMap ∧
    (s.sendData r st sa di p).continuity = s.continuity ∧ (s.sendData r st sa di p).groups = s.groups ∧
    (s.sendData r st sa di p).watch = s.watch ∧ (s.sendData r st sa di p).plan = s.plan ∧
    (s.sendData r st sa di p).queue = s.queue ∧ (s.sendData r st sa di p).switch = s.switch ∧
    (s.sendData r st sa di p).store = s.store ∧ (s.sendData r st sa di p).clips = s.clips ∧
    (s.sendData r st sa di p).clipLanesOut = s.clipLanesOut ∧
    (s.sendData r st sa di p).clipUnexpected = s.clipUnexpected ∧ (s.sendData r st sa di p).events = s.events ∧
    (s.sendData r st sa di p).order = s.order ∧ (s.sendData r st sa di p).control = s.control ∧
    (s.sendData r st sa di p).draws = s.draws ∧ (s.sendData r st sa di p).pending = s.pending :=
  ⟨rfl, rfl, rfl, rfl, rfl, rfl, rfl, rfl, rfl, rfl, rfl, rfl, rfl, rfl, rfl, rfl, rfl, rfl, rfl⟩

/-- A forward step changes the Emitter alone. -/
@[simp] theorem State.passSlots_frame (s : State) :
    (s.passSlots).clock = s.clock ∧ (s.passSlots).nf = s.nf ∧ (s.passSlots).lf = s.lf ∧
    (s.passSlots).laneMap = s.laneMap ∧ (s.passSlots).continuity = s.continuity ∧ (s.passSlots).groups = s.groups ∧
    (s.passSlots).watch = s.watch ∧ (s.passSlots).plan = s.plan ∧ (s.passSlots).queue = s.queue ∧
    (s.passSlots).switch = s.switch ∧ (s.passSlots).owed = s.owed ∧ (s.passSlots).store = s.store ∧
    (s.passSlots).clips = s.clips ∧ (s.passSlots).clipLanesOut = s.clipLanesOut ∧
    (s.passSlots).clipUnexpected = s.clipUnexpected ∧ (s.passSlots).events = s.events ∧ (s.passSlots).order = s.order ∧
    (s.passSlots).control = s.control ∧ (s.passSlots).draws = s.draws ∧ (s.passSlots).pending = s.pending :=
  by unfold State.passSlots; split <;> simp

/-- Discarding foreign commands changes the Control Unit alone. -/
@[simp] theorem State.discardForeign_frame (s : State) :
    (s.discardForeign).clock = s.clock ∧ (s.discardForeign).nf = s.nf ∧ (s.discardForeign).lf = s.lf ∧
    (s.discardForeign).laneMap = s.laneMap ∧ (s.discardForeign).continuity = s.continuity ∧
    (s.discardForeign).groups = s.groups ∧ (s.discardForeign).watch = s.watch ∧ (s.discardForeign).plan = s.plan ∧
    (s.discardForeign).queue = s.queue ∧ (s.discardForeign).emitter = s.emitter ∧ (s.discardForeign).switch = s.switch ∧
    (s.discardForeign).owed = s.owed ∧ (s.discardForeign).store = s.store ∧ (s.discardForeign).clips = s.clips ∧
    (s.discardForeign).clipLanesOut = s.clipLanesOut ∧ (s.discardForeign).clipUnexpected = s.clipUnexpected ∧
    (s.discardForeign).events = s.events ∧ (s.discardForeign).order = s.order ∧ (s.discardForeign).draws = s.draws ∧
    (s.discardForeign).pending = s.pending :=
  ⟨rfl, rfl, rfl, rfl, rfl, rfl, rfl, rfl, rfl, rfl, rfl, rfl, rfl, rfl, rfl, rfl, rfl, rfl, rfl, rfl⟩

/-- A command leaving the command queue changes the Control Unit alone. -/
@[simp] theorem State.popCommand_frame (s : State) :
    (s.popCommand).clock = s.clock ∧ (s.popCommand).nf = s.nf ∧ (s.popCommand).lf = s.lf ∧
    (s.popCommand).laneMap = s.laneMap ∧ (s.popCommand).continuity = s.continuity ∧ (s.popCommand).groups = s.groups ∧
    (s.popCommand).watch = s.watch ∧ (s.popCommand).plan = s.plan ∧ (s.popCommand).queue = s.queue ∧
    (s.popCommand).emitter = s.emitter ∧ (s.popCommand).switch = s.switch ∧ (s.popCommand).owed = s.owed ∧
    (s.popCommand).store = s.store ∧ (s.popCommand).clips = s.clips ∧ (s.popCommand).clipLanesOut = s.clipLanesOut ∧
    (s.popCommand).clipUnexpected = s.clipUnexpected ∧ (s.popCommand).events = s.events ∧
    (s.popCommand).order = s.order ∧ (s.popCommand).draws = s.draws ∧ (s.popCommand).pending = s.pending :=
  ⟨rfl, rfl, rfl, rfl, rfl, rfl, rfl, rfl, rfl, rfl, rfl, rfl, rfl, rfl, rfl, rfl, rfl, rfl, rfl, rfl⟩

/-- An applied entry changes the lane map and the continuity table alone. -/
@[simp] theorem State.applyEntry_frame (s : State) (i : Nat) (e : LaneEntry) :
    (s.applyEntry i e).clock = s.clock ∧ (s.applyEntry i e).nf = s.nf ∧ (s.applyEntry i e).lf = s.lf ∧
    (s.applyEntry i e).groups = s.groups ∧ (s.applyEntry i e).watch = s.watch ∧ (s.applyEntry i e).plan = s.plan ∧
    (s.applyEntry i e).queue = s.queue ∧ (s.applyEntry i e).emitter = s.emitter ∧ (s.applyEntry i e).switch = s.switch ∧
    (s.applyEntry i e).owed = s.owed ∧ (s.applyEntry i e).store = s.store ∧ (s.applyEntry i e).clips = s.clips ∧
    (s.applyEntry i e).clipLanesOut = s.clipLanesOut ∧ (s.applyEntry i e).clipUnexpected = s.clipUnexpected ∧
    (s.applyEntry i e).events = s.events ∧ (s.applyEntry i e).order = s.order ∧ (s.applyEntry i e).control = s.control ∧
    (s.applyEntry i e).draws = s.draws ∧ (s.applyEntry i e).pending = s.pending :=
  ⟨rfl, rfl, rfl, rfl, rfl, rfl, rfl, rfl, rfl, rfl, rfl, rfl, rfl, rfl, rfl, rfl, rfl, rfl, rfl⟩

/-- An added event changes the event table and the pending order alone. -/
@[simp] theorem State.addEvent_frame (s : State) (e : Nat) (o : SpliceOrder) :
    (s.addEvent e o).clock = s.clock ∧ (s.addEvent e o).nf = s.nf ∧ (s.addEvent e o).lf = s.lf ∧
    (s.addEvent e o).laneMap = s.laneMap ∧ (s.addEvent e o).continuity = s.continuity ∧
    (s.addEvent e o).groups = s.groups ∧ (s.addEvent e o).watch = s.watch ∧ (s.addEvent e o).plan = s.plan ∧
    (s.addEvent e o).queue = s.queue ∧ (s.addEvent e o).emitter = s.emitter ∧ (s.addEvent e o).switch = s.switch ∧
    (s.addEvent e o).owed = s.owed ∧ (s.addEvent e o).store = s.store ∧ (s.addEvent e o).clips = s.clips ∧
    (s.addEvent e o).clipLanesOut = s.clipLanesOut ∧ (s.addEvent e o).clipUnexpected = s.clipUnexpected ∧
    (s.addEvent e o).control = s.control ∧ (s.addEvent e o).draws = s.draws ∧ (s.addEvent e o).pending = s.pending :=
  ⟨rfl, rfl, rfl, rfl, rfl, rfl, rfl, rfl, rfl, rfl, rfl, rfl, rfl, rfl, rfl, rfl, rfl, rfl, rfl⟩

/-- A return request changes the event table alone. -/
@[simp] theorem State.requestReturn_frame (s : State) (e : Nat) :
    (s.requestReturn e).clock = s.clock ∧ (s.requestReturn e).nf = s.nf ∧ (s.requestReturn e).lf = s.lf ∧
    (s.requestReturn e).laneMap = s.laneMap ∧ (s.requestReturn e).continuity = s.continuity ∧
    (s.requestReturn e).groups = s.groups ∧ (s.requestReturn e).watch = s.watch ∧ (s.requestReturn e).plan = s.plan ∧
    (s.requestReturn e).queue = s.queue ∧ (s.requestReturn e).emitter = s.emitter ∧
    (s.requestReturn e).switch = s.switch ∧ (s.requestReturn e).owed = s.owed ∧ (s.requestReturn e).store = s.store ∧
    (s.requestReturn e).clips = s.clips ∧ (s.requestReturn e).clipLanesOut = s.clipLanesOut ∧
    (s.requestReturn e).clipUnexpected = s.clipUnexpected ∧ (s.requestReturn e).order = s.order ∧
    (s.requestReturn e).control = s.control ∧ (s.requestReturn e).draws = s.draws ∧
    (s.requestReturn e).pending = s.pending :=
  by unfold State.requestReturn; dsimp only; split <;> simp

/-- The Control Unit's part of a RESTART. -/
@[simp] theorem State.restartControl_frame (s : State) :
    (s.restartControl).clock = s.clock ∧ (s.restartControl).nf = s.nf ∧ (s.restartControl).lf = s.lf ∧
    (s.restartControl).laneMap = s.laneMap ∧ (s.restartControl).continuity = s.continuity ∧
    (s.restartControl).groups = s.groups ∧ (s.restartControl).watch = s.watch ∧ (s.restartControl).plan = s.plan ∧
    (s.restartControl).queue = s.queue ∧ (s.restartControl).emitter = s.emitter ∧ (s.restartControl).switch = s.switch ∧
    (s.restartControl).owed = s.owed ∧ (s.restartControl).store = s.store ∧ (s.restartControl).clips = s.clips ∧
    (s.restartControl).clipLanesOut = s.clipLanesOut ∧ (s.restartControl).clipUnexpected = s.clipUnexpected ∧
    (s.restartControl).events = s.events ∧ (s.restartControl).order = s.order ∧ (s.restartControl).draws = s.draws ∧
    (s.restartControl).pending = s.pending :=
  ⟨rfl, rfl, rfl, rfl, rfl, rfl, rfl, rfl, rfl, rfl, rfl, rfl, rfl, rfl, rfl, rfl, rfl, rfl, rfl, rfl⟩

/-- A pending change changes the Emitter alone. -/
@[simp] theorem State.setChange_frame (s : State) (x : PendingChange) :
    (s.setChange x).clock = s.clock ∧ (s.setChange x).nf = s.nf ∧ (s.setChange x).lf = s.lf ∧
    (s.setChange x).laneMap = s.laneMap ∧ (s.setChange x).continuity = s.continuity ∧ (s.setChange x).groups = s.groups ∧
    (s.setChange x).watch = s.watch ∧ (s.setChange x).plan = s.plan ∧ (s.setChange x).queue = s.queue ∧
    (s.setChange x).switch = s.switch ∧ (s.setChange x).owed = s.owed ∧ (s.setChange x).store = s.store ∧
    (s.setChange x).clips = s.clips ∧ (s.setChange x).clipLanesOut = s.clipLanesOut ∧
    (s.setChange x).clipUnexpected = s.clipUnexpected ∧ (s.setChange x).events = s.events ∧
    (s.setChange x).order = s.order ∧ (s.setChange x).control = s.control ∧ (s.setChange x).draws = s.draws ∧
    (s.setChange x).pending = s.pending :=
  ⟨rfl, rfl, rfl, rfl, rfl, rfl, rfl, rfl, rfl, rfl, rfl, rfl, rfl, rfl, rfl, rfl, rfl, rfl, rfl, rfl⟩

/-- A new partition changes the store alone. -/
@[simp] theorem State.repartition_frame (s : State) (n : Nat) :
    (s.repartition n).clock = s.clock ∧ (s.repartition n).nf = s.nf ∧ (s.repartition n).lf = s.lf ∧
    (s.repartition n).laneMap = s.laneMap ∧ (s.repartition n).continuity = s.continuity ∧
    (s.repartition n).groups = s.groups ∧ (s.repartition n).watch = s.watch ∧ (s.repartition n).plan = s.plan ∧
    (s.repartition n).queue = s.queue ∧ (s.repartition n).emitter = s.emitter ∧ (s.repartition n).switch = s.switch ∧
    (s.repartition n).owed = s.owed ∧ (s.repartition n).clips = s.clips ∧
    (s.repartition n).clipLanesOut = s.clipLanesOut ∧ (s.repartition n).clipUnexpected = s.clipUnexpected ∧
    (s.repartition n).events = s.events ∧ (s.repartition n).order = s.order ∧ (s.repartition n).control = s.control ∧
    (s.repartition n).draws = s.draws ∧ (s.repartition n).pending = s.pending :=
  ⟨rfl, rfl, rfl, rfl, rfl, rfl, rfl, rfl, rfl, rfl, rfl, rfl, rfl, rfl, rfl, rfl, rfl, rfl, rfl, rfl⟩

end Sys2Proof.Machine
end

