-- ==== Sys2Proof/Laws/Frames.lean ====
section
/-! SUPPORT. One lemma per shared operation: the blocks of the part it leaves as they are, field by field, for simp. -/

namespace Sys2Proof.Machine

/-- A join changes the queue, the store, the watch list and the Emitter alone. -/
@[simp] theorem State.joinQueue_frame (s : State) (r : Record) :
    (s.joinQueue r).clock = s.clock ∧ (s.joinQueue r).nf = s.nf ∧ (s.joinQueue r).lf = s.lf ∧
    (s.joinQueue r).laneMap = s.laneMap ∧ (s.joinQueue r).continuity = s.continuity ∧ (s.joinQueue r).groups = s.groups ∧
    (s.joinQueue r).plan = s.plan ∧ (s.joinQueue r).switch = s.switch ∧ (s.joinQueue r).owed = s.owed ∧
    (s.joinQueue r).clips = s.clips ∧ (s.joinQueue r).clipLanesOut = s.clipLanesOut ∧
    (s.joinQueue r).clipUnexpected = s.clipUnexpected ∧ (s.joinQueue r).events = s.events ∧
    (s.joinQueue r).order = s.order ∧ (s.joinQueue r).control = s.control ∧ (s.joinQueue r).draws = s.draws ∧
    (s.joinQueue r).pending = s.pending :=
  by unfold State.joinQueue; dsimp only; split <;> simp

/-- What a Network Intake grant can change. -/
@[simp] theorem State.grantNf_frame (s : State) (r : Record) :
    (s.grantNf r).clock = s.clock ∧ (s.grantNf r).laneMap = s.laneMap ∧ (s.grantNf r).continuity = s.continuity ∧
    (s.grantNf r).groups = s.groups ∧ (s.grantNf r).plan = s.plan ∧ (s.grantNf r).switch = s.switch ∧
    (s.grantNf r).owed = s.owed ∧ (s.grantNf r).clips = s.clips ∧ (s.grantNf r).clipLanesOut = s.clipLanesOut ∧
    (s.grantNf r).clipUnexpected = s.clipUnexpected ∧ (s.grantNf r).events = s.events ∧ (s.grantNf r).order = s.order ∧
    (s.grantNf r).control = s.control ∧ (s.grantNf r).draws = s.draws ∧ (s.grantNf r).pending = s.pending :=
  by unfold State.grantNf; dsimp only; split <;> [skip; split] <;> simp

/-- What a Local Intake grant can change. -/
@[simp] theorem State.grantLf_frame (s : State) (w : ClipWrite) :
    (s.grantLf w).clock = s.clock ∧ (s.grantLf w).laneMap = s.laneMap ∧ (s.grantLf w).continuity = s.continuity ∧
    (s.grantLf w).groups = s.groups ∧ (s.grantLf w).watch = s.watch ∧ (s.grantLf w).plan = s.plan ∧
    (s.grantLf w).queue = s.queue ∧ (s.grantLf w).emitter = s.emitter ∧ (s.grantLf w).switch = s.switch ∧
    (s.grantLf w).owed = s.owed ∧ (s.grantLf w).clipLanesOut = s.clipLanesOut ∧ (s.grantLf w).events = s.events ∧
    (s.grantLf w).order = s.order ∧ (s.grantLf w).control = s.control ∧ (s.grantLf w).draws = s.draws ∧
    (s.grantLf w).pending = s.pending :=
  by unfold State.grantLf; dsimp only; split <;> [split; skip] <;> simp

/-- What the arbiter can change. -/
@[simp] theorem State.arbitrate_frame (s : State) :
    (s.arbitrate).clock = s.clock ∧ (s.arbitrate).laneMap = s.laneMap ∧ (s.arbitrate).continuity = s.continuity ∧
    (s.arbitrate).groups = s.groups ∧ (s.arbitrate).plan = s.plan ∧ (s.arbitrate).switch = s.switch ∧
    (s.arbitrate).owed = s.owed ∧ (s.arbitrate).clipLanesOut = s.clipLanesOut ∧ (s.arbitrate).events = s.events ∧
    (s.arbitrate).order = s.order ∧ (s.arbitrate).control = s.control ∧ (s.arbitrate).draws = s.draws ∧
    (s.arbitrate).pending = s.pending :=
  by unfold State.arbitrate; dsimp only; (repeat' split) <;> simp

/-- A SPLICE notice changes the Control Unit alone. -/
@[simp] theorem State.notifySplice_frame (s : State) (e : Nat) (b : EventState) :
    (s.notifySplice e b).clock = s.clock ∧ (s.notifySplice e b).nf = s.nf ∧ (s.notifySplice e b).lf = s.lf ∧
    (s.notifySplice e b).laneMap = s.laneMap ∧ (s.notifySplice e b).continuity = s.continuity ∧
    (s.notifySplice e b).groups = s.groups ∧ (s.notifySplice e b).watch = s.watch ∧ (s.notifySplice e b).plan = s.plan ∧
    (s.notifySplice e b).queue = s.queue ∧ (s.notifySplice e b).emitter = s.emitter ∧
    (s.notifySplice e b).switch = s.switch ∧ (s.notifySplice e b).owed = s.owed ∧ (s.notifySplice e b).store = s.store ∧
    (s.notifySplice e b).clips = s.clips ∧ (s.notifySplice e b).clipLanesOut = s.clipLanesOut ∧
    (s.notifySplice e b).clipUnexpected = s.clipUnexpected ∧ (s.notifySplice e b).events = s.events ∧
    (s.notifySplice e b).order = s.order ∧ (s.notifySplice e b).draws = s.draws ∧
    (s.notifySplice e b).pending = s.pending :=
  by simp [State.notifySplice]

/-- A PLAN notice changes the Control Unit alone. -/
@[simp] theorem State.notifyPlan_frame (s : State) (c : PlanCause) :
    (s.notifyPlan c).clock = s.clock ∧ (s.notifyPlan c).nf = s.nf ∧ (s.notifyPlan c).lf = s.lf ∧
    (s.notifyPlan c).laneMap = s.laneMap ∧ (s.notifyPlan c).continuity = s.continuity ∧
    (s.notifyPlan c).groups = s.groups ∧ (s.notifyPlan c).watch = s.watch ∧ (s.notifyPlan c).plan = s.plan ∧
    (s.notifyPlan c).queue = s.queue ∧ (s.notifyPlan c).emitter = s.emitter ∧ (s.notifyPlan c).switch = s.switch ∧
    (s.notifyPlan c).owed = s.owed ∧ (s.notifyPlan c).store = s.store ∧ (s.notifyPlan c).clips = s.clips ∧
    (s.notifyPlan c).clipLanesOut = s.clipLanesOut ∧ (s.notifyPlan c).clipUnexpected = s.clipUnexpected ∧
    (s.notifyPlan c).events = s.events ∧ (s.notifyPlan c).order = s.order ∧ (s.notifyPlan c).draws = s.draws ∧
    (s.notifyPlan c).pending = s.pending :=
  by simp [State.notifyPlan]

/-- A CLOCK notice changes the Control Unit alone. -/
@[simp] theorem State.notifyClock_frame (s : State) (b : ClockState) (c : ClockCause) :
    (s.notifyClock b c).clock = s.clock ∧ (s.notifyClock b c).nf = s.nf ∧ (s.notifyClock b c).lf = s.lf ∧
    (s.notifyClock b c).laneMap = s.laneMap ∧ (s.notifyClock b c).continuity = s.continuity ∧
    (s.notifyClock b c).groups = s.groups ∧ (s.notifyClock b c).watch = s.watch ∧ (s.notifyClock b c).plan = s.plan ∧
    (s.notifyClock b c).queue = s.queue ∧ (s.notifyClock b c).emitter = s.emitter ∧
    (s.notifyClock b c).switch = s.switch ∧ (s.notifyClock b c).owed = s.owed ∧ (s.notifyClock b c).store = s.store ∧
    (s.notifyClock b c).clips = s.clips ∧ (s.notifyClock b c).clipLanesOut = s.clipLanesOut ∧
    (s.notifyClock b c).clipUnexpected = s.clipUnexpected ∧ (s.notifyClock b c).events = s.events ∧
    (s.notifyClock b c).order = s.order ∧ (s.notifyClock b c).draws = s.draws ∧ (s.notifyClock b c).pending = s.pending :=
  by unfold State.notifyClock; split <;> simp

/-- An EMITTER notice changes the Control Unit alone. -/
@[simp] theorem State.notifyEmitter_frame (s : State) (b : EmitterState) (c : EmitterCause) (n : Nat) :
    (s.notifyEmitter b c n).clock = s.clock ∧ (s.notifyEmitter b c n).nf = s.nf ∧ (s.notifyEmitter b c n).lf = s.lf ∧
    (s.notifyEmitter b c n).laneMap = s.laneMap ∧ (s.notifyEmitter b c n).continuity = s.continuity ∧
    (s.notifyEmitter b c n).groups = s.groups ∧ (s.notifyEmitter b c n).watch = s.watch ∧
    (s.notifyEmitter b c n).plan = s.plan ∧ (s.notifyEmitter b c n).queue = s.queue ∧
    (s.notifyEmitter b c n).emitter = s.emitter ∧ (s.notifyEmitter b c n).switch = s.switch ∧
    (s.notifyEmitter b c n).owed = s.owed ∧ (s.notifyEmitter b c n).store = s.store ∧
    (s.notifyEmitter b c n).clips = s.clips ∧ (s.notifyEmitter b c n).clipLanesOut = s.clipLanesOut ∧
    (s.notifyEmitter b c n).clipUnexpected = s.clipUnexpected ∧ (s.notifyEmitter b c n).events = s.events ∧
    (s.notifyEmitter b c n).order = s.order ∧ (s.notifyEmitter b c n).draws = s.draws ∧
    (s.notifyEmitter b c n).pending = s.pending :=
  by simp [State.notifyEmitter]

/-- A SYNC notice changes the Control Unit alone. -/
@[simp] theorem State.notifySync_frame (s : State) (p : Port) (c : SyncCause) :
    (s.notifySync p c).clock = s.clock ∧ (s.notifySync p c).nf = s.nf ∧ (s.notifySync p c).lf = s.lf ∧
    (s.notifySync p c).laneMap = s.laneMap ∧ (s.notifySync p c).continuity = s.continuity ∧
    (s.notifySync p c).groups = s.groups ∧ (s.notifySync p c).watch = s.watch ∧ (s.notifySync p c).plan = s.plan ∧
    (s.notifySync p c).queue = s.queue ∧ (s.notifySync p c).emitter = s.emitter ∧ (s.notifySync p c).switch = s.switch ∧
    (s.notifySync p c).owed = s.owed ∧ (s.notifySync p c).store = s.store ∧ (s.notifySync p c).clips = s.clips ∧
    (s.notifySync p c).clipLanesOut = s.clipLanesOut ∧ (s.notifySync p c).clipUnexpected = s.clipUnexpected ∧
    (s.notifySync p c).events = s.events ∧ (s.notifySync p c).order = s.order ∧ (s.notifySync p c).draws = s.draws ∧
    (s.notifySync p c).pending = s.pending :=
  by simp [State.notifySync]

/-- Clearing an active event changes the group table alone. -/
@[simp] theorem State.clearActive_frame (s : State) (g e : Nat) :
    (s.clearActive g e).clock = s.clock ∧ (s.clearActive g e).nf = s.nf ∧ (s.clearActive g e).lf = s.lf ∧
    (s.clearActive g e).laneMap = s.laneMap ∧ (s.clearActive g e).continuity = s.continuity ∧
    (s.clearActive g e).watch = s.watch ∧ (s.clearActive g e).plan = s.plan ∧ (s.clearActive g e).queue = s.queue ∧
    (s.clearActive g e).emitter = s.emitter ∧ (s.clearActive g e).switch = s.switch ∧ (s.clearActive g e).owed = s.owed ∧
    (s.clearActive g e).store = s.store ∧ (s.clearActive g e).clips = s.clips ∧
    (s.clearActive g e).clipLanesOut = s.clipLanesOut ∧ (s.clearActive g e).clipUnexpected = s.clipUnexpected ∧
    (s.clearActive g e).events = s.events ∧ (s.clearActive g e).order = s.order ∧
    (s.clearActive g e).control = s.control ∧ (s.clearActive g e).draws = s.draws ∧
    (s.clearActive g e).pending = s.pending :=
  by unfold State.clearActive; split <;> simp

/-- What an entry to a final state can change. -/
@[simp] theorem State.finishEvent_frame (s : State) (e : Nat) (f : EventState) (c : Option EndingCause) (r : Option FailReason) :
    (s.finishEvent e f c r).clock = s.clock ∧ (s.finishEvent e f c r).nf = s.nf ∧ (s.finishEvent e f c r).lf = s.lf ∧
    (s.finishEvent e f c r).laneMap = s.laneMap ∧ (s.finishEvent e f c r).continuity = s.continuity ∧
    (s.finishEvent e f c r).watch = s.watch ∧ (s.finishEvent e f c r).plan = s.plan ∧
    (s.finishEvent e f c r).queue = s.queue ∧ (s.finishEvent e f c r).emitter = s.emitter ∧
    (s.finishEvent e f c r).switch = s.switch ∧ (s.finishEvent e f c r).owed = s.owed ∧
    (s.finishEvent e f c r).clipLanesOut = s.clipLanesOut ∧ (s.finishEvent e f c r).clipUnexpected = s.clipUnexpected ∧
    (s.finishEvent e f c r).draws = s.draws ∧ (s.finishEvent e f c r).pending = s.pending :=
  by unfold State.finishEvent; dsimp only; split <;> simp

/-- Owing the lanes of members in CLIP changes the discontinuity-owed set alone. -/
@[simp] theorem State.oweClipLanes_frame (s : State) (w : SwitchState) :
    (s.oweClipLanes w).clock = s.clock ∧ (s.oweClipLanes w).nf = s.nf ∧ (s.oweClipLanes w).lf = s.lf ∧
    (s.oweClipLanes w).laneMap = s.laneMap ∧ (s.oweClipLanes w).continuity = s.continuity ∧
    (s.oweClipLanes w).groups = s.groups ∧ (s.oweClipLanes w).watch = s.watch ∧ (s.oweClipLanes w).plan = s.plan ∧
    (s.oweClipLanes w).queue = s.queue ∧ (s.oweClipLanes w).emitter = s.emitter ∧ (s.oweClipLanes w).switch = s.switch ∧
    (s.oweClipLanes w).store = s.store ∧ (s.oweClipLanes w).clips = s.clips ∧
    (s.oweClipLanes w).clipLanesOut = s.clipLanesOut ∧ (s.oweClipLanes w).clipUnexpected = s.clipUnexpected ∧
    (s.oweClipLanes w).events = s.events ∧ (s.oweClipLanes w).order = s.order ∧ (s.oweClipLanes w).control = s.control ∧
    (s.oweClipLanes w).draws = s.draws ∧ (s.oweClipLanes w).pending = s.pending :=
  by unfold State.oweClipLanes; generalize List.range 4 = l; induction l generalizing s with
    | nil => simp
    | cons m l ih => simp only [List.foldl_cons, ih]; (repeat' split) <;> simp

/-- What the end of a splice can change. -/
@[simp] theorem State.endSplice_frame (s : State) (e : Nat) (f : EventState) (c : EndingCause) :
    (s.endSplice e f c).clock = s.clock ∧ (s.endSplice e f c).nf = s.nf ∧ (s.endSplice e f c).lf = s.lf ∧
    (s.endSplice e f c).laneMap = s.laneMap ∧ (s.endSplice e f c).continuity = s.continuity ∧
    (s.endSplice e f c).watch = s.watch ∧ (s.endSplice e f c).plan = s.plan ∧ (s.endSplice e f c).queue = s.queue ∧
    (s.endSplice e f c).clipLanesOut = s.clipLanesOut ∧ (s.endSplice e f c).clipUnexpected = s.clipUnexpected ∧
    (s.endSplice e f c).draws = s.draws ∧ (s.endSplice e f c).pending = s.pending :=
  by simp [State.endSplice]

/-- What the end of every splice can change. -/
@[simp] theorem State.endAllOnAir_frame (s : State) (c : EndingCause) :
    (s.endAllOnAir c).clock = s.clock ∧ (s.endAllOnAir c).nf = s.nf ∧ (s.endAllOnAir c).lf = s.lf ∧
    (s.endAllOnAir c).laneMap = s.laneMap ∧ (s.endAllOnAir c).continuity = s.continuity ∧
    (s.endAllOnAir c).watch = s.watch ∧ (s.endAllOnAir c).plan = s.plan ∧ (s.endAllOnAir c).queue = s.queue ∧
    (s.endAllOnAir c).clipLanesOut = s.clipLanesOut ∧ (s.endAllOnAir c).clipUnexpected = s.clipUnexpected ∧
    (s.endAllOnAir c).draws = s.draws ∧ (s.endAllOnAir c).pending = s.pending :=
  by unfold State.endAllOnAir; generalize eventNumbers = l; induction l generalizing s with
    | nil => simp
    | cons e l ih => simp only [List.foldl_cons, ih]; split <;> simp

/-- What the arming of an event can change. -/
@[simp] theorem State.armEvent_frame (s : State) (e : Nat) :
    (s.armEvent e).clock = s.clock ∧ (s.armEvent e).nf = s.nf ∧ (s.armEvent e).lf = s.lf ∧
    (s.armEvent e).laneMap = s.laneMap ∧ (s.armEvent e).continuity = s.continuity ∧ (s.armEvent e).watch = s.watch ∧
    (s.armEvent e).plan = s.plan ∧ (s.armEvent e).queue = s.queue ∧ (s.armEvent e).emitter = s.emitter ∧
    (s.armEvent e).switch = s.switch ∧ (s.armEvent e).owed = s.owed ∧ (s.armEvent e).clipLanesOut = s.clipLanesOut ∧
    (s.armEvent e).clipUnexpected = s.clipUnexpected ∧ (s.armEvent e).draws = s.draws ∧
    (s.armEvent e).pending = s.pending :=
  by unfold State.armEvent; dsimp only; (repeat' split) <;> simp

/-- What the arming of the events due can change. -/
@[simp] theorem State.armDue_frame (s : State) :
    (s.armDue).clock = s.clock ∧ (s.armDue).nf = s.nf ∧ (s.armDue).lf = s.lf ∧ (s.armDue).laneMap = s.laneMap ∧
    (s.armDue).continuity = s.continuity ∧ (s.armDue).watch = s.watch ∧ (s.armDue).plan = s.plan ∧
    (s.armDue).queue = s.queue ∧ (s.armDue).emitter = s.emitter ∧ (s.armDue).switch = s.switch ∧
    (s.armDue).owed = s.owed ∧ (s.armDue).clipLanesOut = s.clipLanesOut ∧ (s.armDue).clipUnexpected = s.clipUnexpected ∧
    (s.armDue).draws = s.draws ∧ (s.armDue).pending = s.pending :=
  by unfold State.armDue; generalize s.dueForArming = l; induction l generalizing s with
    | nil => simp
    | cons e l ih => simp [ih]

/-- What the missed splices of a boundary can change. -/
@[simp] theorem State.failMissed_frame (s : State) :
    (s.failMissed).clock = s.clock ∧ (s.failMissed).nf = s.nf ∧ (s.failMissed).lf = s.lf ∧
    (s.failMissed).laneMap = s.laneMap ∧ (s.failMissed).continuity = s.continuity ∧ (s.failMissed).watch = s.watch ∧
    (s.failMissed).plan = s.plan ∧ (s.failMissed).queue = s.queue ∧ (s.failMissed).emitter = s.emitter ∧
    (s.failMissed).switch = s.switch ∧ (s.failMissed).owed = s.owed ∧ (s.failMissed).clipLanesOut = s.clipLanesOut ∧
    (s.failMissed).clipUnexpected = s.clipUnexpected ∧ (s.failMissed).draws = s.draws ∧
    (s.failMissed).pending = s.pending :=
  by unfold State.failMissed; generalize eventNumbers = l; induction l generalizing s with
    | nil => simp
    | cons e l ih => simp only [List.foldl_cons, ih]; split <;> simp

/-- What the forced ends of a boundary can change. -/
@[simp] theorem State.forceEnds_frame (s : State) :
    (s.forceEnds).clock = s.clock ∧ (s.forceEnds).nf = s.nf ∧ (s.forceEnds).lf = s.lf ∧
    (s.forceEnds).laneMap = s.laneMap ∧ (s.forceEnds).continuity = s.continuity ∧ (s.forceEnds).watch = s.watch ∧
    (s.forceEnds).plan = s.plan ∧ (s.forceEnds).queue = s.queue ∧ (s.forceEnds).clipLanesOut = s.clipLanesOut ∧
    (s.forceEnds).clipUnexpected = s.clipUnexpected ∧ (s.forceEnds).draws = s.draws ∧ (s.forceEnds).pending = s.pending :=
  by unfold State.forceEnds; generalize eventNumbers = l; induction l generalizing s with
    | nil => simp
    | cons e l ih => simp only [List.foldl_cons, ih]; split <;> simp

/-- Entering CLIP changes the switch state and the discontinuity-owed set alone. -/
@[simp] theorem State.enterClip_frame (s : State) (g m lane : Nat) :
    (s.enterClip g m lane).clock = s.clock ∧ (s.enterClip g m lane).nf = s.nf ∧ (s.enterClip g m lane).lf = s.lf ∧
    (s.enterClip g m lane).laneMap = s.laneMap ∧ (s.enterClip g m lane).continuity = s.continuity ∧
    (s.enterClip g m lane).groups = s.groups ∧ (s.enterClip g m lane).watch = s.watch ∧
    (s.enterClip g m lane).plan = s.plan ∧ (s.enterClip g m lane).queue = s.queue ∧
    (s.enterClip g m lane).emitter = s.emitter ∧ (s.enterClip g m lane).store = s.store ∧
    (s.enterClip g m lane).clips = s.clips ∧ (s.enterClip g m lane).clipLanesOut = s.clipLanesOut ∧
    (s.enterClip g m lane).clipUnexpected = s.clipUnexpected ∧ (s.enterClip g m lane).events = s.events ∧
    (s.enterClip g m lane).order = s.order ∧ (s.enterClip g m lane).control = s.control ∧
    (s.enterClip g m lane).draws = s.draws ∧ (s.enterClip g m lane).pending = s.pending :=
  ⟨rfl, rfl, rfl, rfl, rfl, rfl, rfl, rfl, rfl, rfl, rfl, rfl, rfl, rfl, rfl, rfl, rfl, rfl, rfl⟩

/-- Entering BACK changes the switch state and the discontinuity-owed set alone. -/
@[simp] theorem State.enterBack_frame (s : State) (g m lane : Nat) :
    (s.enterBack g m lane).clock = s.clock ∧ (s.enterBack g m lane).nf = s.nf ∧ (s.enterBack g m lane).lf = s.lf ∧
    (s.enterBack g m lane).laneMap = s.laneMap ∧ (s.enterBack g m lane).continuity = s.continuity ∧
    (s.enterBack g m lane).groups = s.groups ∧ (s.enterBack g m lane).watch = s.watch ∧
    (s.enterBack g m lane).plan = s.plan ∧ (s.enterBack g m lane).queue = s.queue ∧
    (s.enterBack g m lane).emitter = s.emitter ∧ (s.enterBack g m lane).store = s.store ∧
    (s.enterBack g m lane).clips = s.clips ∧ (s.enterBack g m lane).clipLanesOut = s.clipLanesOut ∧
    (s.enterBack g m lane).clipUnexpected = s.clipUnexpected ∧ (s.enterBack g m lane).events = s.events ∧
    (s.enterBack g m lane).order = s.order ∧ (s.enterBack g m lane).control = s.control ∧
    (s.enterBack g m lane).draws = s.draws ∧ (s.enterBack g m lane).pending = s.pending :=
  ⟨rfl, rfl, rfl, rfl, rfl, rfl, rfl, rfl, rfl, rfl, rfl, rfl, rfl, rfl, rfl, rfl, rfl, rfl, rfl⟩

/-- What the replacement of a record can change. -/
@[simp] theorem State.replaceRecord_frame (s : State) (e m : Nat) :
    ((s.replaceRecord e m).1).clock = s.clock ∧ ((s.replaceRecord e m).1).nf = s.nf ∧
    ((s.replaceRecord e m).1).lf = s.lf ∧ ((s.replaceRecord e m).1).laneMap = s.laneMap ∧
    ((s.replaceRecord e m).1).continuity = s.continuity ∧ ((s.replaceRecord e m).1).groups = s.groups ∧
    ((s.replaceRecord e m).1).watch = s.watch ∧ ((s.replaceRecord e m).1).plan = s.plan ∧
    ((s.replaceRecord e m).1).queue = s.queue ∧ ((s.replaceRecord e m).1).switch = s.switch ∧
    ((s.replaceRecord e m).1).owed = s.owed ∧ ((s.replaceRecord e m).1).clipLanesOut = s.clipLanesOut ∧
    ((s.replaceRecord e m).1).clipUnexpected = s.clipUnexpected ∧ ((s.replaceRecord e m).1).order = s.order ∧
    ((s.replaceRecord e m).1).control = s.control ∧ ((s.replaceRecord e m).1).draws = s.draws ∧
    ((s.replaceRecord e m).1).pending = s.pending :=
  by unfold State.replaceRecord; dsimp only; (repeat' split) <;> simp

/-- What the leader's switch-in can change. -/
@[simp] theorem State.switchIn_frame (s : State) (g e : Nat) (r : Record) :
    ((s.switchIn g e r).1).clock = s.clock ∧ ((s.switchIn g e r).1).nf = s.nf ∧ ((s.switchIn g e r).1).lf = s.lf ∧
    ((s.switchIn g e r).1).laneMap = s.laneMap ∧ ((s.switchIn g e r).1).continuity = s.continuity ∧
    ((s.switchIn g e r).1).watch = s.watch ∧ ((s.switchIn g e r).1).plan = s.plan ∧
    ((s.switchIn g e r).1).queue = s.queue ∧ ((s.switchIn g e r).1).clipLanesOut = s.clipLanesOut ∧
    ((s.switchIn g e r).1).clipUnexpected = s.clipUnexpected ∧ ((s.switchIn g e r).1).order = s.order ∧
    ((s.switchIn g e r).1).draws = s.draws ∧ ((s.switchIn g e r).1).pending = s.pending :=
  by simp [State.switchIn]

/-- What the end condition can change. -/
@[simp] theorem State.endIfBack_frame (s : State) (g e : Nat) :
    (s.endIfBack g e).clock = s.clock ∧ (s.endIfBack g e).nf = s.nf ∧ (s.endIfBack g e).lf = s.lf ∧
    (s.endIfBack g e).laneMap = s.laneMap ∧ (s.endIfBack g e).continuity = s.continuity ∧
    (s.endIfBack g e).watch = s.watch ∧ (s.endIfBack g e).plan = s.plan ∧ (s.endIfBack g e).queue = s.queue ∧
    (s.endIfBack g e).clipLanesOut = s.clipLanesOut ∧ (s.endIfBack g e).clipUnexpected = s.clipUnexpected ∧
    (s.endIfBack g e).draws = s.draws ∧ (s.endIfBack g e).pending = s.pending :=
  by unfold State.endIfBack; dsimp only; split <;> simp

/-- What a record of an IDLE group can change. -/
@[simp] theorem State.onIdle_frame (s : State) (g m : Nat) (r : Record) :
    ((s.onIdle g m r).1).clock = s.clock ∧ ((s.onIdle g m r).1).nf = s.nf ∧ ((s.onIdle g m r).1).lf = s.lf ∧
    ((s.onIdle g m r).1).laneMap = s.laneMap ∧ ((s.onIdle g m r).1).continuity = s.continuity ∧
    ((s.onIdle g m r).1).watch = s.watch ∧ ((s.onIdle g m r).1).plan = s.plan ∧ ((s.onIdle g m r).1).queue = s.queue ∧
    ((s.onIdle g m r).1).clipLanesOut = s.clipLanesOut ∧ ((s.onIdle g m r).1).clipUnexpected = s.clipUnexpected ∧
    ((s.onIdle g m r).1).draws = s.draws ∧ ((s.onIdle g m r).1).pending = s.pending :=
  by unfold State.onIdle; dsimp only; (repeat' split) <;> simp

/-- What a leader record of a SPLICED group can change. -/
@[simp] theorem State.onLeader_frame (s : State) (g e : Nat) (r : Record) :
    ((s.onLeader g e r).1).clock = s.clock ∧ ((s.onLeader g e r).1).nf = s.nf ∧ ((s.onLeader g e r).1).lf = s.lf ∧
    ((s.onLeader g e r).1).laneMap = s.laneMap ∧ ((s.onLeader g e r).1).continuity = s.continuity ∧
    ((s.onLeader g e r).1).watch = s.watch ∧ ((s.onLeader g e r).1).plan = s.plan ∧
    ((s.onLeader g e r).1).queue = s.queue ∧ ((s.onLeader g e r).1).clipLanesOut = s.clipLanesOut ∧
    ((s.onLeader g e r).1).clipUnexpected = s.clipUnexpected ∧ ((s.onLeader g e r).1).draws = s.draws ∧
    ((s.onLeader g e r).1).pending = s.pending :=
  by unfold State.onLeader; dsimp only; (repeat' split) <;> simp

/-- What a member record of a SPLICED group can change. -/
@[simp] theorem State.onMember_frame (s : State) (g e m : Nat) (r : Record) :
    ((s.onMember g e m r).1).clock = s.clock ∧ ((s.onMember g e m r).1).nf = s.nf ∧ ((s.onMember g e m r).1).lf = s.lf ∧
    ((s.onMember g e m r).1).laneMap = s.laneMap ∧ ((s.onMember g e m r).1).continuity = s.continuity ∧
    ((s.onMember g e m r).1).watch = s.watch ∧ ((s.onMember g e m r).1).plan = s.plan ∧
    ((s.onMember g e m r).1).queue = s.queue ∧ ((s.onMember g e m r).1).clipLanesOut = s.clipLanesOut ∧
    ((s.onMember g e m r).1).clipUnexpected = s.clipUnexpected ∧ ((s.onMember g e m r).1).draws = s.draws ∧
    ((s.onMember g e m r).1).pending = s.pending :=
  by unfold State.onMember; dsimp only; (repeat' split) <;> simp

/-- What the Splice Switch can change. -/
@[simp] theorem State.switchRecord_frame (s : State) (r : Record) :
    ((s.switchRecord r).1).clock = s.clock ∧ ((s.switchRecord r).1).nf = s.nf ∧ ((s.switchRecord r).1).lf = s.lf ∧
    ((s.switchRecord r).1).laneMap = s.laneMap ∧ ((s.switchRecord r).1).continuity = s.continuity ∧
    ((s.switchRecord r).1).watch = s.watch ∧ ((s.switchRecord r).1).plan = s.plan ∧
    ((s.switchRecord r).1).queue = s.queue ∧ ((s.switchRecord r).1).clipLanesOut = s.clipLanesOut ∧
    ((s.switchRecord r).1).clipUnexpected = s.clipUnexpected ∧ ((s.switchRecord r).1).draws = s.draws ∧
    ((s.switchRecord r).1).pending = s.pending :=
  by unfold State.switchRecord; (repeat' split) <;> simp

/-- What a slot sends changes the Emitter and the discontinuity-owed set alone. -/
@[simp] theorem State.sendOnAir_frame (s : State) (r : Record) (o : OnAir) :
    (s.sendOnAir r o).clock = s.clock ∧ (s.sendOnAir r o).nf = s.nf ∧ (s.sendOnAir r o).lf = s.lf ∧
    (s.sendOnAir r o).laneMap = s.laneMap ∧ (s.sendOnAir r o).continuity = s.continuity ∧
    (s.sendOnAir r o).groups = s.groups ∧ (s.sendOnAir r o).watch = s.watch ∧ (s.sendOnAir r o).plan = s.plan ∧
    (s.sendOnAir r o).queue = s.queue ∧ (s.sendOnAir r o).switch = s.switch ∧ (s.sendOnAir r o).store = s.store ∧
    (s.sendOnAir r o).clips = s.clips ∧ (s.sendOnAir r o).clipLanesOut = s.clipLanesOut ∧
    (s.sendOnAir r o).clipUnexpected = s.clipUnexpected ∧ (s.sendOnAir r o).events = s.events ∧
    (s.sendOnAir r o).order = s.order ∧ (s.sendOnAir r o).control = s.control ∧ (s.sendOnAir r o).draws = s.draws ∧
    (s.sendOnAir r o).pending = s.pending :=
  by cases o <;> simp [State.sendOnAir]

/-- What the taking of a record for a slot can change. -/
@[simp] theorem State.sendRecord_frame (s : State) (r : Record) (n : Nat) :
    (s.sendRecord r n).clock = s.clock ∧ (s.sendRecord r n).nf = s.nf ∧ (s.sendRecord r n).lf = s.lf ∧
    (s.sendRecord r n).laneMap = s.laneMap ∧ (s.sendRecord r n).continuity = s.continuity ∧
    (s.sendRecord r n).plan = s.plan ∧ (s.sendRecord r n).clipLanesOut = s.clipLanesOut ∧
    (s.sendRecord r n).clipUnexpected = s.clipUnexpected ∧ (s.sendRecord r n).draws = s.draws ∧
    (s.sendRecord r n).pending = s.pending :=
  by unfold State.sendRecord; dsimp only; split <;> simp

/-- What the examination of the head can change. -/
@[simp] theorem State.examineHead_frame (s : State) :
    (s.examineHead).clock = s.clock ∧ (s.examineHead).nf = s.nf ∧ (s.examineHead).lf = s.lf ∧
    (s.examineHead).laneMap = s.laneMap ∧ (s.examineHead).continuity = s.continuity ∧ (s.examineHead).groups = s.groups ∧
    (s.examineHead).plan = s.plan ∧ (s.examineHead).switch = s.switch ∧ (s.examineHead).owed = s.owed ∧
    (s.examineHead).clips = s.clips ∧ (s.examineHead).clipLanesOut = s.clipLanesOut ∧
    (s.examineHead).clipUnexpected = s.clipUnexpected ∧ (s.examineHead).events = s.events ∧
    (s.examineHead).order = s.order ∧ (s.examineHead).control = s.control ∧ (s.examineHead).draws = s.draws ∧
    (s.examineHead).pending = s.pending :=
  by simp [State.examineHead]

/-- What the filling of a slot can change. -/
@[simp] theorem State.fillSlot_frame (s : State) :
    (s.fillSlot).clock = s.clock ∧ (s.fillSlot).nf = s.nf ∧ (s.fillSlot).lf = s.lf ∧ (s.fillSlot).laneMap = s.laneMap ∧
    (s.fillSlot).continuity = s.continuity ∧ (s.fillSlot).plan = s.plan ∧ (s.fillSlot).clipLanesOut = s.clipLanesOut ∧
    (s.fillSlot).clipUnexpected = s.clipUnexpected ∧ (s.fillSlot).draws = s.draws ∧ (s.fillSlot).pending = s.pending :=
  by unfold State.fillSlot; dsimp only; (repeat' split) <;> simp

/-- What a mute at a slot can change. -/
@[simp] theorem State.muteAtSlot_frame (s : State) :
    (s.muteAtSlot).clock = s.clock ∧ (s.muteAtSlot).nf = s.nf ∧ (s.muteAtSlot).lf = s.lf ∧
    (s.muteAtSlot).laneMap = s.laneMap ∧ (s.muteAtSlot).continuity = s.continuity ∧ (s.muteAtSlot).plan = s.plan ∧
    (s.muteAtSlot).clipLanesOut = s.clipLanesOut ∧ (s.muteAtSlot).clipUnexpected = s.clipUnexpected ∧
    (s.muteAtSlot).draws = s.draws ∧ (s.muteAtSlot).pending = s.pending :=
  by simp [State.muteAtSlot]

/-- What the beginning of a slot can change. -/
@[simp] theorem State.beginSlot_frame (s : State) :
    (s.beginSlot).clock = s.clock ∧ (s.beginSlot).nf = s.nf ∧ (s.beginSlot).lf = s.lf ∧
    (s.beginSlot).laneMap = s.laneMap ∧ (s.beginSlot).continuity = s.continuity ∧ (s.beginSlot).plan = s.plan ∧
    (s.beginSlot).clipLanesOut = s.clipLanesOut ∧ (s.beginSlot).clipUnexpected = s.clipUnexpected ∧
    (s.beginSlot).draws = s.draws ∧ (s.beginSlot).pending = s.pending :=
  by unfold State.beginSlot; (repeat' split) <;> simp

/-- What the Emitter's change at a boundary can change. -/
@[simp] theorem State.emitterChange_frame (s : State) :
    (s.emitterChange).clock = s.clock ∧ (s.emitterChange).nf = s.nf ∧ (s.emitterChange).lf = s.lf ∧
    (s.emitterChange).laneMap = s.laneMap ∧ (s.emitterChange).continuity = s.continuity ∧
    (s.emitterChange).plan = s.plan ∧ (s.emitterChange).clipLanesOut = s.clipLanesOut ∧
    (s.emitterChange).clipUnexpected = s.clipUnexpected ∧ (s.emitterChange).draws = s.draws ∧
    (s.emitterChange).pending = s.pending :=
  by unfold State.emitterChange; dsimp only; (repeat' split) <;> simp

/-- The stale timer changes the Timing Plan unit and, by its notice, the Control Unit. -/
@[simp] theorem State.staleAdvance_frame (s : State) :
    (s.staleAdvance).clock = s.clock ∧ (s.staleAdvance).nf = s.nf ∧ (s.staleAdvance).lf = s.lf ∧
    (s.staleAdvance).laneMap = s.laneMap ∧ (s.staleAdvance).continuity = s.continuity ∧
    (s.staleAdvance).groups = s.groups ∧ (s.staleAdvance).watch = s.watch ∧ (s.staleAdvance).queue = s.queue ∧
    (s.staleAdvance).emitter = s.emitter ∧ (s.staleAdvance).switch = s.switch ∧ (s.staleAdvance).owed = s.owed ∧
    (s.staleAdvance).store = s.store ∧ (s.staleAdvance).clips = s.clips ∧
    (s.staleAdvance).clipLanesOut = s.clipLanesOut ∧ (s.staleAdvance).clipUnexpected = s.clipUnexpected ∧
    (s.staleAdvance).events = s.events ∧ (s.staleAdvance).order = s.order ∧ (s.staleAdvance).draws = s.draws ∧
    (s.staleAdvance).pending = s.pending :=
  by unfold State.staleAdvance; dsimp only; (repeat' split) <;> simp

/-- A change of plan changes the Timing Plan unit and, by its notice, the Control Unit. -/
@[simp] theorem State.planChange_frame (s : State) :
    (s.planChange).clock = s.clock ∧ (s.planChange).nf = s.nf ∧ (s.planChange).lf = s.lf ∧
    (s.planChange).laneMap = s.laneMap ∧ (s.planChange).continuity = s.continuity ∧ (s.planChange).groups = s.groups ∧
    (s.planChange).watch = s.watch ∧ (s.planChange).queue = s.queue ∧ (s.planChange).emitter = s.emitter ∧
    (s.planChange).switch = s.switch ∧ (s.planChange).owed = s.owed ∧ (s.planChange).store = s.store ∧
    (s.planChange).clips = s.clips ∧ (s.planChange).clipLanesOut = s.clipLanesOut ∧
    (s.planChange).clipUnexpected = s.clipUnexpected ∧ (s.planChange).events = s.events ∧
    (s.planChange).order = s.order ∧ (s.planChange).draws = s.draws ∧ (s.planChange).pending = s.pending :=
  by unfold State.planChange; (repeat' split) <;> simp

/-- A restart of the stale timer changes the Timing Plan unit and, by its notices, the Control Unit. -/
@[simp] theorem State.restartStale_frame (s : State) (b : Bool) :
    (s.restartStale b).clock = s.clock ∧ (s.restartStale b).nf = s.nf ∧ (s.restartStale b).lf = s.lf ∧
    (s.restartStale b).laneMap = s.laneMap ∧ (s.restartStale b).continuity = s.continuity ∧
    (s.restartStale b).groups = s.groups ∧ (s.restartStale b).watch = s.watch ∧ (s.restartStale b).queue = s.queue ∧
    (s.restartStale b).emitter = s.emitter ∧ (s.restartStale b).switch = s.switch ∧ (s.restartStale b).owed = s.owed ∧
    (s.restartStale b).store = s.store ∧ (s.restartStale b).clips = s.clips ∧
    (s.restartStale b).clipLanesOut = s.clipLanesOut ∧ (s.restartStale b).clipUnexpected = s.clipUnexpected ∧
    (s.restartStale b).events = s.events ∧ (s.restartStale b).order = s.order ∧ (s.restartStale b).draws = s.draws ∧
    (s.restartStale b).pending = s.pending :=
  by unfold State.restartStale; dsimp only; (repeat' split) <;> simp

/-- What a timing cell can change. -/
@[simp] theorem State.takeTiming_frame (s : State) (c : Cell) :
    (s.takeTiming c).clock = s.clock ∧ (s.takeTiming c).lf = s.lf ∧ (s.takeTiming c).laneMap = s.laneMap ∧
    (s.takeTiming c).continuity = s.continuity ∧ (s.takeTiming c).groups = s.groups ∧ (s.takeTiming c).watch = s.watch ∧
    (s.takeTiming c).queue = s.queue ∧ (s.takeTiming c).emitter = s.emitter ∧ (s.takeTiming c).switch = s.switch ∧
    (s.takeTiming c).owed = s.owed ∧ (s.takeTiming c).store = s.store ∧ (s.takeTiming c).clips = s.clips ∧
    (s.takeTiming c).clipLanesOut = s.clipLanesOut ∧ (s.takeTiming c).clipUnexpected = s.clipUnexpected ∧
    (s.takeTiming c).events = s.events ∧ (s.takeTiming c).order = s.order ∧ (s.takeTiming c).draws = s.draws ∧
    (s.takeTiming c).pending = s.pending :=
  by unfold State.takeTiming; dsimp only; (repeat' split) <;> simp

/-- A draw changes the draw count alone. -/
@[simp] theorem State.draw_frame (s : State) (b : Bool) :
    (s.draw b).clock = s.clock ∧ (s.draw b).nf = s.nf ∧ (s.draw b).lf = s.lf ∧ (s.draw b).laneMap = s.laneMap ∧
    (s.draw b).continuity = s.continuity ∧ (s.draw b).groups = s.groups ∧ (s.draw b).watch = s.watch ∧
    (s.draw b).plan = s.plan ∧ (s.draw b).queue = s.queue ∧ (s.draw b).emitter = s.emitter ∧
    (s.draw b).switch = s.switch ∧ (s.draw b).owed = s.owed ∧ (s.draw b).store = s.store ∧ (s.draw b).clips = s.clips ∧
    (s.draw b).clipLanesOut = s.clipLanesOut ∧ (s.draw b).clipUnexpected = s.clipUnexpected ∧
    (s.draw b).events = s.events ∧ (s.draw b).order = s.order ∧ (s.draw b).control = s.control ∧
    (s.draw b).pending = s.pending :=
  by cases b <;> simp [State.draw]

/-- What the arming, the ends and the Emitter's change at a boundary can change. -/
@[simp] theorem State.armingsAndEnds_frame (s : State) :
    (s.armingsAndEnds).clock = s.clock ∧ (s.armingsAndEnds).nf = s.nf ∧ (s.armingsAndEnds).lf = s.lf ∧
    (s.armingsAndEnds).laneMap = s.laneMap ∧ (s.armingsAndEnds).continuity = s.continuity ∧
    (s.armingsAndEnds).plan = s.plan ∧ (s.armingsAndEnds).clipLanesOut = s.clipLanesOut ∧
    (s.armingsAndEnds).clipUnexpected = s.clipUnexpected ∧ (s.armingsAndEnds).pending = s.pending :=
  by unfold State.armingsAndEnds; dsimp only; split <;> simp [State.armAndMiss]

/-- What a boundary handed over can change: the clock, the intakes, the lane map and the tables it does not name stay. -/
@[simp] theorem State.handBoundary_frame (s : State) :
    (s.handBoundary).clock = s.clock ∧ (s.handBoundary).nf = s.nf ∧ (s.handBoundary).lf = s.lf ∧
    (s.handBoundary).laneMap = s.laneMap ∧ (s.handBoundary).continuity = s.continuity ∧
    (s.handBoundary).clipLanesOut = s.clipLanesOut ∧ (s.handBoundary).clipUnexpected = s.clipUnexpected ∧
    (s.handBoundary).pending = s.pending :=
  by simp [State.handBoundary]

/-- The Site Clock's part of a boundary. -/
@[simp] theorem State.clockBoundary_frame (s : State) :
    (s.clockBoundary).nf = s.nf ∧ (s.clockBoundary).lf = s.lf ∧ (s.clockBoundary).laneMap = s.laneMap ∧
    (s.clockBoundary).continuity = s.continuity ∧ (s.clockBoundary).groups = s.groups ∧
    (s.clockBoundary).watch = s.watch ∧ (s.clockBoundary).plan = s.plan ∧ (s.clockBoundary).queue = s.queue ∧
    (s.clockBoundary).emitter = s.emitter ∧ (s.clockBoundary).switch = s.switch ∧ (s.clockBoundary).owed = s.owed ∧
    (s.clockBoundary).store = s.store ∧ (s.clockBoundary).clips = s.clips ∧
    (s.clockBoundary).clipLanesOut = s.clipLanesOut ∧ (s.clockBoundary).clipUnexpected = s.clipUnexpected ∧
    (s.clockBoundary).events = s.events ∧ (s.clockBoundary).order = s.order ∧ (s.clockBoundary).draws = s.draws ∧
    (s.clockBoundary).pending = s.pending :=
  by simp [State.clockBoundary]

/-- What a boundary at a counted edge can change. -/
@[simp] theorem State.edgeBoundary_frame (s : State) :
    (s.edgeBoundary).nf = s.nf ∧ (s.edgeBoundary).lf = s.lf ∧ (s.edgeBoundary).laneMap = s.laneMap ∧
    (s.edgeBoundary).continuity = s.continuity ∧ (s.edgeBoundary).clipLanesOut = s.clipLanesOut ∧
    (s.edgeBoundary).clipUnexpected = s.clipUnexpected ∧ (s.edgeBoundary).pending = s.pending :=
  by simp [State.edgeBoundary]

/-- What a step can change. -/
@[simp] theorem State.takeStep_frame (s : State) (b : ClockState) (e : Int) :
    (s.takeStep b e).nf = s.nf ∧ (s.takeStep b e).lf = s.lf ∧ (s.takeStep b e).laneMap = s.laneMap ∧
    (s.takeStep b e).continuity = s.continuity ∧ (s.takeStep b e).clipLanesOut = s.clipLanesOut ∧
    (s.takeStep b e).clipUnexpected = s.clipUnexpected ∧ (s.takeStep b e).pending = s.pending :=
  by unfold State.takeStep; dsimp only; (repeat' split) <;> simp

/-- An offer changes the Control Unit alone. -/
@[simp] theorem State.offerCommand_frame (s : State) (o : Origin) (c : Cell) :
    (s.offerCommand o c).clock = s.clock ∧ (s.offerCommand o c).nf = s.nf ∧ (s.offerCommand o c).lf = s.lf ∧
    (s.offerCommand o c).laneMap = s.laneMap ∧ (s.offerCommand o c).continuity = s.continuity ∧
    (s.offerCommand o c).groups = s.groups ∧ (s.offerCommand o c).watch = s.watch ∧ (s.offerCommand o c).plan = s.plan ∧
    (s.offerCommand o c).queue = s.queue ∧ (s.offerCommand o c).emitter = s.emitter ∧
    (s.offerCommand o c).switch = s.switch ∧ (s.offerCommand o c).owed = s.owed ∧ (s.offerCommand o c).store = s.store ∧
    (s.offerCommand o c).clips = s.clips ∧ (s.offerCommand o c).clipLanesOut = s.clipLanesOut ∧
    (s.offerCommand o c).clipUnexpected = s.clipUnexpected ∧ (s.offerCommand o c).events = s.events ∧
    (s.offerCommand o c).order = s.order ∧ (s.offerCommand o c).draws = s.draws ∧
    (s.offerCommand o c).pending = s.pending :=
  by unfold State.offerCommand; split <;> simp

/-- What the input continuity test can change. -/
@[simp] theorem State.testContinuity_frame (s : State) (h : Header) :
    (s.testContinuity h).clock = s.clock ∧ (s.testContinuity h).lf = s.lf ∧ (s.testContinuity h).laneMap = s.laneMap ∧
    (s.testContinuity h).groups = s.groups ∧ (s.testContinuity h).plan = s.plan ∧ (s.testContinuity h).queue = s.queue ∧
    (s.testContinuity h).emitter = s.emitter ∧ (s.testContinuity h).switch = s.switch ∧
    (s.testContinuity h).owed = s.owed ∧ (s.testContinuity h).store = s.store ∧ (s.testContinuity h).clips = s.clips ∧
    (s.testContinuity h).clipLanesOut = s.clipLanesOut ∧ (s.testContinuity h).clipUnexpected = s.clipUnexpected ∧
    (s.testContinuity h).events = s.events ∧ (s.testContinuity h).order = s.order ∧
    (s.testContinuity h).control = s.control ∧ (s.testContinuity h).draws = s.draws ∧
    (s.testContinuity h).pending = s.pending :=
  by unfold State.testContinuity; dsimp only; split <;> simp

/-- What a classification can change. -/
@[simp] theorem State.classify_frame (s : State) (c : Cell) (o : Nat) (p : Option GroupPlace) :
    (s.classify c o p).clock = s.clock ∧ (s.classify c o p).laneMap = s.laneMap ∧
    (s.classify c o p).continuity = s.continuity ∧ (s.classify c o p).groups = s.groups ∧
    (s.classify c o p).plan = s.plan ∧ (s.classify c o p).switch = s.switch ∧ (s.classify c o p).owed = s.owed ∧
    (s.classify c o p).clipLanesOut = s.clipLanesOut ∧ (s.classify c o p).events = s.events ∧
    (s.classify c o p).order = s.order ∧ (s.classify c o p).control = s.control ∧ (s.classify c o p).draws = s.draws ∧
    (s.classify c o p).pending = s.pending :=
  by unfold State.classify; dsimp only; (repeat' split) <;> simp

/-- What a network DATA cell can change at the head. -/
@[simp] theorem State.handData_frame (s : State) (c : Cell) :
    (s.handData c).clock = s.clock ∧ (s.handData c).laneMap = s.laneMap ∧ (s.handData c).groups = s.groups ∧
    (s.handData c).plan = s.plan ∧ (s.handData c).switch = s.switch ∧ (s.handData c).owed = s.owed ∧
    (s.handData c).clipLanesOut = s.clipLanesOut ∧ (s.handData c).events = s.events ∧ (s.handData c).order = s.order ∧
    (s.handData c).control = s.control ∧ (s.handData c).draws = s.draws ∧ (s.handData c).pending = s.pending :=
  by unfold State.handData; dsimp only; (repeat' split) <;> simp

/-- What a local DATA cell can change at the head. -/
@[simp] theorem State.handClipCell_frame (s : State) (c : Cell) :
    (s.handClipCell c).clock = s.clock ∧ (s.handClipCell c).laneMap = s.laneMap ∧
    (s.handClipCell c).continuity = s.continuity ∧ (s.handClipCell c).groups = s.groups ∧
    (s.handClipCell c).plan = s.plan ∧ (s.handClipCell c).switch = s.switch ∧ (s.handClipCell c).owed = s.owed ∧
    (s.handClipCell c).events = s.events ∧ (s.handClipCell c).order = s.order ∧ (s.handClipCell c).control = s.control ∧
    (s.handClipCell c).draws = s.draws ∧ (s.handClipCell c).pending = s.pending :=
  by unfold State.handClipCell; dsimp only; split <;> simp

/-- What a hand-off can change. -/
@[simp] theorem State.handHead_frame (s : State) (p : Port) (c : Cell) :
    (s.handHead p c).clock = s.clock ∧ (s.handHead p c).laneMap = s.laneMap ∧ (s.handHead p c).groups = s.groups ∧
    (s.handHead p c).switch = s.switch ∧ (s.handHead p c).owed = s.owed ∧ (s.handHead p c).events = s.events ∧
    (s.handHead p c).order = s.order ∧ (s.handHead p c).draws = s.draws ∧ (s.handHead p c).pending = s.pending :=
  by unfold State.handHead; split <;> simp

/-- What the cancellation of a RESTART can change. -/
@[simp] theorem State.cancelAll_frame (s : State) :
    (s.cancelAll).clock = s.clock ∧ (s.cancelAll).nf = s.nf ∧ (s.cancelAll).lf = s.lf ∧
    (s.cancelAll).laneMap = s.laneMap ∧ (s.cancelAll).continuity = s.continuity ∧ (s.cancelAll).watch = s.watch ∧
    (s.cancelAll).plan = s.plan ∧ (s.cancelAll).queue = s.queue ∧ (s.cancelAll).clipLanesOut = s.clipLanesOut ∧
    (s.cancelAll).clipUnexpected = s.clipUnexpected ∧ (s.cancelAll).draws = s.draws ∧ (s.cancelAll).pending = s.pending :=
  by unfold State.cancelAll; generalize eventNumbers = l; induction l generalizing s with
    | nil => simp
    | cons e l ih => simp only [List.foldl_cons, ih]; split <;> simp

/-- The intakes' part of a RESTART. -/
@[simp] theorem State.restartIntakes_frame (s : State) :
    (s.restartIntakes).clock = s.clock ∧ (s.restartIntakes).laneMap = s.laneMap ∧
    (s.restartIntakes).continuity = s.continuity ∧ (s.restartIntakes).groups = s.groups ∧
    (s.restartIntakes).plan = s.plan ∧ (s.restartIntakes).queue = s.queue ∧ (s.restartIntakes).emitter = s.emitter ∧
    (s.restartIntakes).switch = s.switch ∧ (s.restartIntakes).owed = s.owed ∧ (s.restartIntakes).clips = s.clips ∧
    (s.restartIntakes).clipLanesOut = s.clipLanesOut ∧ (s.restartIntakes).clipUnexpected = s.clipUnexpected ∧
    (s.restartIntakes).events = s.events ∧ (s.restartIntakes).order = s.order ∧ (s.restartIntakes).control = s.control ∧
    (s.restartIntakes).draws = s.draws ∧ (s.restartIntakes).pending = s.pending :=
  by unfold State.restartIntakes; dsimp only; split <;> simp

/-- The Emitter's part of a RESTART. -/
@[simp] theorem State.restartEmitter_frame (s : State) :
    (s.restartEmitter).clock = s.clock ∧ (s.restartEmitter).nf = s.nf ∧ (s.restartEmitter).lf = s.lf ∧
    (s.restartEmitter).laneMap = s.laneMap ∧ (s.restartEmitter).continuity = s.continuity ∧
    (s.restartEmitter).groups = s.groups ∧ (s.restartEmitter).plan = s.plan ∧ (s.restartEmitter).switch = s.switch ∧
    (s.restartEmitter).owed = s.owed ∧ (s.restartEmitter).clips = s.clips ∧
    (s.restartEmitter).clipLanesOut = s.clipLanesOut ∧ (s.restartEmitter).clipUnexpected = s.clipUnexpected ∧
    (s.restartEmitter).events = s.events ∧ (s.restartEmitter).order = s.order ∧ (s.restartEmitter).draws = s.draws ∧
    (s.restartEmitter).pending = s.pending :=
  by unfold State.restartEmitter; dsimp only; split <;> simp

/-- Clearing the counters of STATS with selector 0. -/
@[simp] theorem State.clearCounters_frame (s : State) :
    (s.clearCounters).clock = s.clock ∧ (s.clearCounters).laneMap = s.laneMap ∧
    (s.clearCounters).continuity = s.continuity ∧ (s.clearCounters).groups = s.groups ∧
    (s.clearCounters).watch = s.watch ∧ (s.clearCounters).plan = s.plan ∧ (s.clearCounters).queue = s.queue ∧
    (s.clearCounters).switch = s.switch ∧ (s.clearCounters).owed = s.owed ∧ (s.clearCounters).store = s.store ∧
    (s.clearCounters).clips = s.clips ∧ (s.clearCounters).events = s.events ∧ (s.clearCounters).order = s.order ∧
    (s.clearCounters).draws = s.draws ∧ (s.clearCounters).pending = s.pending :=
  ⟨rfl, rfl, rfl, rfl, rfl, rfl, rfl, rfl, rfl, rfl, rfl, rfl, rfl, rfl, rfl⟩

/-- Clearing four watch entries. -/
@[simp] theorem State.clearWatch_frame (s : State) (n : Nat) :
    (s.clearWatch n).clock = s.clock ∧ (s.clearWatch n).nf = s.nf ∧ (s.clearWatch n).lf = s.lf ∧
    (s.clearWatch n).laneMap = s.laneMap ∧ (s.clearWatch n).continuity = s.continuity ∧
    (s.clearWatch n).groups = s.groups ∧ (s.clearWatch n).plan = s.plan ∧ (s.clearWatch n).queue = s.queue ∧
    (s.clearWatch n).emitter = s.emitter ∧ (s.clearWatch n).switch = s.switch ∧ (s.clearWatch n).owed = s.owed ∧
    (s.clearWatch n).store = s.store ∧ (s.clearWatch n).clips = s.clips ∧
    (s.clearWatch n).clipLanesOut = s.clipLanesOut ∧ (s.clearWatch n).clipUnexpected = s.clipUnexpected ∧
    (s.clearWatch n).events = s.events ∧ (s.clearWatch n).order = s.order ∧ (s.clearWatch n).control = s.control ∧
    (s.clearWatch n).draws = s.draws ∧ (s.clearWatch n).pending = s.pending :=
  by simp [State.clearWatch]

end Sys2Proof.Machine
end

