-- ==== Sys2Proof/Laws/Parts.lean ====
section
/-! SUPPORT. Inside the blocks an operation changes, the items it leaves as they are, for simp. -/

namespace Sys2Proof.Machine

/-- What stays of the Control Unit. -/
@[simp] theorem State.joinMonitor_control (s : State) (p : List Byte) :
    (s.joinMonitor p).control.queue = s.control.queue ∧ (s.joinMonitor p).control.site = s.control.site ∧
    (s.joinMonitor p).control.epoch = s.control.epoch ∧ (s.joinMonitor p).control.epochCounter = s.control.epochCounter ∧
    (s.joinMonitor p).control.noticesLost = s.control.noticesLost ∧ (s.joinMonitor p).control.count = s.control.count ∧
    (s.joinMonitor p).control.controlDrops = s.control.controlDrops ∧ (s.joinMonitor p).control.line = s.control.line :=
  ⟨rfl, rfl, rfl, rfl, rfl, rfl, rfl, rfl⟩

/-- What stays of the Control Unit. -/
@[simp] theorem State.reply_control (s : State) (c : Command) (r : Result) (d : List Byte) :
    (s.reply c r d).control.queue = s.control.queue ∧ (s.reply c r d).control.site = s.control.site ∧
    (s.reply c r d).control.epoch = s.control.epoch ∧ (s.reply c r d).control.epochCounter = s.control.epochCounter ∧
    (s.reply c r d).control.noticesLost = s.control.noticesLost ∧ (s.reply c r d).control.count = s.control.count ∧
    (s.reply c r d).control.controlDrops = s.control.controlDrops ∧ (s.reply c r d).control.line = s.control.line :=
  ⟨rfl, rfl, rfl, rfl, rfl, rfl, rfl, rfl⟩

/-- What stays of the Control Unit. -/
@[simp] theorem State.notify_control (s : State) (k : NoticeKind) (d : List Byte) :
    (s.notify k d).control.queue = s.control.queue ∧ (s.notify k d).control.site = s.control.site ∧
    (s.notify k d).control.epoch = s.control.epoch ∧ (s.notify k d).control.epochCounter = s.control.epochCounter ∧
    (s.notify k d).control.count = s.control.count ∧ (s.notify k d).control.controlDrops = s.control.controlDrops ∧
    (s.notify k d).control.line = s.control.line :=
  by unfold State.notify; split <;> simp

/-- What stays of the Control Unit. -/
@[simp] theorem State.notifySplice_control (s : State) (e : Nat) (b : EventState) :
    (s.notifySplice e b).control.queue = s.control.queue ∧ (s.notifySplice e b).control.site = s.control.site ∧
    (s.notifySplice e b).control.epoch = s.control.epoch ∧
    (s.notifySplice e b).control.epochCounter = s.control.epochCounter ∧
    (s.notifySplice e b).control.count = s.control.count ∧
    (s.notifySplice e b).control.controlDrops = s.control.controlDrops ∧
    (s.notifySplice e b).control.line = s.control.line :=
  by simp [State.notifySplice]

/-- What stays of the Control Unit. -/
@[simp] theorem State.notifyPlan_control (s : State) (c : PlanCause) :
    (s.notifyPlan c).control.queue = s.control.queue ∧ (s.notifyPlan c).control.site = s.control.site ∧
    (s.notifyPlan c).control.epoch = s.control.epoch ∧ (s.notifyPlan c).control.epochCounter = s.control.epochCounter ∧
    (s.notifyPlan c).control.count = s.control.count ∧ (s.notifyPlan c).control.controlDrops = s.control.controlDrops ∧
    (s.notifyPlan c).control.line = s.control.line :=
  by simp [State.notifyPlan]

/-- What stays of the Control Unit. -/
@[simp] theorem State.notifyEmitter_control (s : State) (b : EmitterState) (c : EmitterCause) (n : Nat) :
    (s.notifyEmitter b c n).control.queue = s.control.queue ∧ (s.notifyEmitter b c n).control.site = s.control.site ∧
    (s.notifyEmitter b c n).control.epoch = s.control.epoch ∧
    (s.notifyEmitter b c n).control.epochCounter = s.control.epochCounter ∧
    (s.notifyEmitter b c n).control.count = s.control.count ∧
    (s.notifyEmitter b c n).control.controlDrops = s.control.controlDrops ∧
    (s.notifyEmitter b c n).control.line = s.control.line :=
  by simp [State.notifyEmitter]

/-- What stays of the Control Unit. -/
@[simp] theorem State.notifySync_control (s : State) (p : Port) (c : SyncCause) :
    (s.notifySync p c).control.queue = s.control.queue ∧ (s.notifySync p c).control.site = s.control.site ∧
    (s.notifySync p c).control.epoch = s.control.epoch ∧
    (s.notifySync p c).control.epochCounter = s.control.epochCounter ∧
    (s.notifySync p c).control.count = s.control.count ∧
    (s.notifySync p c).control.controlDrops = s.control.controlDrops ∧ (s.notifySync p c).control.line = s.control.line :=
  by simp [State.notifySync]

/-- What stays of the Control Unit. -/
@[simp] theorem State.notifyClock_control (s : State) (b : ClockState) (c : ClockCause) :
    (s.notifyClock b c).control.queue = s.control.queue ∧ (s.notifyClock b c).control.site = s.control.site ∧
    (s.notifyClock b c).control.epoch = s.control.epoch ∧
    (s.notifyClock b c).control.epochCounter = s.control.epochCounter ∧
    (s.notifyClock b c).control.count = s.control.count ∧
    (s.notifyClock b c).control.controlDrops = s.control.controlDrops ∧
    (s.notifyClock b c).control.line = s.control.line :=
  by unfold State.notifyClock; split <;> simp

/-- What stays of the Control Unit. -/
@[simp] theorem State.finishEvent_control (s : State) (e : Nat) (f : EventState) (c : Option EndingCause) (r : Option FailReason) :
    (s.finishEvent e f c r).control.queue = s.control.queue ∧ (s.finishEvent e f c r).control.site = s.control.site ∧
    (s.finishEvent e f c r).control.epoch = s.control.epoch ∧
    (s.finishEvent e f c r).control.epochCounter = s.control.epochCounter ∧
    (s.finishEvent e f c r).control.count = s.control.count ∧
    (s.finishEvent e f c r).control.controlDrops = s.control.controlDrops ∧
    (s.finishEvent e f c r).control.line = s.control.line :=
  by unfold State.finishEvent; dsimp only; split <;> simp

/-- What stays of the Control Unit. -/
@[simp] theorem State.endSplice_control (s : State) (e : Nat) (f : EventState) (c : EndingCause) :
    (s.endSplice e f c).control.queue = s.control.queue ∧ (s.endSplice e f c).control.site = s.control.site ∧
    (s.endSplice e f c).control.epoch = s.control.epoch ∧
    (s.endSplice e f c).control.epochCounter = s.control.epochCounter ∧
    (s.endSplice e f c).control.count = s.control.count ∧
    (s.endSplice e f c).control.controlDrops = s.control.controlDrops ∧
    (s.endSplice e f c).control.line = s.control.line :=
  by simp [State.endSplice]

/-- What stays of the Emitter. -/
@[simp] theorem State.endSplice_emitter (s : State) (e : Nat) (f : EventState) (c : EndingCause) :
    (s.endSplice e f c).emitter.state = s.emitter.state ∧ (s.endSplice e f c).emitter.change = s.emitter.change ∧
    (s.endSplice e f c).emitter.second = s.emitter.second ∧ (s.endSplice e f c).emitter.slot = s.emitter.slot ∧
    (s.endSplice e f c).emitter.kNow = s.emitter.kNow ∧ (s.endSplice e f c).emitter.kPrev = s.emitter.kPrev ∧
    (s.endSplice e f c).emitter.lateAllowance = s.emitter.lateAllowance ∧
    (s.endSplice e f c).emitter.outCounts = s.emitter.outCounts ∧ (s.endSplice e f c).emitter.line = s.emitter.line :=
  by simp [State.endSplice, State.countEm]

/-- What stays of the store. -/
@[simp] theorem State.dropHead_store (s : State) (n : Nat) :
    (s.dropHead n).store.setting = s.store.setting ∧ (s.dropHead n).store.free = s.store.free ∧
    (s.dropHead n).store.ringTail = s.store.ringTail ∧ (s.dropHead n).store.nfWaiting = s.store.nfWaiting ∧
    (s.dropHead n).store.lfWaiting = s.store.lfWaiting ∧ (s.dropHead n).store.dram = s.store.dram :=
  ⟨rfl, rfl, rfl, rfl, rfl, rfl⟩

/-- What stays of the store. -/
@[simp] theorem State.flushQueue_store (s : State) :
    (s.flushQueue).store.setting = s.store.setting ∧ (s.flushQueue).store.free = s.store.free ∧
    (s.flushQueue).store.ringTail = s.store.ringTail ∧ (s.flushQueue).store.nfWaiting = s.store.nfWaiting ∧
    (s.flushQueue).store.lfWaiting = s.store.lfWaiting ∧ (s.flushQueue).store.dram = s.store.dram :=
  ⟨rfl, rfl, rfl, rfl, rfl, rfl⟩

/-- What stays of the store. -/
@[simp] theorem State.releaseClip_store (s : State) (c : Nat) :
    (s.releaseClip c).store.setting = s.store.setting ∧ (s.releaseClip c).store.ringHead = s.store.ringHead ∧
    (s.releaseClip c).store.ringTail = s.store.ringTail ∧ (s.releaseClip c).store.access = s.store.access ∧
    (s.releaseClip c).store.readWaiting = s.store.readWaiting ∧ (s.releaseClip c).store.nfWaiting = s.store.nfWaiting ∧
    (s.releaseClip c).store.lfWaiting = s.store.lfWaiting ∧ (s.releaseClip c).store.dram = s.store.dram ∧
    (s.releaseClip c).store.staged = s.store.staged :=
  ⟨rfl, rfl, rfl, rfl, rfl, rfl, rfl, rfl, rfl⟩

/-- What stays of the store. -/
@[simp] theorem State.returnClip_store (s : State) (c : Nat) :
    (s.returnClip c).store.setting = s.store.setting ∧ (s.returnClip c).store.free = s.store.free ∧
    (s.returnClip c).store.ringHead = s.store.ringHead ∧ (s.returnClip c).store.ringTail = s.store.ringTail ∧
    (s.returnClip c).store.nfWaiting = s.store.nfWaiting ∧ (s.returnClip c).store.lfWaiting = s.store.lfWaiting ∧
    (s.returnClip c).store.dram = s.store.dram :=
  by unfold State.returnClip; dsimp only; split <;> simp [CellStore.dropStaged]

/-- What stays of the store. -/
@[simp] theorem State.finishEvent_store (s : State) (e : Nat) (f : EventState) (c : Option EndingCause) (r : Option FailReason) :
    (s.finishEvent e f c r).store.setting = s.store.setting ∧ (s.finishEvent e f c r).store.free = s.store.free ∧
    (s.finishEvent e f c r).store.ringHead = s.store.ringHead ∧
    (s.finishEvent e f c r).store.ringTail = s.store.ringTail ∧
    (s.finishEvent e f c r).store.nfWaiting = s.store.nfWaiting ∧
    (s.finishEvent e f c r).store.lfWaiting = s.store.lfWaiting ∧ (s.finishEvent e f c r).store.dram = s.store.dram :=
  by unfold State.finishEvent; dsimp only; split <;> simp

/-- What stays of the store. -/
@[simp] theorem State.endSplice_store (s : State) (e : Nat) (f : EventState) (c : EndingCause) :
    (s.endSplice e f c).store.setting = s.store.setting ∧ (s.endSplice e f c).store.free = s.store.free ∧
    (s.endSplice e f c).store.ringHead = s.store.ringHead ∧ (s.endSplice e f c).store.ringTail = s.store.ringTail ∧
    (s.endSplice e f c).store.nfWaiting = s.store.nfWaiting ∧ (s.endSplice e f c).store.lfWaiting = s.store.lfWaiting ∧
    (s.endSplice e f c).store.dram = s.store.dram :=
  by simp [State.endSplice]

/-- What stays of the store. -/
@[simp] theorem State.joinQueue_store (s : State) (r : Record) :
    (s.joinQueue r).store.setting = s.store.setting ∧ (s.joinQueue r).store.free = s.store.free ∧
    (s.joinQueue r).store.ringHead = s.store.ringHead ∧ (s.joinQueue r).store.readWaiting = s.store.readWaiting ∧
    (s.joinQueue r).store.nfWaiting = s.store.nfWaiting ∧ (s.joinQueue r).store.lfWaiting = s.store.lfWaiting ∧
    (s.joinQueue r).store.dram = s.store.dram :=
  by unfold State.joinQueue; dsimp only; split <;> simp

/-- What stays of the Emitter. -/
@[simp] theorem State.joinQueue_emitter (s : State) (r : Record) :
    (s.joinQueue r).emitter.state = s.emitter.state ∧ (s.joinQueue r).emitter.change = s.emitter.change ∧
    (s.joinQueue r).emitter.second = s.emitter.second ∧ (s.joinQueue r).emitter.slot = s.emitter.slot ∧
    (s.joinQueue r).emitter.kNow = s.emitter.kNow ∧ (s.joinQueue r).emitter.kPrev = s.emitter.kPrev ∧
    (s.joinQueue r).emitter.lateAllowance = s.emitter.lateAllowance ∧
    (s.joinQueue r).emitter.outCounts = s.emitter.outCounts ∧ (s.joinQueue r).emitter.line = s.emitter.line :=
  by unfold State.joinQueue; dsimp only; split <;> simp [State.countEm]

/-- What stays of the store. -/
@[simp] theorem State.grantNf_store (s : State) (r : Record) :
    (s.grantNf r).store.setting = s.store.setting ∧ (s.grantNf r).store.free = s.store.free ∧
    (s.grantNf r).store.ringHead = s.store.ringHead ∧ (s.grantNf r).store.readWaiting = s.store.readWaiting ∧
    (s.grantNf r).store.lfWaiting = s.store.lfWaiting ∧ (s.grantNf r).store.dram = s.store.dram :=
  by unfold State.grantNf; dsimp only; (repeat' split) <;> simp

/-- What stays of the Emitter. -/
@[simp] theorem State.grantNf_emitter (s : State) (r : Record) :
    (s.grantNf r).emitter.state = s.emitter.state ∧ (s.grantNf r).emitter.change = s.emitter.change ∧
    (s.grantNf r).emitter.second = s.emitter.second ∧ (s.grantNf r).emitter.slot = s.emitter.slot ∧
    (s.grantNf r).emitter.kNow = s.emitter.kNow ∧ (s.grantNf r).emitter.kPrev = s.emitter.kPrev ∧
    (s.grantNf r).emitter.lateAllowance = s.emitter.lateAllowance ∧
    (s.grantNf r).emitter.outCounts = s.emitter.outCounts ∧ (s.grantNf r).emitter.line = s.emitter.line :=
  by unfold State.grantNf; dsimp only; (repeat' split) <;> simp [State.countEm]

/-- What stays of the store. -/
@[simp] theorem State.grantLf_store (s : State) (w : ClipWrite) :
    (s.grantLf w).store.setting = s.store.setting ∧ (s.grantLf w).store.ringHead = s.store.ringHead ∧
    (s.grantLf w).store.ringTail = s.store.ringTail ∧ (s.grantLf w).store.readWaiting = s.store.readWaiting ∧
    (s.grantLf w).store.nfWaiting = s.store.nfWaiting ∧ (s.grantLf w).store.dram = s.store.dram ∧
    (s.grantLf w).store.staged = s.store.staged :=
  by unfold State.grantLf; dsimp only; (repeat' split) <;> simp

/-- What stays of the store. -/
@[simp] theorem State.arbitrate_store (s : State) :
    (s.arbitrate).store.setting = s.store.setting ∧ (s.arbitrate).store.ringHead = s.store.ringHead ∧
    (s.arbitrate).store.dram = s.store.dram :=
  by unfold State.arbitrate; dsimp only; (repeat' split) <;> simp

/-- What stays of the Emitter. -/
@[simp] theorem State.arbitrate_emitter (s : State) :
    (s.arbitrate).emitter.state = s.emitter.state ∧ (s.arbitrate).emitter.change = s.emitter.change ∧
    (s.arbitrate).emitter.second = s.emitter.second ∧ (s.arbitrate).emitter.slot = s.emitter.slot ∧
    (s.arbitrate).emitter.kNow = s.emitter.kNow ∧ (s.arbitrate).emitter.kPrev = s.emitter.kPrev ∧
    (s.arbitrate).emitter.lateAllowance = s.emitter.lateAllowance ∧
    (s.arbitrate).emitter.outCounts = s.emitter.outCounts ∧ (s.arbitrate).emitter.line = s.emitter.line :=
  by unfold State.arbitrate; dsimp only; (repeat' split) <;> simp

/-- What stays of the Control Unit. -/
@[simp] theorem State.endAllOnAir_control (s : State) (c : EndingCause) :
    (s.endAllOnAir c).control.queue = s.control.queue ∧ (s.endAllOnAir c).control.site = s.control.site ∧
    (s.endAllOnAir c).control.epoch = s.control.epoch ∧ (s.endAllOnAir c).control.epochCounter = s.control.epochCounter ∧
    (s.endAllOnAir c).control.count = s.control.count ∧ (s.endAllOnAir c).control.controlDrops = s.control.controlDrops ∧
    (s.endAllOnAir c).control.line = s.control.line :=
  by unfold State.endAllOnAir; generalize eventNumbers = l; induction l generalizing s with
    | nil => simp
    | cons e l ih => simp only [List.foldl_cons, ih]; split <;> simp

/-- What stays of the Emitter. -/
@[simp] theorem State.endAllOnAir_emitter (s : State) (c : EndingCause) :
    (s.endAllOnAir c).emitter.state = s.emitter.state ∧ (s.endAllOnAir c).emitter.change = s.emitter.change ∧
    (s.endAllOnAir c).emitter.second = s.emitter.second ∧ (s.endAllOnAir c).emitter.slot = s.emitter.slot ∧
    (s.endAllOnAir c).emitter.kNow = s.emitter.kNow ∧ (s.endAllOnAir c).emitter.kPrev = s.emitter.kPrev ∧
    (s.endAllOnAir c).emitter.lateAllowance = s.emitter.lateAllowance ∧
    (s.endAllOnAir c).emitter.outCounts = s.emitter.outCounts ∧ (s.endAllOnAir c).emitter.line = s.emitter.line :=
  by unfold State.endAllOnAir; generalize eventNumbers = l; induction l generalizing s with
    | nil => simp
    | cons e l ih => simp only [List.foldl_cons, ih]; split <;> simp

/-- What stays of the store. -/
@[simp] theorem State.endAllOnAir_store (s : State) (c : EndingCause) :
    (s.endAllOnAir c).store.setting = s.store.setting ∧ (s.endAllOnAir c).store.free = s.store.free ∧
    (s.endAllOnAir c).store.ringHead = s.store.ringHead ∧ (s.endAllOnAir c).store.ringTail = s.store.ringTail ∧
    (s.endAllOnAir c).store.nfWaiting = s.store.nfWaiting ∧ (s.endAllOnAir c).store.lfWaiting = s.store.lfWaiting ∧
    (s.endAllOnAir c).store.dram = s.store.dram :=
  by unfold State.endAllOnAir; generalize eventNumbers = l; induction l generalizing s with
    | nil => simp
    | cons e l ih => simp only [List.foldl_cons, ih]; split <;> simp

/-- What stays of the Control Unit. -/
@[simp] theorem State.forceEnds_control (s : State) :
    (s.forceEnds).control.queue = s.control.queue ∧ (s.forceEnds).control.site = s.control.site ∧
    (s.forceEnds).control.epoch = s.control.epoch ∧ (s.forceEnds).control.epochCounter = s.control.epochCounter ∧
    (s.forceEnds).control.count = s.control.count ∧ (s.forceEnds).control.controlDrops = s.control.controlDrops ∧
    (s.forceEnds).control.line = s.control.line :=
  by unfold State.forceEnds; generalize eventNumbers = l; induction l generalizing s with
    | nil => simp
    | cons e l ih => simp only [List.foldl_cons, ih]; split <;> simp

/-- What stays of the Emitter. -/
@[simp] theorem State.forceEnds_emitter (s : State) :
    (s.forceEnds).emitter.state = s.emitter.state ∧ (s.forceEnds).emitter.change = s.emitter.change ∧
    (s.forceEnds).emitter.second = s.emitter.second ∧ (s.forceEnds).emitter.slot = s.emitter.slot ∧
    (s.forceEnds).emitter.kNow = s.emitter.kNow ∧ (s.forceEnds).emitter.kPrev = s.emitter.kPrev ∧
    (s.forceEnds).emitter.lateAllowance = s.emitter.lateAllowance ∧
    (s.forceEnds).emitter.outCounts = s.emitter.outCounts ∧ (s.forceEnds).emitter.line = s.emitter.line :=
  by unfold State.forceEnds; generalize eventNumbers = l; induction l generalizing s with
    | nil => simp
    | cons e l ih => simp only [List.foldl_cons, ih]; split <;> simp

/-- What stays of the store. -/
@[simp] theorem State.forceEnds_store (s : State) :
    (s.forceEnds).store.setting = s.store.setting ∧ (s.forceEnds).store.free = s.store.free ∧
    (s.forceEnds).store.ringHead = s.store.ringHead ∧ (s.forceEnds).store.ringTail = s.store.ringTail ∧
    (s.forceEnds).store.nfWaiting = s.store.nfWaiting ∧ (s.forceEnds).store.lfWaiting = s.store.lfWaiting ∧
    (s.forceEnds).store.dram = s.store.dram :=
  by unfold State.forceEnds; generalize eventNumbers = l; induction l generalizing s with
    | nil => simp
    | cons e l ih => simp only [List.foldl_cons, ih]; split <;> simp

/-- What stays of the Control Unit. -/
@[simp] theorem State.cancelAll_control (s : State) :
    (s.cancelAll).control.queue = s.control.queue ∧ (s.cancelAll).control.site = s.control.site ∧
    (s.cancelAll).control.epoch = s.control.epoch ∧ (s.cancelAll).control.epochCounter = s.control.epochCounter ∧
    (s.cancelAll).control.count = s.control.count ∧ (s.cancelAll).control.controlDrops = s.control.controlDrops ∧
    (s.cancelAll).control.line = s.control.line :=
  by unfold State.cancelAll; generalize eventNumbers = l; induction l generalizing s with
    | nil => simp
    | cons e l ih => simp only [List.foldl_cons, ih]; split <;> simp

/-- What stays of the Emitter. -/
@[simp] theorem State.cancelAll_emitter (s : State) :
    (s.cancelAll).emitter.state = s.emitter.state ∧ (s.cancelAll).emitter.change = s.emitter.change ∧
    (s.cancelAll).emitter.second = s.emitter.second ∧ (s.cancelAll).emitter.slot = s.emitter.slot ∧
    (s.cancelAll).emitter.kNow = s.emitter.kNow ∧ (s.cancelAll).emitter.kPrev = s.emitter.kPrev ∧
    (s.cancelAll).emitter.lateAllowance = s.emitter.lateAllowance ∧
    (s.cancelAll).emitter.outCounts = s.emitter.outCounts ∧ (s.cancelAll).emitter.line = s.emitter.line :=
  by unfold State.cancelAll; generalize eventNumbers = l; induction l generalizing s with
    | nil => simp
    | cons e l ih => simp only [List.foldl_cons, ih]; split <;> simp

/-- What stays of the store. -/
@[simp] theorem State.cancelAll_store (s : State) :
    (s.cancelAll).store.setting = s.store.setting ∧ (s.cancelAll).store.free = s.store.free ∧
    (s.cancelAll).store.ringHead = s.store.ringHead ∧ (s.cancelAll).store.ringTail = s.store.ringTail ∧
    (s.cancelAll).store.nfWaiting = s.store.nfWaiting ∧ (s.cancelAll).store.lfWaiting = s.store.lfWaiting ∧
    (s.cancelAll).store.dram = s.store.dram :=
  by unfold State.cancelAll; generalize eventNumbers = l; induction l generalizing s with
    | nil => simp
    | cons e l ih => simp only [List.foldl_cons, ih]; split <;> simp

/-- What stays of the Control Unit. -/
@[simp] theorem State.failMissed_control (s : State) :
    (s.failMissed).control.queue = s.control.queue ∧ (s.failMissed).control.site = s.control.site ∧
    (s.failMissed).control.epoch = s.control.epoch ∧ (s.failMissed).control.epochCounter = s.control.epochCounter ∧
    (s.failMissed).control.count = s.control.count ∧ (s.failMissed).control.controlDrops = s.control.controlDrops ∧
    (s.failMissed).control.line = s.control.line :=
  by unfold State.failMissed; generalize eventNumbers = l; induction l generalizing s with
    | nil => simp
    | cons e l ih => simp only [List.foldl_cons, ih]; split <;> simp

/-- What stays of the store. -/
@[simp] theorem State.failMissed_store (s : State) :
    (s.failMissed).store.setting = s.store.setting ∧ (s.failMissed).store.free = s.store.free ∧
    (s.failMissed).store.ringHead = s.store.ringHead ∧ (s.failMissed).store.ringTail = s.store.ringTail ∧
    (s.failMissed).store.nfWaiting = s.store.nfWaiting ∧ (s.failMissed).store.lfWaiting = s.store.lfWaiting ∧
    (s.failMissed).store.dram = s.store.dram :=
  by unfold State.failMissed; generalize eventNumbers = l; induction l generalizing s with
    | nil => simp
    | cons e l ih => simp only [List.foldl_cons, ih]; split <;> simp

/-- What stays of the Control Unit. -/
@[simp] theorem State.armEvent_control (s : State) (e : Nat) :
    (s.armEvent e).control.queue = s.control.queue ∧ (s.armEvent e).control.site = s.control.site ∧
    (s.armEvent e).control.epoch = s.control.epoch ∧ (s.armEvent e).control.epochCounter = s.control.epochCounter ∧
    (s.armEvent e).control.count = s.control.count ∧ (s.armEvent e).control.controlDrops = s.control.controlDrops ∧
    (s.armEvent e).control.line = s.control.line :=
  by unfold State.armEvent; dsimp only; (repeat' split) <;> simp

/-- What stays of the store. -/
@[simp] theorem State.armEvent_store (s : State) (e : Nat) :
    (s.armEvent e).store.setting = s.store.setting ∧ (s.armEvent e).store.free = s.store.free ∧
    (s.armEvent e).store.ringHead = s.store.ringHead ∧ (s.armEvent e).store.ringTail = s.store.ringTail ∧
    (s.armEvent e).store.nfWaiting = s.store.nfWaiting ∧ (s.armEvent e).store.lfWaiting = s.store.lfWaiting ∧
    (s.armEvent e).store.dram = s.store.dram :=
  by unfold State.armEvent; dsimp only; (repeat' split) <;> simp

/-- What stays of the Control Unit. -/
@[simp] theorem State.armDue_control (s : State) :
    (s.armDue).control.queue = s.control.queue ∧ (s.armDue).control.site = s.control.site ∧
    (s.armDue).control.epoch = s.control.epoch ∧ (s.armDue).control.epochCounter = s.control.epochCounter ∧
    (s.armDue).control.count = s.control.count ∧ (s.armDue).control.controlDrops = s.control.controlDrops ∧
    (s.armDue).control.line = s.control.line :=
  by unfold State.armDue; generalize s.dueForArming = l; induction l generalizing s with
    | nil => simp
    | cons e l ih => simp [ih]

/-- What stays of the store. -/
@[simp] theorem State.armDue_store (s : State) :
    (s.armDue).store.setting = s.store.setting ∧ (s.armDue).store.free = s.store.free ∧
    (s.armDue).store.ringHead = s.store.ringHead ∧ (s.armDue).store.ringTail = s.store.ringTail ∧
    (s.armDue).store.nfWaiting = s.store.nfWaiting ∧ (s.armDue).store.lfWaiting = s.store.lfWaiting ∧
    (s.armDue).store.dram = s.store.dram :=
  by unfold State.armDue; generalize s.dueForArming = l; induction l generalizing s with
    | nil => simp
    | cons e l ih => simp [ih]

/-- What stays of the Emitter. -/
@[simp] theorem State.replaceRecord_emitter (s : State) (e m : Nat) :
    ((s.replaceRecord e m).1).emitter.state = s.emitter.state ∧
    ((s.replaceRecord e m).1).emitter.change = s.emitter.change ∧
    ((s.replaceRecord e m).1).emitter.second = s.emitter.second ∧
    ((s.replaceRecord e m).1).emitter.slot = s.emitter.slot ∧ ((s.replaceRecord e m).1).emitter.kNow = s.emitter.kNow ∧
    ((s.replaceRecord e m).1).emitter.kPrev = s.emitter.kPrev ∧
    ((s.replaceRecord e m).1).emitter.lateAllowance = s.emitter.lateAllowance ∧
    ((s.replaceRecord e m).1).emitter.outCounts = s.emitter.outCounts ∧
    ((s.replaceRecord e m).1).emitter.line = s.emitter.line :=
  by unfold State.replaceRecord; dsimp only; (repeat' split) <;> simp [State.countEm, CellStore.dropStaged]

/-- What stays of the store. -/
@[simp] theorem State.replaceRecord_store (s : State) (e m : Nat) :
    ((s.replaceRecord e m).1).store.setting = s.store.setting ∧ ((s.replaceRecord e m).1).store.free = s.store.free ∧
    ((s.replaceRecord e m).1).store.ringHead = s.store.ringHead ∧
    ((s.replaceRecord e m).1).store.ringTail = s.store.ringTail ∧
    ((s.replaceRecord e m).1).store.nfWaiting = s.store.nfWaiting ∧
    ((s.replaceRecord e m).1).store.lfWaiting = s.store.lfWaiting ∧ ((s.replaceRecord e m).1).store.dram = s.store.dram :=
  by unfold State.replaceRecord; dsimp only; (repeat' split) <;> simp [State.countEm, CellStore.dropStaged]

/-- What stays of the Control Unit. -/
@[simp] theorem State.switchIn_control (s : State) (g e : Nat) (r : Record) :
    ((s.switchIn g e r).1).control.queue = s.control.queue ∧ ((s.switchIn g e r).1).control.site = s.control.site ∧
    ((s.switchIn g e r).1).control.epoch = s.control.epoch ∧
    ((s.switchIn g e r).1).control.epochCounter = s.control.epochCounter ∧
    ((s.switchIn g e r).1).control.count = s.control.count ∧
    ((s.switchIn g e r).1).control.controlDrops = s.control.controlDrops ∧
    ((s.switchIn g e r).1).control.line = s.control.line :=
  by simp [State.switchIn]

/-- What stays of the Control Unit. -/
@[simp] theorem State.endIfBack_control (s : State) (g e : Nat) :
    (s.endIfBack g e).control.queue = s.control.queue ∧ (s.endIfBack g e).control.site = s.control.site ∧
    (s.endIfBack g e).control.epoch = s.control.epoch ∧ (s.endIfBack g e).control.epochCounter = s.control.epochCounter ∧
    (s.endIfBack g e).control.count = s.control.count ∧ (s.endIfBack g e).control.controlDrops = s.control.controlDrops ∧
    (s.endIfBack g e).control.line = s.control.line :=
  by unfold State.endIfBack; dsimp only; split <;> simp

/-- What stays of the Control Unit. -/
@[simp] theorem State.onIdle_control (s : State) (g m : Nat) (r : Record) :
    ((s.onIdle g m r).1).control.queue = s.control.queue ∧ ((s.onIdle g m r).1).control.site = s.control.site ∧
    ((s.onIdle g m r).1).control.epoch = s.control.epoch ∧
    ((s.onIdle g m r).1).control.epochCounter = s.control.epochCounter ∧
    ((s.onIdle g m r).1).control.count = s.control.count ∧
    ((s.onIdle g m r).1).control.controlDrops = s.control.controlDrops ∧
    ((s.onIdle g m r).1).control.line = s.control.line :=
  by unfold State.onIdle; dsimp only; (repeat' split) <;> simp

/-- What stays of the Control Unit. -/
@[simp] theorem State.onLeader_control (s : State) (g e : Nat) (r : Record) :
    ((s.onLeader g e r).1).control.queue = s.control.queue ∧ ((s.onLeader g e r).1).control.site = s.control.site ∧
    ((s.onLeader g e r).1).control.epoch = s.control.epoch ∧
    ((s.onLeader g e r).1).control.epochCounter = s.control.epochCounter ∧
    ((s.onLeader g e r).1).control.count = s.control.count ∧
    ((s.onLeader g e r).1).control.controlDrops = s.control.controlDrops ∧
    ((s.onLeader g e r).1).control.line = s.control.line :=
  by unfold State.onLeader; dsimp only; (repeat' split) <;> simp

/-- What stays of the Control Unit. -/
@[simp] theorem State.onMember_control (s : State) (g e m : Nat) (r : Record) :
    ((s.onMember g e m r).1).control.queue = s.control.queue ∧ ((s.onMember g e m r).1).control.site = s.control.site ∧
    ((s.onMember g e m r).1).control.epoch = s.control.epoch ∧
    ((s.onMember g e m r).1).control.epochCounter = s.control.epochCounter ∧
    ((s.onMember g e m r).1).control.count = s.control.count ∧
    ((s.onMember g e m r).1).control.controlDrops = s.control.controlDrops ∧
    ((s.onMember g e m r).1).control.line = s.control.line :=
  by unfold State.onMember; dsimp only; (repeat' split) <;> simp

/-- What stays of the Control Unit. -/
@[simp] theorem State.switchRecord_control (s : State) (r : Record) :
    ((s.switchRecord r).1).control.queue = s.control.queue ∧ ((s.switchRecord r).1).control.site = s.control.site ∧
    ((s.switchRecord r).1).control.epoch = s.control.epoch ∧
    ((s.switchRecord r).1).control.epochCounter = s.control.epochCounter ∧
    ((s.switchRecord r).1).control.count = s.control.count ∧
    ((s.switchRecord r).1).control.controlDrops = s.control.controlDrops ∧
    ((s.switchRecord r).1).control.line = s.control.line :=
  by unfold State.switchRecord; (repeat' split) <;> simp

/-- What stays of the Emitter. -/
@[simp] theorem State.switchIn_emitter (s : State) (g e : Nat) (r : Record) :
    ((s.switchIn g e r).1).emitter.state = s.emitter.state ∧ ((s.switchIn g e r).1).emitter.change = s.emitter.change ∧
    ((s.switchIn g e r).1).emitter.second = s.emitter.second ∧ ((s.switchIn g e r).1).emitter.slot = s.emitter.slot ∧
    ((s.switchIn g e r).1).emitter.kNow = s.emitter.kNow ∧ ((s.switchIn g e r).1).emitter.kPrev = s.emitter.kPrev ∧
    ((s.switchIn g e r).1).emitter.lateAllowance = s.emitter.lateAllowance ∧
    ((s.switchIn g e r).1).emitter.outCounts = s.emitter.outCounts ∧
    ((s.switchIn g e r).1).emitter.line = s.emitter.line :=
  by simp [State.switchIn]

/-- What stays of the Emitter. -/
@[simp] theorem State.endIfBack_emitter (s : State) (g e : Nat) :
    (s.endIfBack g e).emitter.state = s.emitter.state ∧ (s.endIfBack g e).emitter.change = s.emitter.change ∧
    (s.endIfBack g e).emitter.second = s.emitter.second ∧ (s.endIfBack g e).emitter.slot = s.emitter.slot ∧
    (s.endIfBack g e).emitter.kNow = s.emitter.kNow ∧ (s.endIfBack g e).emitter.kPrev = s.emitter.kPrev ∧
    (s.endIfBack g e).emitter.lateAllowance = s.emitter.lateAllowance ∧
    (s.endIfBack g e).emitter.outCounts = s.emitter.outCounts ∧ (s.endIfBack g e).emitter.line = s.emitter.line :=
  by unfold State.endIfBack; dsimp only; split <;> simp

/-- What stays of the Emitter. -/
@[simp] theorem State.onIdle_emitter (s : State) (g m : Nat) (r : Record) :
    ((s.onIdle g m r).1).emitter.state = s.emitter.state ∧ ((s.onIdle g m r).1).emitter.change = s.emitter.change ∧
    ((s.onIdle g m r).1).emitter.second = s.emitter.second ∧ ((s.onIdle g m r).1).emitter.slot = s.emitter.slot ∧
    ((s.onIdle g m r).1).emitter.kNow = s.emitter.kNow ∧ ((s.onIdle g m r).1).emitter.kPrev = s.emitter.kPrev ∧
    ((s.onIdle g m r).1).emitter.lateAllowance = s.emitter.lateAllowance ∧
    ((s.onIdle g m r).1).emitter.outCounts = s.emitter.outCounts ∧ ((s.onIdle g m r).1).emitter.line = s.emitter.line :=
  by unfold State.onIdle; dsimp only; (repeat' split) <;> simp

/-- What stays of the Emitter. -/
@[simp] theorem State.onLeader_emitter (s : State) (g e : Nat) (r : Record) :
    ((s.onLeader g e r).1).emitter.state = s.emitter.state ∧ ((s.onLeader g e r).1).emitter.change = s.emitter.change ∧
    ((s.onLeader g e r).1).emitter.second = s.emitter.second ∧ ((s.onLeader g e r).1).emitter.slot = s.emitter.slot ∧
    ((s.onLeader g e r).1).emitter.kNow = s.emitter.kNow ∧ ((s.onLeader g e r).1).emitter.kPrev = s.emitter.kPrev ∧
    ((s.onLeader g e r).1).emitter.lateAllowance = s.emitter.lateAllowance ∧
    ((s.onLeader g e r).1).emitter.outCounts = s.emitter.outCounts ∧
    ((s.onLeader g e r).1).emitter.line = s.emitter.line :=
  by unfold State.onLeader; dsimp only; (repeat' split) <;> simp

/-- What stays of the Emitter. -/
@[simp] theorem State.onMember_emitter (s : State) (g e m : Nat) (r : Record) :
    ((s.onMember g e m r).1).emitter.state = s.emitter.state ∧
    ((s.onMember g e m r).1).emitter.change = s.emitter.change ∧
    ((s.onMember g e m r).1).emitter.second = s.emitter.second ∧ ((s.onMember g e m r).1).emitter.slot = s.emitter.slot ∧
    ((s.onMember g e m r).1).emitter.kNow = s.emitter.kNow ∧ ((s.onMember g e m r).1).emitter.kPrev = s.emitter.kPrev ∧
    ((s.onMember g e m r).1).emitter.lateAllowance = s.emitter.lateAllowance ∧
    ((s.onMember g e m r).1).emitter.outCounts = s.emitter.outCounts ∧
    ((s.onMember g e m r).1).emitter.line = s.emitter.line :=
  by unfold State.onMember; dsimp only; (repeat' split) <;> simp

/-- What stays of the Emitter. -/
@[simp] theorem State.switchRecord_emitter (s : State) (r : Record) :
    ((s.switchRecord r).1).emitter.state = s.emitter.state ∧ ((s.switchRecord r).1).emitter.change = s.emitter.change ∧
    ((s.switchRecord r).1).emitter.second = s.emitter.second ∧ ((s.switchRecord r).1).emitter.slot = s.emitter.slot ∧
    ((s.switchRecord r).1).emitter.kNow = s.emitter.kNow ∧ ((s.switchRecord r).1).emitter.kPrev = s.emitter.kPrev ∧
    ((s.switchRecord r).1).emitter.lateAllowance = s.emitter.lateAllowance ∧
    ((s.switchRecord r).1).emitter.outCounts = s.emitter.outCounts ∧
    ((s.switchRecord r).1).emitter.line = s.emitter.line :=
  by unfold State.switchRecord; (repeat' split) <;> simp

/-- What stays of the store. -/
@[simp] theorem State.switchIn_store (s : State) (g e : Nat) (r : Record) :
    ((s.switchIn g e r).1).store.setting = s.store.setting ∧ ((s.switchIn g e r).1).store.free = s.store.free ∧
    ((s.switchIn g e r).1).store.ringHead = s.store.ringHead ∧ ((s.switchIn g e r).1).store.ringTail = s.store.ringTail ∧
    ((s.switchIn g e r).1).store.nfWaiting = s.store.nfWaiting ∧
    ((s.switchIn g e r).1).store.lfWaiting = s.store.lfWaiting ∧ ((s.switchIn g e r).1).store.dram = s.store.dram :=
  by simp [State.switchIn]

/-- What stays of the store. -/
@[simp] theorem State.endIfBack_store (s : State) (g e : Nat) :
    (s.endIfBack g e).store.setting = s.store.setting ∧ (s.endIfBack g e).store.free = s.store.free ∧
    (s.endIfBack g e).store.ringHead = s.store.ringHead ∧ (s.endIfBack g e).store.ringTail = s.store.ringTail ∧
    (s.endIfBack g e).store.nfWaiting = s.store.nfWaiting ∧ (s.endIfBack g e).store.lfWaiting = s.store.lfWaiting ∧
    (s.endIfBack g e).store.dram = s.store.dram :=
  by unfold State.endIfBack; dsimp only; split <;> simp

/-- What stays of the store. -/
@[simp] theorem State.onIdle_store (s : State) (g m : Nat) (r : Record) :
    ((s.onIdle g m r).1).store.setting = s.store.setting ∧ ((s.onIdle g m r).1).store.free = s.store.free ∧
    ((s.onIdle g m r).1).store.ringHead = s.store.ringHead ∧ ((s.onIdle g m r).1).store.ringTail = s.store.ringTail ∧
    ((s.onIdle g m r).1).store.nfWaiting = s.store.nfWaiting ∧ ((s.onIdle g m r).1).store.lfWaiting = s.store.lfWaiting ∧
    ((s.onIdle g m r).1).store.dram = s.store.dram :=
  by unfold State.onIdle; dsimp only; (repeat' split) <;> simp

/-- What stays of the store. -/
@[simp] theorem State.onLeader_store (s : State) (g e : Nat) (r : Record) :
    ((s.onLeader g e r).1).store.setting = s.store.setting ∧ ((s.onLeader g e r).1).store.free = s.store.free ∧
    ((s.onLeader g e r).1).store.ringHead = s.store.ringHead ∧ ((s.onLeader g e r).1).store.ringTail = s.store.ringTail ∧
    ((s.onLeader g e r).1).store.nfWaiting = s.store.nfWaiting ∧
    ((s.onLeader g e r).1).store.lfWaiting = s.store.lfWaiting ∧ ((s.onLeader g e r).1).store.dram = s.store.dram :=
  by unfold State.onLeader; dsimp only; (repeat' split) <;> simp

/-- What stays of the store. -/
@[simp] theorem State.onMember_store (s : State) (g e m : Nat) (r : Record) :
    ((s.onMember g e m r).1).store.setting = s.store.setting ∧ ((s.onMember g e m r).1).store.free = s.store.free ∧
    ((s.onMember g e m r).1).store.ringHead = s.store.ringHead ∧
    ((s.onMember g e m r).1).store.ringTail = s.store.ringTail ∧
    ((s.onMember g e m r).1).store.nfWaiting = s.store.nfWaiting ∧
    ((s.onMember g e m r).1).store.lfWaiting = s.store.lfWaiting ∧ ((s.onMember g e m r).1).store.dram = s.store.dram :=
  by unfold State.onMember; dsimp only; (repeat' split) <;> simp

/-- What stays of the store. -/
@[simp] theorem State.switchRecord_store (s : State) (r : Record) :
    ((s.switchRecord r).1).store.setting = s.store.setting ∧ ((s.switchRecord r).1).store.free = s.store.free ∧
    ((s.switchRecord r).1).store.ringHead = s.store.ringHead ∧ ((s.switchRecord r).1).store.ringTail = s.store.ringTail ∧
    ((s.switchRecord r).1).store.nfWaiting = s.store.nfWaiting ∧
    ((s.switchRecord r).1).store.lfWaiting = s.store.lfWaiting ∧ ((s.switchRecord r).1).store.dram = s.store.dram :=
  by unfold State.switchRecord; (repeat' split) <;> simp

/-- What stays of the Emitter. -/
@[simp] theorem State.sendData_emitter (s : State) (r : Record) (st sa di : Bool) (p : List Byte) :
    (s.sendData r st sa di p).emitter.state = s.emitter.state ∧
    (s.sendData r st sa di p).emitter.change = s.emitter.change ∧
    (s.sendData r st sa di p).emitter.second = s.emitter.second ∧
    (s.sendData r st sa di p).emitter.slot = s.emitter.slot ∧ (s.sendData r st sa di p).emitter.kNow = s.emitter.kNow ∧
    (s.sendData r st sa di p).emitter.kPrev = s.emitter.kPrev ∧
    (s.sendData r st sa di p).emitter.lateAllowance = s.emitter.lateAllowance ∧
    (s.sendData r st sa di p).emitter.counters = s.emitter.counters :=
  ⟨rfl, rfl, rfl, rfl, rfl, rfl, rfl, rfl⟩

/-- What stays of the Emitter. -/
@[simp] theorem State.sendOnAir_emitter (s : State) (r : Record) (o : OnAir) :
    (s.sendOnAir r o).emitter.state = s.emitter.state ∧ (s.sendOnAir r o).emitter.change = s.emitter.change ∧
    (s.sendOnAir r o).emitter.second = s.emitter.second ∧ (s.sendOnAir r o).emitter.slot = s.emitter.slot ∧
    (s.sendOnAir r o).emitter.kNow = s.emitter.kNow ∧ (s.sendOnAir r o).emitter.kPrev = s.emitter.kPrev ∧
    (s.sendOnAir r o).emitter.lateAllowance = s.emitter.lateAllowance ∧
    (s.sendOnAir r o).emitter.counters = s.emitter.counters :=
  by cases o <;> simp [State.sendOnAir, State.sendEm]

/-- What stays of the Emitter. -/
@[simp] theorem State.sendRecord_emitter (s : State) (r : Record) (n : Nat) :
    (s.sendRecord r n).emitter.state = s.emitter.state ∧ (s.sendRecord r n).emitter.change = s.emitter.change ∧
    (s.sendRecord r n).emitter.second = s.emitter.second ∧ (s.sendRecord r n).emitter.slot = s.emitter.slot ∧
    (s.sendRecord r n).emitter.kNow = s.emitter.kNow ∧ (s.sendRecord r n).emitter.kPrev = s.emitter.kPrev ∧
    (s.sendRecord r n).emitter.lateAllowance = s.emitter.lateAllowance :=
  by unfold State.sendRecord; dsimp only; split <;> simp [State.countEm]

/-- What stays of the store. -/
@[simp] theorem State.sendRecord_store (s : State) (r : Record) (n : Nat) :
    (s.sendRecord r n).store.setting = s.store.setting ∧ (s.sendRecord r n).store.free = s.store.free ∧
    (s.sendRecord r n).store.ringTail = s.store.ringTail ∧ (s.sendRecord r n).store.nfWaiting = s.store.nfWaiting ∧
    (s.sendRecord r n).store.lfWaiting = s.store.lfWaiting ∧ (s.sendRecord r n).store.dram = s.store.dram :=
  by unfold State.sendRecord; dsimp only; split <;> simp

/-- What stays of the Control Unit. -/
@[simp] theorem State.sendRecord_control (s : State) (r : Record) (n : Nat) :
    (s.sendRecord r n).control.queue = s.control.queue ∧ (s.sendRecord r n).control.site = s.control.site ∧
    (s.sendRecord r n).control.epoch = s.control.epoch ∧
    (s.sendRecord r n).control.epochCounter = s.control.epochCounter ∧
    (s.sendRecord r n).control.count = s.control.count ∧
    (s.sendRecord r n).control.controlDrops = s.control.controlDrops ∧ (s.sendRecord r n).control.line = s.control.line :=
  by unfold State.sendRecord; dsimp only; split <;> simp

/-- What stays of the Emitter. -/
@[simp] theorem State.examineHead_emitter (s : State) :
    (s.examineHead).emitter.state = s.emitter.state ∧ (s.examineHead).emitter.change = s.emitter.change ∧
    (s.examineHead).emitter.second = s.emitter.second ∧ (s.examineHead).emitter.slot = s.emitter.slot ∧
    (s.examineHead).emitter.kNow = s.emitter.kNow ∧ (s.examineHead).emitter.kPrev = s.emitter.kPrev ∧
    (s.examineHead).emitter.lateAllowance = s.emitter.lateAllowance ∧
    (s.examineHead).emitter.outCounts = s.emitter.outCounts ∧ (s.examineHead).emitter.line = s.emitter.line :=
  by simp [State.examineHead, State.countEm]

/-- What stays of the store. -/
@[simp] theorem State.examineHead_store (s : State) :
    (s.examineHead).store.setting = s.store.setting ∧ (s.examineHead).store.free = s.store.free ∧
    (s.examineHead).store.ringTail = s.store.ringTail ∧ (s.examineHead).store.nfWaiting = s.store.nfWaiting ∧
    (s.examineHead).store.lfWaiting = s.store.lfWaiting ∧ (s.examineHead).store.dram = s.store.dram :=
  by simp [State.examineHead]

/-- What stays of the Emitter. -/
@[simp] theorem State.fillSlot_emitter (s : State) :
    (s.fillSlot).emitter.state = s.emitter.state ∧ (s.fillSlot).emitter.change = s.emitter.change ∧
    (s.fillSlot).emitter.second = s.emitter.second ∧ (s.fillSlot).emitter.slot = s.emitter.slot ∧
    (s.fillSlot).emitter.kNow = s.emitter.kNow ∧ (s.fillSlot).emitter.kPrev = s.emitter.kPrev ∧
    (s.fillSlot).emitter.lateAllowance = s.emitter.lateAllowance :=
  by unfold State.fillSlot; dsimp only; (repeat' split) <;> simp [State.countEm, State.sendEm]

/-- What stays of the store. -/
@[simp] theorem State.fillSlot_store (s : State) :
    (s.fillSlot).store.setting = s.store.setting ∧ (s.fillSlot).store.free = s.store.free ∧
    (s.fillSlot).store.ringTail = s.store.ringTail ∧ (s.fillSlot).store.nfWaiting = s.store.nfWaiting ∧
    (s.fillSlot).store.lfWaiting = s.store.lfWaiting ∧ (s.fillSlot).store.dram = s.store.dram :=
  by unfold State.fillSlot; dsimp only; (repeat' split) <;> simp [State.countEm, State.sendEm]

/-- What stays of the Control Unit. -/
@[simp] theorem State.fillSlot_control (s : State) :
    (s.fillSlot).control.queue = s.control.queue ∧ (s.fillSlot).control.site = s.control.site ∧
    (s.fillSlot).control.epoch = s.control.epoch ∧ (s.fillSlot).control.epochCounter = s.control.epochCounter ∧
    (s.fillSlot).control.count = s.control.count ∧ (s.fillSlot).control.controlDrops = s.control.controlDrops ∧
    (s.fillSlot).control.line = s.control.line :=
  by unfold State.fillSlot; dsimp only; (repeat' split) <;> simp [State.countEm, State.sendEm]

/-- What stays of the Emitter. -/
@[simp] theorem State.muteAtSlot_emitter (s : State) :
    (s.muteAtSlot).emitter.change = s.emitter.change ∧ (s.muteAtSlot).emitter.second = s.emitter.second ∧
    (s.muteAtSlot).emitter.slot = s.emitter.slot ∧ (s.muteAtSlot).emitter.kNow = s.emitter.kNow ∧
    (s.muteAtSlot).emitter.kPrev = s.emitter.kPrev ∧ (s.muteAtSlot).emitter.lateAllowance = s.emitter.lateAllowance ∧
    (s.muteAtSlot).emitter.outCounts = s.emitter.outCounts :=
  by simp [State.muteAtSlot, State.sendEm]

/-- What stays of the store. -/
@[simp] theorem State.muteAtSlot_store (s : State) :
    (s.muteAtSlot).store.setting = s.store.setting ∧ (s.muteAtSlot).store.free = s.store.free ∧
    (s.muteAtSlot).store.ringTail = s.store.ringTail ∧ (s.muteAtSlot).store.nfWaiting = s.store.nfWaiting ∧
    (s.muteAtSlot).store.lfWaiting = s.store.lfWaiting ∧ (s.muteAtSlot).store.dram = s.store.dram :=
  by simp [State.muteAtSlot, State.sendEm]

/-- What stays of the Control Unit. -/
@[simp] theorem State.muteAtSlot_control (s : State) :
    (s.muteAtSlot).control.queue = s.control.queue ∧ (s.muteAtSlot).control.site = s.control.site ∧
    (s.muteAtSlot).control.epoch = s.control.epoch ∧ (s.muteAtSlot).control.epochCounter = s.control.epochCounter ∧
    (s.muteAtSlot).control.count = s.control.count ∧ (s.muteAtSlot).control.controlDrops = s.control.controlDrops ∧
    (s.muteAtSlot).control.line = s.control.line :=
  by simp [State.muteAtSlot, State.sendEm]

/-- What stays of the Emitter. -/
@[simp] theorem State.beginSlot_emitter (s : State) :
    (s.beginSlot).emitter.change = s.emitter.change ∧ (s.beginSlot).emitter.second = s.emitter.second ∧
    (s.beginSlot).emitter.slot = s.emitter.slot ∧ (s.beginSlot).emitter.kNow = s.emitter.kNow ∧
    (s.beginSlot).emitter.kPrev = s.emitter.kPrev ∧ (s.beginSlot).emitter.lateAllowance = s.emitter.lateAllowance :=
  by unfold State.beginSlot; (repeat' split) <;> simp [State.sendEm]

/-- What stays of the store. -/
@[simp] theorem State.beginSlot_store (s : State) :
    (s.beginSlot).store.setting = s.store.setting ∧ (s.beginSlot).store.free = s.store.free ∧
    (s.beginSlot).store.ringTail = s.store.ringTail ∧ (s.beginSlot).store.nfWaiting = s.store.nfWaiting ∧
    (s.beginSlot).store.lfWaiting = s.store.lfWaiting ∧ (s.beginSlot).store.dram = s.store.dram :=
  by unfold State.beginSlot; (repeat' split) <;> simp [State.sendEm]

/-- What stays of the Control Unit. -/
@[simp] theorem State.beginSlot_control (s : State) :
    (s.beginSlot).control.queue = s.control.queue ∧ (s.beginSlot).control.site = s.control.site ∧
    (s.beginSlot).control.epoch = s.control.epoch ∧ (s.beginSlot).control.epochCounter = s.control.epochCounter ∧
    (s.beginSlot).control.count = s.control.count ∧ (s.beginSlot).control.controlDrops = s.control.controlDrops ∧
    (s.beginSlot).control.line = s.control.line :=
  by unfold State.beginSlot; (repeat' split) <;> simp [State.sendEm]

/-- What stays of the Emitter. -/
@[simp] theorem State.emitterChange_emitter (s : State) :
    (s.emitterChange).emitter.second = s.emitter.second ∧ (s.emitterChange).emitter.slot = s.emitter.slot ∧
    (s.emitterChange).emitter.kNow = s.emitter.kNow ∧ (s.emitterChange).emitter.kPrev = s.emitter.kPrev ∧
    (s.emitterChange).emitter.lateAllowance = s.emitter.lateAllowance ∧
    (s.emitterChange).emitter.outCounts = s.emitter.outCounts ∧ (s.emitterChange).emitter.line = s.emitter.line :=
  by unfold State.emitterChange; dsimp only; (repeat' split) <;> simp

/-- What stays of the store. -/
@[simp] theorem State.emitterChange_store (s : State) :
    (s.emitterChange).store.setting = s.store.setting ∧ (s.emitterChange).store.free = s.store.free ∧
    (s.emitterChange).store.ringTail = s.store.ringTail ∧ (s.emitterChange).store.nfWaiting = s.store.nfWaiting ∧
    (s.emitterChange).store.lfWaiting = s.store.lfWaiting ∧ (s.emitterChange).store.dram = s.store.dram :=
  by unfold State.emitterChange; dsimp only; (repeat' split) <;> simp

/-- What stays of the Control Unit. -/
@[simp] theorem State.emitterChange_control (s : State) :
    (s.emitterChange).control.queue = s.control.queue ∧ (s.emitterChange).control.site = s.control.site ∧
    (s.emitterChange).control.epoch = s.control.epoch ∧ (s.emitterChange).control.epochCounter = s.control.epochCounter ∧
    (s.emitterChange).control.count = s.control.count ∧ (s.emitterChange).control.controlDrops = s.control.controlDrops ∧
    (s.emitterChange).control.line = s.control.line :=
  by unfold State.emitterChange; dsimp only; (repeat' split) <;> simp

/-- What stays of the Emitter. -/
@[simp] theorem State.armingsAndEnds_emitter (s : State) :
    (s.armingsAndEnds).emitter.second = s.emitter.second ∧ (s.armingsAndEnds).emitter.slot = s.emitter.slot ∧
    (s.armingsAndEnds).emitter.kNow = s.emitter.kNow ∧ (s.armingsAndEnds).emitter.kPrev = s.emitter.kPrev ∧
    (s.armingsAndEnds).emitter.lateAllowance = s.emitter.lateAllowance ∧
    (s.armingsAndEnds).emitter.outCounts = s.emitter.outCounts ∧ (s.armingsAndEnds).emitter.line = s.emitter.line :=
  by unfold State.armingsAndEnds; dsimp only; split <;> simp [State.armAndMiss]

/-- What stays of the store. -/
@[simp] theorem State.armingsAndEnds_store (s : State) :
    (s.armingsAndEnds).store.setting = s.store.setting ∧ (s.armingsAndEnds).store.free = s.store.free ∧
    (s.armingsAndEnds).store.ringTail = s.store.ringTail ∧ (s.armingsAndEnds).store.nfWaiting = s.store.nfWaiting ∧
    (s.armingsAndEnds).store.lfWaiting = s.store.lfWaiting ∧ (s.armingsAndEnds).store.dram = s.store.dram :=
  by unfold State.armingsAndEnds; dsimp only; split <;> simp [State.armAndMiss]

/-- What stays of the Control Unit. -/
@[simp] theorem State.armingsAndEnds_control (s : State) :
    (s.armingsAndEnds).control.queue = s.control.queue ∧ (s.armingsAndEnds).control.site = s.control.site ∧
    (s.armingsAndEnds).control.epoch = s.control.epoch ∧ (s.armingsAndEnds).control.epochCounter = s.control.epochCounter ∧
    (s.armingsAndEnds).control.count = s.control.count ∧ (s.armingsAndEnds).control.controlDrops = s.control.controlDrops ∧
    (s.armingsAndEnds).control.line = s.control.line :=
  by unfold State.armingsAndEnds; dsimp only; split <;> simp [State.armAndMiss]

/-- What stays of the Emitter. -/
@[simp] theorem State.emitterSecond_emitter (s : State) :
    (s.emitterSecond).emitter.state = s.emitter.state ∧ (s.emitterSecond).emitter.change = s.emitter.change ∧
    (s.emitterSecond).emitter.lateAllowance = s.emitter.lateAllowance ∧
    (s.emitterSecond).emitter.outCounts = s.emitter.outCounts ∧ (s.emitterSecond).emitter.counters = s.emitter.counters ∧
    (s.emitterSecond).emitter.line = s.emitter.line :=
  ⟨rfl, rfl, rfl, rfl, rfl, rfl⟩

/-- What stays of the Emitter. -/
@[simp] theorem State.sendMarker_emitter (s : State) :
    (s.sendMarker).emitter.state = s.emitter.state ∧ (s.sendMarker).emitter.change = s.emitter.change ∧
    (s.sendMarker).emitter.second = s.emitter.second ∧ (s.sendMarker).emitter.slot = s.emitter.slot ∧
    (s.sendMarker).emitter.kNow = s.emitter.kNow ∧ (s.sendMarker).emitter.kPrev = s.emitter.kPrev ∧
    (s.sendMarker).emitter.lateAllowance = s.emitter.lateAllowance ∧
    (s.sendMarker).emitter.counters = s.emitter.counters :=
  by unfold State.sendMarker; split <;> simp [State.sendCounted]

/-- What stays of the Emitter. -/
@[simp] theorem State.passSlots_emitter (s : State) :
    (s.passSlots).emitter.state = s.emitter.state ∧ (s.passSlots).emitter.change = s.emitter.change ∧
    (s.passSlots).emitter.second = s.emitter.second ∧ (s.passSlots).emitter.kNow = s.emitter.kNow ∧
    (s.passSlots).emitter.kPrev = s.emitter.kPrev ∧ (s.passSlots).emitter.lateAllowance = s.emitter.lateAllowance ∧
    (s.passSlots).emitter.outCounts = s.emitter.outCounts ∧ (s.passSlots).emitter.counters = s.emitter.counters ∧
    (s.passSlots).emitter.line = s.emitter.line :=
  by unfold State.passSlots; split <;> simp

/-- What stays of the Timing Plan unit. -/
@[simp] theorem State.staleAdvance_plan (s : State) :
    (s.staleAdvance).plan.current = s.plan.current ∧ (s.staleAdvance).plan.pending = s.plan.pending ∧
    (s.staleAdvance).plan.trim = s.plan.trim :=
  by unfold State.staleAdvance; dsimp only; (repeat' split) <;> simp

/-- What stays of the Control Unit. -/
@[simp] theorem State.staleAdvance_control (s : State) :
    (s.staleAdvance).control.queue = s.control.queue ∧ (s.staleAdvance).control.site = s.control.site ∧
    (s.staleAdvance).control.epoch = s.control.epoch ∧ (s.staleAdvance).control.epochCounter = s.control.epochCounter ∧
    (s.staleAdvance).control.count = s.control.count ∧ (s.staleAdvance).control.controlDrops = s.control.controlDrops ∧
    (s.staleAdvance).control.line = s.control.line :=
  by unfold State.staleAdvance; dsimp only; (repeat' split) <;> simp

/-- What stays of the Timing Plan unit. -/
@[simp] theorem State.planChange_plan (s : State) :
    (s.planChange).plan.staleTimer = s.plan.staleTimer ∧ (s.planChange).plan.stale = s.plan.stale ∧
    (s.planChange).plan.trim = s.plan.trim :=
  by unfold State.planChange; (repeat' split) <;> simp

/-- What stays of the Control Unit. -/
@[simp] theorem State.planChange_control (s : State) :
    (s.planChange).control.queue = s.control.queue ∧ (s.planChange).control.site = s.control.site ∧
    (s.planChange).control.epoch = s.control.epoch ∧ (s.planChange).control.epochCounter = s.control.epochCounter ∧
    (s.planChange).control.count = s.control.count ∧ (s.planChange).control.controlDrops = s.control.controlDrops ∧
    (s.planChange).control.line = s.control.line :=
  by unfold State.planChange; (repeat' split) <;> simp

/-- What stays of the Timing Plan unit. -/
@[simp] theorem State.restartStale_plan (s : State) (b : Bool) :
    (s.restartStale b).plan.current = s.plan.current ∧ (s.restartStale b).plan.pending = s.plan.pending ∧
    (s.restartStale b).plan.trim = s.plan.trim :=
  by unfold State.restartStale; dsimp only; (repeat' split) <;> simp

/-- What stays of the Control Unit. -/
@[simp] theorem State.restartStale_control (s : State) (b : Bool) :
    (s.restartStale b).control.queue = s.control.queue ∧ (s.restartStale b).control.site = s.control.site ∧
    (s.restartStale b).control.epoch = s.control.epoch ∧
    (s.restartStale b).control.epochCounter = s.control.epochCounter ∧
    (s.restartStale b).control.count = s.control.count ∧
    (s.restartStale b).control.controlDrops = s.control.controlDrops ∧ (s.restartStale b).control.line = s.control.line :=
  by unfold State.restartStale; dsimp only; (repeat' split) <;> simp

/-- What stays of the Control Unit. -/
@[simp] theorem State.takeTiming_control (s : State) (c : Cell) :
    (s.takeTiming c).control.queue = s.control.queue ∧ (s.takeTiming c).control.site = s.control.site ∧
    (s.takeTiming c).control.epoch = s.control.epoch ∧ (s.takeTiming c).control.epochCounter = s.control.epochCounter ∧
    (s.takeTiming c).control.count = s.control.count ∧ (s.takeTiming c).control.controlDrops = s.control.controlDrops ∧
    (s.takeTiming c).control.line = s.control.line :=
  by unfold State.takeTiming; dsimp only; (repeat' split) <;> simp

/-- What stays of the Emitter. -/
@[simp] theorem State.handBoundary_emitter (s : State) :
    (s.handBoundary).emitter.lateAllowance = s.emitter.lateAllowance :=
  by simp [State.handBoundary]

/-- What stays of the Emitter. -/
@[simp] theorem State.edgeBoundary_emitter (s : State) :
    (s.edgeBoundary).emitter.lateAllowance = s.emitter.lateAllowance :=
  by simp [State.edgeBoundary, State.clockBoundary]

/-- What stays of the store. -/
@[simp] theorem State.handBoundary_store (s : State) :
    (s.handBoundary).store.setting = s.store.setting ∧ (s.handBoundary).store.free = s.store.free ∧
    (s.handBoundary).store.ringTail = s.store.ringTail ∧ (s.handBoundary).store.nfWaiting = s.store.nfWaiting ∧
    (s.handBoundary).store.lfWaiting = s.store.lfWaiting ∧ (s.handBoundary).store.dram = s.store.dram :=
  by simp [State.handBoundary]

/-- What stays of the store. -/
@[simp] theorem State.edgeBoundary_store (s : State) :
    (s.edgeBoundary).store.setting = s.store.setting ∧ (s.edgeBoundary).store.free = s.store.free ∧
    (s.edgeBoundary).store.ringTail = s.store.ringTail ∧ (s.edgeBoundary).store.nfWaiting = s.store.nfWaiting ∧
    (s.edgeBoundary).store.lfWaiting = s.store.lfWaiting ∧ (s.edgeBoundary).store.dram = s.store.dram :=
  by simp [State.edgeBoundary, State.clockBoundary]

/-- What stays of the Control Unit. -/
@[simp] theorem State.handBoundary_control (s : State) :
    (s.handBoundary).control.queue = s.control.queue ∧ (s.handBoundary).control.site = s.control.site ∧
    (s.handBoundary).control.epoch = s.control.epoch ∧ (s.handBoundary).control.epochCounter = s.control.epochCounter ∧
    (s.handBoundary).control.count = s.control.count ∧ (s.handBoundary).control.controlDrops = s.control.controlDrops ∧
    (s.handBoundary).control.line = s.control.line :=
  by simp [State.handBoundary]

/-- What stays of the Control Unit. -/
@[simp] theorem State.edgeBoundary_control (s : State) :
    (s.edgeBoundary).control.queue = s.control.queue ∧ (s.edgeBoundary).control.site = s.control.site ∧
    (s.edgeBoundary).control.epoch = s.control.epoch ∧ (s.edgeBoundary).control.epochCounter = s.control.epochCounter ∧
    (s.edgeBoundary).control.count = s.control.count ∧ (s.edgeBoundary).control.controlDrops = s.control.controlDrops ∧
    (s.edgeBoundary).control.line = s.control.line :=
  by simp [State.edgeBoundary, State.clockBoundary]

/-- What stays of the Timing Plan unit. -/
@[simp] theorem State.handBoundary_plan (s : State) :
    (s.handBoundary).plan.staleTimer = s.plan.staleTimer ∧ (s.handBoundary).plan.stale = s.plan.stale ∧
    (s.handBoundary).plan.trim = s.plan.trim :=
  by simp [State.handBoundary]

/-- What stays of the Timing Plan unit. -/
@[simp] theorem State.edgeBoundary_plan (s : State) :
    (s.edgeBoundary).plan.trim = s.plan.trim :=
  by simp [State.edgeBoundary, State.clockBoundary]

/-- What stays of the Control Unit. -/
@[simp] theorem State.discardForeign_control (s : State) :
    (s.discardForeign).control.site = s.control.site ∧ (s.discardForeign).control.epoch = s.control.epoch ∧
    (s.discardForeign).control.epochCounter = s.control.epochCounter ∧
    (s.discardForeign).control.monitor = s.control.monitor ∧
    (s.discardForeign).control.noticesLost = s.control.noticesLost ∧
    (s.discardForeign).control.gapOwed = s.control.gapOwed ∧ (s.discardForeign).control.count = s.control.count ∧
    (s.discardForeign).control.controlDrops = s.control.controlDrops ∧ (s.discardForeign).control.line = s.control.line :=
  ⟨rfl, rfl, rfl, rfl, rfl, rfl, rfl, rfl, rfl⟩

/-- What stays of the Control Unit. -/
@[simp] theorem State.popCommand_control (s : State) :
    (s.popCommand).control.site = s.control.site ∧ (s.popCommand).control.epoch = s.control.epoch ∧
    (s.popCommand).control.epochCounter = s.control.epochCounter ∧ (s.popCommand).control.monitor = s.control.monitor ∧
    (s.popCommand).control.noticesLost = s.control.noticesLost ∧ (s.popCommand).control.gapOwed = s.control.gapOwed ∧
    (s.popCommand).control.count = s.control.count ∧ (s.popCommand).control.controlDrops = s.control.controlDrops ∧
    (s.popCommand).control.line = s.control.line :=
  ⟨rfl, rfl, rfl, rfl, rfl, rfl, rfl, rfl, rfl⟩

/-- What stays of the Control Unit. -/
@[simp] theorem State.offerCommand_control (s : State) (o : Origin) (c : Cell) :
    (s.offerCommand o c).control.site = s.control.site ∧ (s.offerCommand o c).control.epoch = s.control.epoch ∧
    (s.offerCommand o c).control.epochCounter = s.control.epochCounter ∧
    (s.offerCommand o c).control.monitor = s.control.monitor ∧
    (s.offerCommand o c).control.noticesLost = s.control.noticesLost ∧
    (s.offerCommand o c).control.gapOwed = s.control.gapOwed ∧ (s.offerCommand o c).control.count = s.control.count ∧
    (s.offerCommand o c).control.line = s.control.line :=
  by unfold State.offerCommand; split <;> simp

/-- What stays of the Control Unit. -/
@[simp] theorem State.restartControl_control (s : State) :
    (s.restartControl).control.site = s.control.site ∧ (s.restartControl).control.epochCounter = s.control.epochCounter ∧
    (s.restartControl).control.monitor = s.control.monitor ∧
    (s.restartControl).control.noticesLost = s.control.noticesLost ∧
    (s.restartControl).control.gapOwed = s.control.gapOwed ∧ (s.restartControl).control.count = s.control.count ∧
    (s.restartControl).control.controlDrops = s.control.controlDrops ∧ (s.restartControl).control.line = s.control.line :=
  ⟨rfl, rfl, rfl, rfl, rfl, rfl, rfl, rfl⟩

/-- What stays of the Control Unit. -/
@[simp] theorem State.restartEmitter_control (s : State) :
    (s.restartEmitter).control.queue = s.control.queue ∧ (s.restartEmitter).control.site = s.control.site ∧
    (s.restartEmitter).control.epoch = s.control.epoch ∧
    (s.restartEmitter).control.epochCounter = s.control.epochCounter ∧
    (s.restartEmitter).control.count = s.control.count ∧
    (s.restartEmitter).control.controlDrops = s.control.controlDrops ∧ (s.restartEmitter).control.line = s.control.line :=
  by unfold State.restartEmitter; dsimp only; split <;> simp

/-- What stays of the Emitter. -/
@[simp] theorem State.restartEmitter_emitter (s : State) :
    (s.restartEmitter).emitter.second = s.emitter.second ∧ (s.restartEmitter).emitter.slot = s.emitter.slot ∧
    (s.restartEmitter).emitter.kNow = s.emitter.kNow ∧ (s.restartEmitter).emitter.kPrev = s.emitter.kPrev ∧
    (s.restartEmitter).emitter.lateAllowance = s.emitter.lateAllowance ∧
    (s.restartEmitter).emitter.outCounts = s.emitter.outCounts ∧
    (s.restartEmitter).emitter.counters = s.emitter.counters ∧ (s.restartEmitter).emitter.line = s.emitter.line :=
  by unfold State.restartEmitter; dsimp only; split <;> simp

/-- What stays of the store. -/
@[simp] theorem State.restartEmitter_store (s : State) :
    (s.restartEmitter).store.setting = s.store.setting ∧ (s.restartEmitter).store.free = s.store.free ∧
    (s.restartEmitter).store.ringTail = s.store.ringTail ∧ (s.restartEmitter).store.nfWaiting = s.store.nfWaiting ∧
    (s.restartEmitter).store.lfWaiting = s.store.lfWaiting ∧ (s.restartEmitter).store.dram = s.store.dram :=
  by unfold State.restartEmitter; dsimp only; split <;> simp

/-- What stays of the store. -/
@[simp] theorem State.restartIntakes_store (s : State) :
    (s.restartIntakes).store.setting = s.store.setting ∧ (s.restartIntakes).store.free = s.store.free ∧
    (s.restartIntakes).store.ringHead = s.store.ringHead ∧ (s.restartIntakes).store.ringTail = s.store.ringTail ∧
    (s.restartIntakes).store.access = s.store.access ∧ (s.restartIntakes).store.readWaiting = s.store.readWaiting ∧
    (s.restartIntakes).store.dram = s.store.dram ∧ (s.restartIntakes).store.staged = s.store.staged :=
  by unfold State.restartIntakes; dsimp only; split <;> simp

end Sys2Proof.Machine
end

