-- ==== Sys2Proof/Laws/Commands.lean ====
section
/-! SUPPORT. The taking of a command, said once, and for each command's own rule the blocks it leaves as they are. -/

namespace Sys2Proof.Machine

/-! ### The taking of a command -/

/-- All that the taking of a command can do: nothing, when no such command can be taken; otherwise the command at the head,
which is this part's and finds a free place in the monitor queue, leaves the command queue and is refused BAD_EPOCH, refused
NOT_PERMITTED, or goes through its own rule; then foreign commands at the head are discarded (R158 to R160). -/
theorem State.takeCommand_cases {s t : State} {name : CommandName} {body : Command → State → State}
    (h : s.takeCommand name body = .next t) :
    t = s ∨ ∃ c rest, s.control.queue = c :: rest ∧ s.control.foreign c = false ∧ s.control.monitor.length < 16 ∧
      commandOfCode c.code = some name ∧
      (t = (s.popCommand.reply c .badEpoch []).discardForeign ∨
        t = (s.popCommand.reply c .notPermitted []).discardForeign ∨
        t = (body c s.popCommand).discardForeign) := by
  unfold State.takeCommand at h
  split at h
  · injection h with h; exact .inl h.symm
  · rename_i c hc
    split at h
    · rename_i hn
      refine .inr ?_
      unfold State.commandDue at hc
      split at hc
      · cases hc
      · rename_i x rest hq
        split at hc
        · cases hc
        · rename_i hf
          injection hc with hc
          subst hc
          simp only [Bool.or_eq_true, decide_eq_true_eq, not_or, Bool.not_eq_true, Nat.not_le] at hf
          refine ⟨x, rest, hq, hf.1, hf.2, hn, ?_⟩
          injection h with h
          subst h
          unfold State.checked
          split
          · exact .inl rfl
          · split
            · exact .inr (.inl rfl)
            · exact .inr (.inr rfl)
    · injection h with h; exact .inl h.symm

/-- A property that a command's taking keeps, if the plain steps of the taking and the command's own rule keep it. -/
theorem State.takeCommand_keeps {s t : State} {name : CommandName} {body : Command → State → State} (P : State → Prop)
    (hs : P s) (hdiscard : ∀ u : State, P u → P u.discardForeign)
    (hrefused : ∀ c rest r, s.control.queue = c :: rest → s.control.monitor.length < 16 → P (s.popCommand.reply c r []))
    (hbody : ∀ c rest, s.control.queue = c :: rest → s.control.foreign c = false → s.control.monitor.length < 16 →
      P (body c s.popCommand))
    (h : s.takeCommand name body = .next t) : P t := by
  obtain rfl | ⟨c, rest, hq, hf, hm, -, rfl | rfl | rfl⟩ := State.takeCommand_cases h
  · exact hs
  · exact hdiscard _ (hrefused c rest _ hq hm)
  · exact hdiscard _ (hrefused c rest _ hq hm)
  · exact hdiscard _ (hbody c rest hq hf hm)

/-! ### The commands' own rules -/

/-- What STATUS can change. -/
@[simp] theorem statusBody_frame (c : Command) (s : State) :
    (statusBody c s).clock = s.clock ∧ (statusBody c s).nf = s.nf ∧ (statusBody c s).lf = s.lf ∧
    (statusBody c s).laneMap = s.laneMap ∧ (statusBody c s).continuity = s.continuity ∧
    (statusBody c s).groups = s.groups ∧ (statusBody c s).watch = s.watch ∧ (statusBody c s).plan = s.plan ∧
    (statusBody c s).queue = s.queue ∧ (statusBody c s).emitter = s.emitter ∧ (statusBody c s).switch = s.switch ∧
    (statusBody c s).owed = s.owed ∧ (statusBody c s).store = s.store ∧ (statusBody c s).clips = s.clips ∧
    (statusBody c s).clipLanesOut = s.clipLanesOut ∧ (statusBody c s).clipUnexpected = s.clipUnexpected ∧
    (statusBody c s).events = s.events ∧ (statusBody c s).order = s.order ∧ (statusBody c s).draws = s.draws ∧
    (statusBody c s).pending = s.pending :=
  by simp [statusBody]

/-- What STATS can change. -/
@[simp] theorem statsBody_frame (c : Command) (s : State) :
    (statsBody c s).clock = s.clock ∧ (statsBody c s).laneMap = s.laneMap ∧ (statsBody c s).continuity = s.continuity ∧
    (statsBody c s).groups = s.groups ∧ (statsBody c s).plan = s.plan ∧ (statsBody c s).queue = s.queue ∧
    (statsBody c s).switch = s.switch ∧ (statsBody c s).owed = s.owed ∧ (statsBody c s).store = s.store ∧
    (statsBody c s).clips = s.clips ∧ (statsBody c s).events = s.events ∧ (statsBody c s).order = s.order ∧
    (statsBody c s).draws = s.draws ∧ (statsBody c s).pending = s.pending :=
  by unfold statsBody; (repeat' split) <;> simp

/-- What RESTART can change: the Site Clock, the plans and trim and the lane map stay. -/
@[simp] theorem restartBody_frame (c : Command) (s : State) :
    (restartBody c s).clock = s.clock ∧ (restartBody c s).laneMap = s.laneMap ∧
    (restartBody c s).continuity = s.continuity ∧ (restartBody c s).plan = s.plan ∧
    (restartBody c s).clipLanesOut = s.clipLanesOut ∧ (restartBody c s).clipUnexpected = s.clipUnexpected ∧
    (restartBody c s).draws = s.draws ∧ (restartBody c s).pending = s.pending :=
  by simp [restartBody]

/-- What the entries of a load can change. -/
@[simp] theorem State.loadEntries_frame (s : State) (i a : Nat) (l : List RawEntry) :
    ((s.loadEntries i a l).1).clock = s.clock ∧ ((s.loadEntries i a l).1).nf = s.nf ∧
    ((s.loadEntries i a l).1).lf = s.lf ∧ ((s.loadEntries i a l).1).groups = s.groups ∧
    ((s.loadEntries i a l).1).watch = s.watch ∧ ((s.loadEntries i a l).1).plan = s.plan ∧
    ((s.loadEntries i a l).1).queue = s.queue ∧ ((s.loadEntries i a l).1).emitter = s.emitter ∧
    ((s.loadEntries i a l).1).switch = s.switch ∧ ((s.loadEntries i a l).1).owed = s.owed ∧
    ((s.loadEntries i a l).1).store = s.store ∧ ((s.loadEntries i a l).1).clips = s.clips ∧
    ((s.loadEntries i a l).1).clipLanesOut = s.clipLanesOut ∧
    ((s.loadEntries i a l).1).clipUnexpected = s.clipUnexpected ∧ ((s.loadEntries i a l).1).events = s.events ∧
    ((s.loadEntries i a l).1).order = s.order ∧ ((s.loadEntries i a l).1).control = s.control ∧
    ((s.loadEntries i a l).1).draws = s.draws ∧ ((s.loadEntries i a l).1).pending = s.pending :=
  by 
  induction l generalizing s i a with
  | nil => simp [State.loadEntries]
  | cons x l ih => unfold State.loadEntries; split <;> simp [ih]

/-- What LANE MAP LOAD can change. -/
@[simp] theorem laneMapLoadBody_frame (c : Command) (s : State) :
    (laneMapLoadBody c s).clock = s.clock ∧ (laneMapLoadBody c s).nf = s.nf ∧ (laneMapLoadBody c s).lf = s.lf ∧
    (laneMapLoadBody c s).groups = s.groups ∧ (laneMapLoadBody c s).watch = s.watch ∧
    (laneMapLoadBody c s).plan = s.plan ∧ (laneMapLoadBody c s).queue = s.queue ∧
    (laneMapLoadBody c s).emitter = s.emitter ∧ (laneMapLoadBody c s).switch = s.switch ∧
    (laneMapLoadBody c s).owed = s.owed ∧ (laneMapLoadBody c s).store = s.store ∧ (laneMapLoadBody c s).clips = s.clips ∧
    (laneMapLoadBody c s).clipLanesOut = s.clipLanesOut ∧ (laneMapLoadBody c s).clipUnexpected = s.clipUnexpected ∧
    (laneMapLoadBody c s).events = s.events ∧ (laneMapLoadBody c s).order = s.order ∧
    (laneMapLoadBody c s).draws = s.draws ∧ (laneMapLoadBody c s).pending = s.pending :=
  by 
  unfold laneMapLoadBody
  have h := State.loadEntries_frame s c.firstIndex 0 c.rawEntries
  (repeat' split) <;> simp_all

/-- What LANE MAP READ can change. -/
@[simp] theorem laneMapReadBody_frame (c : Command) (s : State) :
    (laneMapReadBody c s).clock = s.clock ∧ (laneMapReadBody c s).nf = s.nf ∧ (laneMapReadBody c s).lf = s.lf ∧
    (laneMapReadBody c s).laneMap = s.laneMap ∧ (laneMapReadBody c s).continuity = s.continuity ∧
    (laneMapReadBody c s).groups = s.groups ∧ (laneMapReadBody c s).watch = s.watch ∧
    (laneMapReadBody c s).plan = s.plan ∧ (laneMapReadBody c s).queue = s.queue ∧
    (laneMapReadBody c s).emitter = s.emitter ∧ (laneMapReadBody c s).switch = s.switch ∧
    (laneMapReadBody c s).owed = s.owed ∧ (laneMapReadBody c s).store = s.store ∧ (laneMapReadBody c s).clips = s.clips ∧
    (laneMapReadBody c s).clipLanesOut = s.clipLanesOut ∧ (laneMapReadBody c s).clipUnexpected = s.clipUnexpected ∧
    (laneMapReadBody c s).events = s.events ∧ (laneMapReadBody c s).order = s.order ∧
    (laneMapReadBody c s).draws = s.draws ∧ (laneMapReadBody c s).pending = s.pending :=
  by unfold laneMapReadBody; dsimp only; (repeat' split) <;> simp

/-- What GROUP SET can change. -/
@[simp] theorem groupSetBody_frame (c : Command) (s : State) :
    (groupSetBody c s).clock = s.clock ∧ (groupSetBody c s).nf = s.nf ∧ (groupSetBody c s).lf = s.lf ∧
    (groupSetBody c s).laneMap = s.laneMap ∧ (groupSetBody c s).continuity = s.continuity ∧
    (groupSetBody c s).watch = s.watch ∧ (groupSetBody c s).plan = s.plan ∧ (groupSetBody c s).queue = s.queue ∧
    (groupSetBody c s).emitter = s.emitter ∧ (groupSetBody c s).switch = s.switch ∧ (groupSetBody c s).owed = s.owed ∧
    (groupSetBody c s).store = s.store ∧ (groupSetBody c s).clips = s.clips ∧
    (groupSetBody c s).clipLanesOut = s.clipLanesOut ∧ (groupSetBody c s).clipUnexpected = s.clipUnexpected ∧
    (groupSetBody c s).events = s.events ∧ (groupSetBody c s).order = s.order ∧ (groupSetBody c s).draws = s.draws ∧
    (groupSetBody c s).pending = s.pending :=
  by unfold groupSetBody; dsimp only; (repeat' split) <;> simp

/-- What WATCH SET can change. -/
@[simp] theorem watchSetBody_frame (c : Command) (s : State) :
    (watchSetBody c s).clock = s.clock ∧ (watchSetBody c s).nf = s.nf ∧ (watchSetBody c s).lf = s.lf ∧
    (watchSetBody c s).laneMap = s.laneMap ∧ (watchSetBody c s).continuity = s.continuity ∧
    (watchSetBody c s).groups = s.groups ∧ (watchSetBody c s).plan = s.plan ∧ (watchSetBody c s).queue = s.queue ∧
    (watchSetBody c s).emitter = s.emitter ∧ (watchSetBody c s).switch = s.switch ∧ (watchSetBody c s).owed = s.owed ∧
    (watchSetBody c s).store = s.store ∧ (watchSetBody c s).clips = s.clips ∧
    (watchSetBody c s).clipLanesOut = s.clipLanesOut ∧ (watchSetBody c s).clipUnexpected = s.clipUnexpected ∧
    (watchSetBody c s).events = s.events ∧ (watchSetBody c s).order = s.order ∧ (watchSetBody c s).draws = s.draws ∧
    (watchSetBody c s).pending = s.pending :=
  by unfold watchSetBody; (repeat' split) <;> simp

/-- What SITE SET can change. -/
@[simp] theorem siteSetBody_frame (c : Command) (s : State) :
    (siteSetBody c s).clock = s.clock ∧ (siteSetBody c s).nf = s.nf ∧ (siteSetBody c s).lf = s.lf ∧
    (siteSetBody c s).laneMap = s.laneMap ∧ (siteSetBody c s).continuity = s.continuity ∧
    (siteSetBody c s).watch = s.watch ∧ (siteSetBody c s).queue = s.queue ∧ (siteSetBody c s).switch = s.switch ∧
    (siteSetBody c s).owed = s.owed ∧ (siteSetBody c s).clipLanesOut = s.clipLanesOut ∧
    (siteSetBody c s).clipUnexpected = s.clipUnexpected ∧ (siteSetBody c s).draws = s.draws ∧
    (siteSetBody c s).pending = s.pending :=
  by unfold siteSetBody; dsimp only; split <;> simp

/-- What SITE SET leaves: both settings with the reply, and behind a trim that changes the arming it brings about (R62, R128). -/
theorem siteSetBody_result (c : Command) (s : State) :
    let t : State := { s with
      plan := { s.plan with trim := clampTrim c.trimArg }
      emitter := { s.emitter with lateAllowance := min 255 c.lateArg } }
    let r := t.reply c .ok (bytesTrim (clampTrim c.trimArg) ++ bytes2 (min 255 c.lateArg))
    (clampTrim c.trimArg = s.plan.trim → siteSetBody c s = r) ∧
    (clampTrim c.trimArg ≠ s.plan.trim → siteSetBody c s = r.armDue) :=
  ⟨fun h => if_pos h, fun h => if_neg h⟩

/-- What CLOCK SET can change. -/
@[simp] theorem clockSetBody_frame (c : Command) (s : State) :
    (clockSetBody c s).nf = s.nf ∧ (clockSetBody c s).lf = s.lf ∧ (clockSetBody c s).laneMap = s.laneMap ∧
    (clockSetBody c s).continuity = s.continuity ∧ (clockSetBody c s).groups = s.groups ∧
    (clockSetBody c s).watch = s.watch ∧ (clockSetBody c s).plan = s.plan ∧ (clockSetBody c s).queue = s.queue ∧
    (clockSetBody c s).emitter = s.emitter ∧ (clockSetBody c s).switch = s.switch ∧ (clockSetBody c s).owed = s.owed ∧
    (clockSetBody c s).store = s.store ∧ (clockSetBody c s).clips = s.clips ∧
    (clockSetBody c s).clipLanesOut = s.clipLanesOut ∧ (clockSetBody c s).clipUnexpected = s.clipUnexpected ∧
    (clockSetBody c s).events = s.events ∧ (clockSetBody c s).order = s.order ∧ (clockSetBody c s).draws = s.draws ∧
    (clockSetBody c s).pending = s.pending :=
  by simp [clockSetBody]

/-- What PARTITION can change. -/
@[simp] theorem partitionBody_frame (c : Command) (s : State) :
    (partitionBody c s).clock = s.clock ∧ (partitionBody c s).nf = s.nf ∧ (partitionBody c s).lf = s.lf ∧
    (partitionBody c s).laneMap = s.laneMap ∧ (partitionBody c s).continuity = s.continuity ∧
    (partitionBody c s).groups = s.groups ∧ (partitionBody c s).watch = s.watch ∧ (partitionBody c s).plan = s.plan ∧
    (partitionBody c s).queue = s.queue ∧ (partitionBody c s).emitter = s.emitter ∧
    (partitionBody c s).switch = s.switch ∧ (partitionBody c s).owed = s.owed ∧ (partitionBody c s).clips = s.clips ∧
    (partitionBody c s).clipLanesOut = s.clipLanesOut ∧ (partitionBody c s).clipUnexpected = s.clipUnexpected ∧
    (partitionBody c s).events = s.events ∧ (partitionBody c s).order = s.order ∧ (partitionBody c s).draws = s.draws ∧
    (partitionBody c s).pending = s.pending :=
  by unfold partitionBody; (repeat' split) <;> simp

/-- What EMIT START can change. -/
@[simp] theorem emitStartBody_frame (c : Command) (s : State) :
    (emitStartBody c s).clock = s.clock ∧ (emitStartBody c s).nf = s.nf ∧ (emitStartBody c s).lf = s.lf ∧
    (emitStartBody c s).laneMap = s.laneMap ∧ (emitStartBody c s).continuity = s.continuity ∧
    (emitStartBody c s).groups = s.groups ∧ (emitStartBody c s).watch = s.watch ∧ (emitStartBody c s).plan = s.plan ∧
    (emitStartBody c s).queue = s.queue ∧ (emitStartBody c s).switch = s.switch ∧ (emitStartBody c s).owed = s.owed ∧
    (emitStartBody c s).store = s.store ∧ (emitStartBody c s).clips = s.clips ∧
    (emitStartBody c s).clipLanesOut = s.clipLanesOut ∧ (emitStartBody c s).clipUnexpected = s.clipUnexpected ∧
    (emitStartBody c s).events = s.events ∧ (emitStartBody c s).order = s.order ∧ (emitStartBody c s).draws = s.draws ∧
    (emitStartBody c s).pending = s.pending :=
  by unfold emitStartBody; (repeat' split) <;> simp

/-- What EMIT STOP can change. -/
@[simp] theorem emitStopBody_frame (c : Command) (s : State) :
    (emitStopBody c s).clock = s.clock ∧ (emitStopBody c s).nf = s.nf ∧ (emitStopBody c s).lf = s.lf ∧
    (emitStopBody c s).laneMap = s.laneMap ∧ (emitStopBody c s).continuity = s.continuity ∧
    (emitStopBody c s).groups = s.groups ∧ (emitStopBody c s).watch = s.watch ∧ (emitStopBody c s).plan = s.plan ∧
    (emitStopBody c s).queue = s.queue ∧ (emitStopBody c s).switch = s.switch ∧ (emitStopBody c s).owed = s.owed ∧
    (emitStopBody c s).store = s.store ∧ (emitStopBody c s).clips = s.clips ∧
    (emitStopBody c s).clipLanesOut = s.clipLanesOut ∧ (emitStopBody c s).clipUnexpected = s.clipUnexpected ∧
    (emitStopBody c s).events = s.events ∧ (emitStopBody c s).order = s.order ∧ (emitStopBody c s).draws = s.draws ∧
    (emitStopBody c s).pending = s.pending :=
  by unfold emitStopBody; (repeat' split) <;> simp

/-- What CLIP OPEN can change. -/
@[simp] theorem clipOpenBody_frame (c : Command) (s : State) :
    (clipOpenBody c s).clock = s.clock ∧ (clipOpenBody c s).nf = s.nf ∧ (clipOpenBody c s).lf = s.lf ∧
    (clipOpenBody c s).laneMap = s.laneMap ∧ (clipOpenBody c s).continuity = s.continuity ∧
    (clipOpenBody c s).groups = s.groups ∧ (clipOpenBody c s).watch = s.watch ∧ (clipOpenBody c s).plan = s.plan ∧
    (clipOpenBody c s).queue = s.queue ∧ (clipOpenBody c s).emitter = s.emitter ∧ (clipOpenBody c s).switch = s.switch ∧
    (clipOpenBody c s).owed = s.owed ∧ (clipOpenBody c s).store = s.store ∧
    (clipOpenBody c s).clipLanesOut = s.clipLanesOut ∧ (clipOpenBody c s).clipUnexpected = s.clipUnexpected ∧
    (clipOpenBody c s).events = s.events ∧ (clipOpenBody c s).order = s.order ∧ (clipOpenBody c s).draws = s.draws ∧
    (clipOpenBody c s).pending = s.pending :=
  by unfold clipOpenBody; dsimp only; (repeat' split) <;> simp

/-- What CLIP CLOSE can change. -/
@[simp] theorem clipCloseBody_frame (c : Command) (s : State) :
    (clipCloseBody c s).clock = s.clock ∧ (clipCloseBody c s).nf = s.nf ∧ (clipCloseBody c s).lf = s.lf ∧
    (clipCloseBody c s).laneMap = s.laneMap ∧ (clipCloseBody c s).continuity = s.continuity ∧
    (clipCloseBody c s).groups = s.groups ∧ (clipCloseBody c s).watch = s.watch ∧ (clipCloseBody c s).plan = s.plan ∧
    (clipCloseBody c s).queue = s.queue ∧ (clipCloseBody c s).emitter = s.emitter ∧
    (clipCloseBody c s).switch = s.switch ∧ (clipCloseBody c s).owed = s.owed ∧
    (clipCloseBody c s).clipLanesOut = s.clipLanesOut ∧ (clipCloseBody c s).clipUnexpected = s.clipUnexpected ∧
    (clipCloseBody c s).events = s.events ∧ (clipCloseBody c s).order = s.order ∧ (clipCloseBody c s).draws = s.draws ∧
    (clipCloseBody c s).pending = s.pending :=
  by unfold clipCloseBody; dsimp only; (repeat' split) <;> simp

/-- What CLIP REMOVE can change. -/
@[simp] theorem clipRemoveBody_frame (c : Command) (s : State) :
    (clipRemoveBody c s).clock = s.clock ∧ (clipRemoveBody c s).nf = s.nf ∧ (clipRemoveBody c s).lf = s.lf ∧
    (clipRemoveBody c s).laneMap = s.laneMap ∧ (clipRemoveBody c s).continuity = s.continuity ∧
    (clipRemoveBody c s).groups = s.groups ∧ (clipRemoveBody c s).watch = s.watch ∧ (clipRemoveBody c s).plan = s.plan ∧
    (clipRemoveBody c s).queue = s.queue ∧ (clipRemoveBody c s).emitter = s.emitter ∧
    (clipRemoveBody c s).switch = s.switch ∧ (clipRemoveBody c s).owed = s.owed ∧
    (clipRemoveBody c s).clipLanesOut = s.clipLanesOut ∧ (clipRemoveBody c s).clipUnexpected = s.clipUnexpected ∧
    (clipRemoveBody c s).events = s.events ∧ (clipRemoveBody c s).order = s.order ∧
    (clipRemoveBody c s).draws = s.draws ∧ (clipRemoveBody c s).pending = s.pending :=
  by unfold clipRemoveBody; dsimp only; (repeat' split) <;> simp

/-- What CLIP QUERY can change. -/
@[simp] theorem clipQueryBody_frame (c : Command) (s : State) :
    (clipQueryBody c s).clock = s.clock ∧ (clipQueryBody c s).nf = s.nf ∧ (clipQueryBody c s).lf = s.lf ∧
    (clipQueryBody c s).laneMap = s.laneMap ∧ (clipQueryBody c s).continuity = s.continuity ∧
    (clipQueryBody c s).groups = s.groups ∧ (clipQueryBody c s).watch = s.watch ∧ (clipQueryBody c s).plan = s.plan ∧
    (clipQueryBody c s).queue = s.queue ∧ (clipQueryBody c s).emitter = s.emitter ∧
    (clipQueryBody c s).switch = s.switch ∧ (clipQueryBody c s).owed = s.owed ∧ (clipQueryBody c s).store = s.store ∧
    (clipQueryBody c s).clips = s.clips ∧ (clipQueryBody c s).clipLanesOut = s.clipLanesOut ∧
    (clipQueryBody c s).clipUnexpected = s.clipUnexpected ∧ (clipQueryBody c s).events = s.events ∧
    (clipQueryBody c s).order = s.order ∧ (clipQueryBody c s).draws = s.draws ∧ (clipQueryBody c s).pending = s.pending :=
  by unfold clipQueryBody; (repeat' split) <;> simp

/-- What SPLICE ADD can change. -/
@[simp] theorem spliceAddBody_frame (c : Command) (s : State) :
    (spliceAddBody c s).clock = s.clock ∧ (spliceAddBody c s).nf = s.nf ∧ (spliceAddBody c s).lf = s.lf ∧
    (spliceAddBody c s).laneMap = s.laneMap ∧ (spliceAddBody c s).continuity = s.continuity ∧
    (spliceAddBody c s).groups = s.groups ∧ (spliceAddBody c s).watch = s.watch ∧ (spliceAddBody c s).plan = s.plan ∧
    (spliceAddBody c s).queue = s.queue ∧ (spliceAddBody c s).emitter = s.emitter ∧
    (spliceAddBody c s).switch = s.switch ∧ (spliceAddBody c s).owed = s.owed ∧ (spliceAddBody c s).store = s.store ∧
    (spliceAddBody c s).clips = s.clips ∧ (spliceAddBody c s).clipLanesOut = s.clipLanesOut ∧
    (spliceAddBody c s).clipUnexpected = s.clipUnexpected ∧ (spliceAddBody c s).draws = s.draws ∧
    (spliceAddBody c s).pending = s.pending :=
  by unfold spliceAddBody; dsimp only; (repeat' split) <;> simp

/-- What SPLICE CANCEL can change. -/
@[simp] theorem spliceCancelBody_frame (c : Command) (s : State) :
    (spliceCancelBody c s).clock = s.clock ∧ (spliceCancelBody c s).nf = s.nf ∧ (spliceCancelBody c s).lf = s.lf ∧
    (spliceCancelBody c s).laneMap = s.laneMap ∧ (spliceCancelBody c s).continuity = s.continuity ∧
    (spliceCancelBody c s).watch = s.watch ∧ (spliceCancelBody c s).plan = s.plan ∧
    (spliceCancelBody c s).queue = s.queue ∧ (spliceCancelBody c s).emitter = s.emitter ∧
    (spliceCancelBody c s).switch = s.switch ∧ (spliceCancelBody c s).owed = s.owed ∧
    (spliceCancelBody c s).clipLanesOut = s.clipLanesOut ∧ (spliceCancelBody c s).clipUnexpected = s.clipUnexpected ∧
    (spliceCancelBody c s).draws = s.draws ∧ (spliceCancelBody c s).pending = s.pending :=
  by unfold spliceCancelBody; dsimp only; (repeat' split) <;> simp

/-- What SPLICE QUERY can change. -/
@[simp] theorem spliceQueryBody_frame (c : Command) (s : State) :
    (spliceQueryBody c s).clock = s.clock ∧ (spliceQueryBody c s).nf = s.nf ∧ (spliceQueryBody c s).lf = s.lf ∧
    (spliceQueryBody c s).laneMap = s.laneMap ∧ (spliceQueryBody c s).continuity = s.continuity ∧
    (spliceQueryBody c s).groups = s.groups ∧ (spliceQueryBody c s).watch = s.watch ∧
    (spliceQueryBody c s).plan = s.plan ∧ (spliceQueryBody c s).queue = s.queue ∧
    (spliceQueryBody c s).emitter = s.emitter ∧ (spliceQueryBody c s).switch = s.switch ∧
    (spliceQueryBody c s).owed = s.owed ∧ (spliceQueryBody c s).store = s.store ∧ (spliceQueryBody c s).clips = s.clips ∧
    (spliceQueryBody c s).clipLanesOut = s.clipLanesOut ∧ (spliceQueryBody c s).clipUnexpected = s.clipUnexpected ∧
    (spliceQueryBody c s).events = s.events ∧ (spliceQueryBody c s).order = s.order ∧
    (spliceQueryBody c s).draws = s.draws ∧ (spliceQueryBody c s).pending = s.pending :=
  by unfold spliceQueryBody; (repeat' split) <;> simp

end Sys2Proof.Machine
end

