-- ==== Sys2Proof/Laws/Steps.lean ====
section
/-! SUPPORT. For each row of the table, the blocks of the part it leaves as they are. -/

namespace Sys2Proof.Machine

/-- What COUNTED_EDGE can change. -/
theorem execCountedEdge_frame {s t : State} (h : execCountedEdge s = .next t) :
    t.nf = s.nf ∧ t.lf = s.lf ∧ t.laneMap = s.laneMap ∧ t.continuity = s.continuity ∧ t.clipLanesOut = s.clipLanesOut ∧
    t.clipUnexpected = s.clipUnexpected ∧ t.pending = s.pending := by
  unfold execCountedEdge at h
  (repeat' split at h) <;> (injection h with h; subst h; simp)

/-- What EPOCH_COUNTER_TICK can change. -/
theorem execEpochCounterTick_frame {s t : State} (h : execEpochCounterTick s = .next t) :
    t.clock = s.clock ∧ t.nf = s.nf ∧ t.lf = s.lf ∧ t.laneMap = s.laneMap ∧ t.continuity = s.continuity ∧
    t.groups = s.groups ∧ t.watch = s.watch ∧ t.plan = s.plan ∧ t.queue = s.queue ∧ t.emitter = s.emitter ∧
    t.switch = s.switch ∧ t.owed = s.owed ∧ t.store = s.store ∧ t.clips = s.clips ∧ t.clipLanesOut = s.clipLanesOut ∧
    t.clipUnexpected = s.clipUnexpected ∧ t.events = s.events ∧ t.order = s.order ∧ t.draws = s.draws ∧
    t.pending = s.pending := by
  unfold execEpochCounterTick at h
  injection h with h; subst h; simp

/-- What SECOND_BOUNDARY can change. -/
theorem execSecondBoundary_frame {s t : State} (h : execSecondBoundary s = .next t) :
    t.nf = s.nf ∧ t.lf = s.lf ∧ t.laneMap = s.laneMap ∧ t.continuity = s.continuity ∧ t.clipLanesOut = s.clipLanesOut ∧
    t.clipUnexpected = s.clipUnexpected ∧ t.pending = s.pending := by
  unfold execSecondBoundary at h
  (repeat' split at h) <;> (injection h with h; subst h; simp)

/-- What TIME_CODE_MESSAGE can change. -/
theorem execTimeCodeMessage_frame {s t : State} {b : Bool} {w : Word32} (h : execTimeCodeMessage b w s = .next t) :
    t.nf = s.nf ∧ t.lf = s.lf ∧ t.laneMap = s.laneMap ∧ t.continuity = s.continuity ∧ t.groups = s.groups ∧
    t.watch = s.watch ∧ t.plan = s.plan ∧ t.queue = s.queue ∧ t.emitter = s.emitter ∧ t.switch = s.switch ∧
    t.owed = s.owed ∧ t.store = s.store ∧ t.clips = s.clips ∧ t.clipLanesOut = s.clipLanesOut ∧
    t.clipUnexpected = s.clipUnexpected ∧ t.events = s.events ∧ t.order = s.order ∧ t.control = s.control ∧
    t.draws = s.draws ∧ t.pending = s.pending := by
  unfold execTimeCodeMessage at h
  (repeat' split at h) <;> (injection h with h; subst h; simp)

/-- What PULSE can change. -/
theorem execPulse_frame {s t : State} (h : execPulse s = .next t) :
    t.nf = s.nf ∧ t.lf = s.lf ∧ t.laneMap = s.laneMap ∧ t.continuity = s.continuity ∧ t.groups = s.groups ∧
    t.watch = s.watch ∧ t.plan = s.plan ∧ t.queue = s.queue ∧ t.emitter = s.emitter ∧ t.switch = s.switch ∧
    t.owed = s.owed ∧ t.store = s.store ∧ t.clips = s.clips ∧ t.clipLanesOut = s.clipLanesOut ∧
    t.clipUnexpected = s.clipUnexpected ∧ t.events = s.events ∧ t.order = s.order ∧ t.control = s.control ∧
    t.draws = s.draws ∧ t.pending = s.pending := by
  unfold execPulse at h
  injection h with h; subst h; simp

/-- What VERDICT can change. -/
theorem execVerdict_frame {s t : State} (h : execVerdict s = .next t) :
    t.nf = s.nf ∧ t.lf = s.lf ∧ t.laneMap = s.laneMap ∧ t.continuity = s.continuity ∧ t.clipLanesOut = s.clipLanesOut ∧
    t.clipUnexpected = s.clipUnexpected ∧ t.pending = s.pending := by
  unfold execVerdict at h
  dsimp only at h
  (repeat' split at h) <;> (injection h with h; subst h; simp)

/-- What FREQUENCY_LOSS can change. -/
theorem execFrequencyLoss_frame {s t : State} (h : execFrequencyLoss s = .next t) :
    t.nf = s.nf ∧ t.lf = s.lf ∧ t.laneMap = s.laneMap ∧ t.continuity = s.continuity ∧ t.groups = s.groups ∧
    t.watch = s.watch ∧ t.plan = s.plan ∧ t.queue = s.queue ∧ t.emitter = s.emitter ∧ t.switch = s.switch ∧
    t.owed = s.owed ∧ t.store = s.store ∧ t.clips = s.clips ∧ t.clipLanesOut = s.clipLanesOut ∧
    t.clipUnexpected = s.clipUnexpected ∧ t.events = s.events ∧ t.order = s.order ∧ t.draws = s.draws ∧
    t.pending = s.pending := by
  unfold execFrequencyLoss at h
  injection h with h; subst h; simp

/-- What FREQUENCY_RETURN can change. -/
theorem execFrequencyReturn_frame {s t : State} (h : execFrequencyReturn s = .next t) :
    t.nf = s.nf ∧ t.lf = s.lf ∧ t.laneMap = s.laneMap ∧ t.continuity = s.continuity ∧ t.groups = s.groups ∧
    t.watch = s.watch ∧ t.plan = s.plan ∧ t.queue = s.queue ∧ t.emitter = s.emitter ∧ t.switch = s.switch ∧
    t.owed = s.owed ∧ t.store = s.store ∧ t.clips = s.clips ∧ t.clipLanesOut = s.clipLanesOut ∧
    t.clipUnexpected = s.clipUnexpected ∧ t.events = s.events ∧ t.order = s.order ∧ t.control = s.control ∧
    t.draws = s.draws ∧ t.pending = s.pending := by
  unfold execFrequencyReturn at h
  injection h with h; subst h; simp

/-- What HUNT_CANDIDATE can change. -/
theorem execHuntCandidate_frame {s t : State} {p : Port} {b : Byte} (h : execHuntCandidate p b s = .next t) :
    t.clock = s.clock ∧ t.laneMap = s.laneMap ∧ t.continuity = s.continuity ∧ t.groups = s.groups ∧ t.watch = s.watch ∧
    t.plan = s.plan ∧ t.queue = s.queue ∧ t.emitter = s.emitter ∧ t.switch = s.switch ∧ t.owed = s.owed ∧
    t.store = s.store ∧ t.clips = s.clips ∧ t.clipLanesOut = s.clipLanesOut ∧ t.clipUnexpected = s.clipUnexpected ∧
    t.events = s.events ∧ t.order = s.order ∧ t.control = s.control ∧ t.draws = s.draws ∧ t.pending = s.pending := by
  unfold execHuntCandidate at h
  dsimp only at h
  (repeat' split at h) <;> (injection h with h; subst h; simp)

/-- What PRESYNC_HEADER can change. -/
theorem execPresyncHeader_frame {s t : State} {p : Port} {b : List Byte} (h : execPresyncHeader p b s = .next t) :
    t.clock = s.clock ∧ t.laneMap = s.laneMap ∧ t.continuity = s.continuity ∧ t.groups = s.groups ∧ t.watch = s.watch ∧
    t.plan = s.plan ∧ t.queue = s.queue ∧ t.emitter = s.emitter ∧ t.switch = s.switch ∧ t.owed = s.owed ∧
    t.store = s.store ∧ t.clips = s.clips ∧ t.clipLanesOut = s.clipLanesOut ∧ t.clipUnexpected = s.clipUnexpected ∧
    t.events = s.events ∧ t.order = s.order ∧ t.draws = s.draws ∧ t.pending = s.pending := by
  unfold execPresyncHeader at h
  dsimp only at h
  (repeat' split at h) <;> (injection h with h; subst h; simp)

/-- What SYNC_HEADER can change. -/
theorem execSyncHeader_frame {s t : State} {p : Port} {b : List Byte} (h : execSyncHeader p b s = .next t) :
    t.clock = s.clock ∧ t.laneMap = s.laneMap ∧ t.continuity = s.continuity ∧ t.groups = s.groups ∧ t.watch = s.watch ∧
    t.plan = s.plan ∧ t.queue = s.queue ∧ t.emitter = s.emitter ∧ t.switch = s.switch ∧ t.owed = s.owed ∧
    t.store = s.store ∧ t.clips = s.clips ∧ t.clipLanesOut = s.clipLanesOut ∧ t.clipUnexpected = s.clipUnexpected ∧
    t.events = s.events ∧ t.order = s.order ∧ t.draws = s.draws ∧ t.pending = s.pending := by
  unfold execSyncHeader at h
  dsimp only at h
  (repeat' split at h) <;> (injection h with h; subst h; simp)

/-- What CELL_DELIVERY can change. -/
theorem execCellDelivery_frame {s t : State} {p : Port} {b : List Byte} (h : execCellDelivery p b s = .next t) :
    t.clock = s.clock ∧ t.laneMap = s.laneMap ∧ t.continuity = s.continuity ∧ t.groups = s.groups ∧ t.watch = s.watch ∧
    t.plan = s.plan ∧ t.queue = s.queue ∧ t.emitter = s.emitter ∧ t.switch = s.switch ∧ t.owed = s.owed ∧
    t.store = s.store ∧ t.clips = s.clips ∧ t.clipLanesOut = s.clipLanesOut ∧ t.clipUnexpected = s.clipUnexpected ∧
    t.events = s.events ∧ t.order = s.order ∧ t.control = s.control ∧ t.draws = s.draws ∧ t.pending = s.pending := by
  unfold execCellDelivery at h
  dsimp only at h
  (repeat' split at h) <;> (injection h with h; subst h; simp)

/-- What INTAKE_HEAD_HANDOFF can change. -/
theorem execIntakeHeadHandoff_frame {s t : State} {p : Port} (h : execIntakeHeadHandoff p s = .next t) :
    t.clock = s.clock ∧ t.laneMap = s.laneMap ∧ t.groups = s.groups ∧ t.switch = s.switch ∧ t.owed = s.owed ∧
    t.events = s.events ∧ t.order = s.order ∧ t.draws = s.draws ∧ t.pending = s.pending := by
  unfold execIntakeHeadHandoff at h
  (repeat' split at h) <;> (injection h with h; subst h; simp)

/-- What CELL_STORE_ACCESS_END can change. -/
theorem execCellStoreAccessEnd_frame {s t : State} (h : execCellStoreAccessEnd s = .next t) :
    t.clock = s.clock ∧ t.laneMap = s.laneMap ∧ t.continuity = s.continuity ∧ t.groups = s.groups ∧ t.plan = s.plan ∧
    t.switch = s.switch ∧ t.owed = s.owed ∧ t.clipLanesOut = s.clipLanesOut ∧ t.events = s.events ∧ t.order = s.order ∧
    t.control = s.control ∧ t.draws = s.draws ∧ t.pending = s.pending := by
  unfold execCellStoreAccessEnd at h
  (repeat' split at h) <;> first | (injection h with h; subst h; simp) | cases h

/-- What EMITTER_STAGING_READ can change. -/
theorem execEmitterStagingRead_frame {s t : State} {c : StageChoice} (h : execEmitterStagingRead c s = .next t) :
    t.clock = s.clock ∧ t.laneMap = s.laneMap ∧ t.continuity = s.continuity ∧ t.groups = s.groups ∧ t.plan = s.plan ∧
    t.switch = s.switch ∧ t.owed = s.owed ∧ t.clipLanesOut = s.clipLanesOut ∧ t.events = s.events ∧ t.order = s.order ∧
    t.control = s.control ∧ t.draws = s.draws ∧ t.pending = s.pending := by
  unfold execEmitterStagingRead at h
  (repeat' split at h) <;> (injection h with h; subst h; simp)

/-- What SLOT_START can change. -/
theorem execSlotStart_frame {s t : State} (h : execSlotStart s = .next t) :
    t.clock = s.clock ∧ t.nf = s.nf ∧ t.lf = s.lf ∧ t.laneMap = s.laneMap ∧ t.continuity = s.continuity ∧
    t.plan = s.plan ∧ t.clipLanesOut = s.clipLanesOut ∧ t.clipUnexpected = s.clipUnexpected ∧ t.draws = s.draws ∧
    t.pending = s.pending := by
  unfold execSlotStart at h
  (repeat' split at h) <;> (injection h with h; subst h; simp)

/-- What EVENT_ARMING can change. -/
theorem execEventArming_frame {s t : State} (h : execEventArming s = .next t) :
    t.clock = s.clock ∧ t.nf = s.nf ∧ t.lf = s.lf ∧ t.laneMap = s.laneMap ∧ t.continuity = s.continuity ∧
    t.watch = s.watch ∧ t.plan = s.plan ∧ t.queue = s.queue ∧ t.emitter = s.emitter ∧ t.switch = s.switch ∧
    t.owed = s.owed ∧ t.clipLanesOut = s.clipLanesOut ∧ t.clipUnexpected = s.clipUnexpected ∧ t.draws = s.draws ∧
    t.pending = s.pending := by
  unfold execEventArming at h
  injection h with h; subst h; simp

/-- What MONITOR_CELL_SENT can change. -/
theorem execMonitorCellSent_frame {s t : State} (h : execMonitorCellSent s = .next t) :
    t.clock = s.clock ∧ t.nf = s.nf ∧ t.lf = s.lf ∧ t.laneMap = s.laneMap ∧ t.continuity = s.continuity ∧
    t.groups = s.groups ∧ t.watch = s.watch ∧ t.plan = s.plan ∧ t.queue = s.queue ∧ t.emitter = s.emitter ∧
    t.switch = s.switch ∧ t.owed = s.owed ∧ t.store = s.store ∧ t.clips = s.clips ∧ t.clipLanesOut = s.clipLanesOut ∧
    t.clipUnexpected = s.clipUnexpected ∧ t.events = s.events ∧ t.order = s.order ∧ t.draws = s.draws ∧
    t.pending = s.pending := by
  unfold execMonitorCellSent at h
  (repeat' split at h) <;> (injection h with h; subst h; simp)

/-- What UNKNOWN can change. -/
theorem execUnknown_frame {s t : State} (h : execUnknown s = .next t) :
    t.clock = s.clock ∧ t.nf = s.nf ∧ t.lf = s.lf ∧ t.laneMap = s.laneMap ∧ t.continuity = s.continuity ∧
    t.groups = s.groups ∧ t.watch = s.watch ∧ t.plan = s.plan ∧ t.queue = s.queue ∧ t.emitter = s.emitter ∧
    t.switch = s.switch ∧ t.owed = s.owed ∧ t.store = s.store ∧ t.clips = s.clips ∧ t.clipLanesOut = s.clipLanesOut ∧
    t.clipUnexpected = s.clipUnexpected ∧ t.events = s.events ∧ t.order = s.order ∧ t.draws = s.draws ∧
    t.pending = s.pending := by
  unfold execUnknown at h
  (repeat' split at h) <;> (injection h with h; subst h; simp)

/-- What STATUS can change. -/
theorem execStatus_frame {s t : State} (h : execStatus s = .next t) :
    t.clock = s.clock ∧ t.nf = s.nf ∧ t.lf = s.lf ∧ t.laneMap = s.laneMap ∧ t.continuity = s.continuity ∧
    t.groups = s.groups ∧ t.watch = s.watch ∧ t.plan = s.plan ∧ t.queue = s.queue ∧ t.emitter = s.emitter ∧
    t.switch = s.switch ∧ t.owed = s.owed ∧ t.store = s.store ∧ t.clips = s.clips ∧ t.clipLanesOut = s.clipLanesOut ∧
    t.clipUnexpected = s.clipUnexpected ∧ t.events = s.events ∧ t.order = s.order ∧ t.draws = s.draws ∧
    t.pending = s.pending := by
  obtain rfl | ⟨c, rest, -, -, -, -, rfl | rfl | rfl⟩ := State.takeCommand_cases h <;> simp

/-- What STATS can change. -/
theorem execStats_frame {s t : State} (h : execStats s = .next t) :
    t.clock = s.clock ∧ t.laneMap = s.laneMap ∧ t.continuity = s.continuity ∧ t.groups = s.groups ∧ t.plan = s.plan ∧
    t.queue = s.queue ∧ t.switch = s.switch ∧ t.owed = s.owed ∧ t.store = s.store ∧ t.clips = s.clips ∧
    t.events = s.events ∧ t.order = s.order ∧ t.draws = s.draws ∧ t.pending = s.pending := by
  obtain rfl | ⟨c, rest, -, -, -, -, rfl | rfl | rfl⟩ := State.takeCommand_cases h <;> simp

/-- What RESTART can change. -/
theorem execRestart_frame {s t : State} (h : execRestart s = .next t) :
    t.clock = s.clock ∧ t.laneMap = s.laneMap ∧ t.continuity = s.continuity ∧ t.plan = s.plan ∧
    t.clipLanesOut = s.clipLanesOut ∧ t.clipUnexpected = s.clipUnexpected ∧ t.draws = s.draws ∧
    t.pending = s.pending := by
  obtain rfl | ⟨c, rest, -, -, -, -, rfl | rfl | rfl⟩ := State.takeCommand_cases h <;> simp

/-- What LANE MAP LOAD can change. -/
theorem execLaneMapLoad_frame {s t : State} (h : execLaneMapLoad s = .next t) :
    t.clock = s.clock ∧ t.nf = s.nf ∧ t.lf = s.lf ∧ t.groups = s.groups ∧ t.watch = s.watch ∧ t.plan = s.plan ∧
    t.queue = s.queue ∧ t.emitter = s.emitter ∧ t.switch = s.switch ∧ t.owed = s.owed ∧ t.store = s.store ∧
    t.clips = s.clips ∧ t.clipLanesOut = s.clipLanesOut ∧ t.clipUnexpected = s.clipUnexpected ∧ t.events = s.events ∧
    t.order = s.order ∧ t.draws = s.draws ∧ t.pending = s.pending := by
  obtain rfl | ⟨c, rest, -, -, -, -, rfl | rfl | rfl⟩ := State.takeCommand_cases h <;> simp

/-- What LANE MAP READ can change. -/
theorem execLaneMapRead_frame {s t : State} (h : execLaneMapRead s = .next t) :
    t.clock = s.clock ∧ t.nf = s.nf ∧ t.lf = s.lf ∧ t.laneMap = s.laneMap ∧ t.continuity = s.continuity ∧
    t.groups = s.groups ∧ t.watch = s.watch ∧ t.plan = s.plan ∧ t.queue = s.queue ∧ t.emitter = s.emitter ∧
    t.switch = s.switch ∧ t.owed = s.owed ∧ t.store = s.store ∧ t.clips = s.clips ∧ t.clipLanesOut = s.clipLanesOut ∧
    t.clipUnexpected = s.clipUnexpected ∧ t.events = s.events ∧ t.order = s.order ∧ t.draws = s.draws ∧
    t.pending = s.pending := by
  obtain rfl | ⟨c, rest, -, -, -, -, rfl | rfl | rfl⟩ := State.takeCommand_cases h <;> simp

/-- What GROUP SET can change. -/
theorem execGroupSet_frame {s t : State} (h : execGroupSet s = .next t) :
    t.clock = s.clock ∧ t.nf = s.nf ∧ t.lf = s.lf ∧ t.laneMap = s.laneMap ∧ t.continuity = s.continuity ∧
    t.watch = s.watch ∧ t.plan = s.plan ∧ t.queue = s.queue ∧ t.emitter = s.emitter ∧ t.switch = s.switch ∧
    t.owed = s.owed ∧ t.store = s.store ∧ t.clips = s.clips ∧ t.clipLanesOut = s.clipLanesOut ∧
    t.clipUnexpected = s.clipUnexpected ∧ t.events = s.events ∧ t.order = s.order ∧ t.draws = s.draws ∧
    t.pending = s.pending := by
  obtain rfl | ⟨c, rest, -, -, -, -, rfl | rfl | rfl⟩ := State.takeCommand_cases h <;> simp

/-- What WATCH SET can change. -/
theorem execWatchSet_frame {s t : State} (h : execWatchSet s = .next t) :
    t.clock = s.clock ∧ t.nf = s.nf ∧ t.lf = s.lf ∧ t.laneMap = s.laneMap ∧ t.continuity = s.continuity ∧
    t.groups = s.groups ∧ t.plan = s.plan ∧ t.queue = s.queue ∧ t.emitter = s.emitter ∧ t.switch = s.switch ∧
    t.owed = s.owed ∧ t.store = s.store ∧ t.clips = s.clips ∧ t.clipLanesOut = s.clipLanesOut ∧
    t.clipUnexpected = s.clipUnexpected ∧ t.events = s.events ∧ t.order = s.order ∧ t.draws = s.draws ∧
    t.pending = s.pending := by
  obtain rfl | ⟨c, rest, -, -, -, -, rfl | rfl | rfl⟩ := State.takeCommand_cases h <;> simp

/-- What SITE SET can change. -/
theorem execSiteSet_frame {s t : State} (h : execSiteSet s = .next t) :
    t.clock = s.clock ∧ t.nf = s.nf ∧ t.lf = s.lf ∧ t.laneMap = s.laneMap ∧ t.continuity = s.continuity ∧
    t.watch = s.watch ∧ t.queue = s.queue ∧ t.switch = s.switch ∧ t.owed = s.owed ∧ t.clipLanesOut = s.clipLanesOut ∧
    t.clipUnexpected = s.clipUnexpected ∧ t.draws = s.draws ∧ t.pending = s.pending := by
  obtain rfl | ⟨c, rest, -, -, -, -, rfl | rfl | rfl⟩ := State.takeCommand_cases h <;> simp

/-- What CLOCK SET can change. -/
theorem execClockSet_frame {s t : State} (h : execClockSet s = .next t) :
    t.nf = s.nf ∧ t.lf = s.lf ∧ t.laneMap = s.laneMap ∧ t.continuity = s.continuity ∧ t.groups = s.groups ∧
    t.watch = s.watch ∧ t.plan = s.plan ∧ t.queue = s.queue ∧ t.emitter = s.emitter ∧ t.switch = s.switch ∧
    t.owed = s.owed ∧ t.store = s.store ∧ t.clips = s.clips ∧ t.clipLanesOut = s.clipLanesOut ∧
    t.clipUnexpected = s.clipUnexpected ∧ t.events = s.events ∧ t.order = s.order ∧ t.draws = s.draws ∧
    t.pending = s.pending := by
  obtain rfl | ⟨c, rest, -, -, -, -, rfl | rfl | rfl⟩ := State.takeCommand_cases h <;> simp

/-- What PARTITION can change. -/
theorem execPartition_frame {s t : State} (h : execPartition s = .next t) :
    t.clock = s.clock ∧ t.nf = s.nf ∧ t.lf = s.lf ∧ t.laneMap = s.laneMap ∧ t.continuity = s.continuity ∧
    t.groups = s.groups ∧ t.watch = s.watch ∧ t.plan = s.plan ∧ t.queue = s.queue ∧ t.emitter = s.emitter ∧
    t.switch = s.switch ∧ t.owed = s.owed ∧ t.clips = s.clips ∧ t.clipLanesOut = s.clipLanesOut ∧
    t.clipUnexpected = s.clipUnexpected ∧ t.events = s.events ∧ t.order = s.order ∧ t.draws = s.draws ∧
    t.pending = s.pending := by
  obtain rfl | ⟨c, rest, -, -, -, -, rfl | rfl | rfl⟩ := State.takeCommand_cases h <;> simp

/-- What EMIT START can change. -/
theorem execEmitStart_frame {s t : State} (h : execEmitStart s = .next t) :
    t.clock = s.clock ∧ t.nf = s.nf ∧ t.lf = s.lf ∧ t.laneMap = s.laneMap ∧ t.continuity = s.continuity ∧
    t.groups = s.groups ∧ t.watch = s.watch ∧ t.plan = s.plan ∧ t.queue = s.queue ∧ t.switch = s.switch ∧
    t.owed = s.owed ∧ t.store = s.store ∧ t.clips = s.clips ∧ t.clipLanesOut = s.clipLanesOut ∧
    t.clipUnexpected = s.clipUnexpected ∧ t.events = s.events ∧ t.order = s.order ∧ t.draws = s.draws ∧
    t.pending = s.pending := by
  obtain rfl | ⟨c, rest, -, -, -, -, rfl | rfl | rfl⟩ := State.takeCommand_cases h <;> simp

/-- What EMIT STOP can change. -/
theorem execEmitStop_frame {s t : State} (h : execEmitStop s = .next t) :
    t.clock = s.clock ∧ t.nf = s.nf ∧ t.lf = s.lf ∧ t.laneMap = s.laneMap ∧ t.continuity = s.continuity ∧
    t.groups = s.groups ∧ t.watch = s.watch ∧ t.plan = s.plan ∧ t.queue = s.queue ∧ t.switch = s.switch ∧
    t.owed = s.owed ∧ t.store = s.store ∧ t.clips = s.clips ∧ t.clipLanesOut = s.clipLanesOut ∧
    t.clipUnexpected = s.clipUnexpected ∧ t.events = s.events ∧ t.order = s.order ∧ t.draws = s.draws ∧
    t.pending = s.pending := by
  obtain rfl | ⟨c, rest, -, -, -, -, rfl | rfl | rfl⟩ := State.takeCommand_cases h <;> simp

/-- What CLIP OPEN can change. -/
theorem execClipOpen_frame {s t : State} (h : execClipOpen s = .next t) :
    t.clock = s.clock ∧ t.nf = s.nf ∧ t.lf = s.lf ∧ t.laneMap = s.laneMap ∧ t.continuity = s.continuity ∧
    t.groups = s.groups ∧ t.watch = s.watch ∧ t.plan = s.plan ∧ t.queue = s.queue ∧ t.emitter = s.emitter ∧
    t.switch = s.switch ∧ t.owed = s.owed ∧ t.store = s.store ∧ t.clipLanesOut = s.clipLanesOut ∧
    t.clipUnexpected = s.clipUnexpected ∧ t.events = s.events ∧ t.order = s.order ∧ t.draws = s.draws ∧
    t.pending = s.pending := by
  obtain rfl | ⟨c, rest, -, -, -, -, rfl | rfl | rfl⟩ := State.takeCommand_cases h <;> simp

/-- What CLIP CLOSE can change. -/
theorem execClipClose_frame {s t : State} (h : execClipClose s = .next t) :
    t.clock = s.clock ∧ t.nf = s.nf ∧ t.lf = s.lf ∧ t.laneMap = s.laneMap ∧ t.continuity = s.continuity ∧
    t.groups = s.groups ∧ t.watch = s.watch ∧ t.plan = s.plan ∧ t.queue = s.queue ∧ t.emitter = s.emitter ∧
    t.switch = s.switch ∧ t.owed = s.owed ∧ t.clipLanesOut = s.clipLanesOut ∧ t.clipUnexpected = s.clipUnexpected ∧
    t.events = s.events ∧ t.order = s.order ∧ t.draws = s.draws ∧ t.pending = s.pending := by
  obtain rfl | ⟨c, rest, -, -, -, -, rfl | rfl | rfl⟩ := State.takeCommand_cases h <;> simp

/-- What CLIP REMOVE can change. -/
theorem execClipRemove_frame {s t : State} (h : execClipRemove s = .next t) :
    t.clock = s.clock ∧ t.nf = s.nf ∧ t.lf = s.lf ∧ t.laneMap = s.laneMap ∧ t.continuity = s.continuity ∧
    t.groups = s.groups ∧ t.watch = s.watch ∧ t.plan = s.plan ∧ t.queue = s.queue ∧ t.emitter = s.emitter ∧
    t.switch = s.switch ∧ t.owed = s.owed ∧ t.clipLanesOut = s.clipLanesOut ∧ t.clipUnexpected = s.clipUnexpected ∧
    t.events = s.events ∧ t.order = s.order ∧ t.draws = s.draws ∧ t.pending = s.pending := by
  obtain rfl | ⟨c, rest, -, -, -, -, rfl | rfl | rfl⟩ := State.takeCommand_cases h <;> simp

/-- What CLIP QUERY can change. -/
theorem execClipQuery_frame {s t : State} (h : execClipQuery s = .next t) :
    t.clock = s.clock ∧ t.nf = s.nf ∧ t.lf = s.lf ∧ t.laneMap = s.laneMap ∧ t.continuity = s.continuity ∧
    t.groups = s.groups ∧ t.watch = s.watch ∧ t.plan = s.plan ∧ t.queue = s.queue ∧ t.emitter = s.emitter ∧
    t.switch = s.switch ∧ t.owed = s.owed ∧ t.store = s.store ∧ t.clips = s.clips ∧ t.clipLanesOut = s.clipLanesOut ∧
    t.clipUnexpected = s.clipUnexpected ∧ t.events = s.events ∧ t.order = s.order ∧ t.draws = s.draws ∧
    t.pending = s.pending := by
  obtain rfl | ⟨c, rest, -, -, -, -, rfl | rfl | rfl⟩ := State.takeCommand_cases h <;> simp

/-- What SPLICE ADD can change. -/
theorem execSpliceAdd_frame {s t : State} (h : execSpliceAdd s = .next t) :
    t.clock = s.clock ∧ t.nf = s.nf ∧ t.lf = s.lf ∧ t.laneMap = s.laneMap ∧ t.continuity = s.continuity ∧
    t.groups = s.groups ∧ t.watch = s.watch ∧ t.plan = s.plan ∧ t.queue = s.queue ∧ t.emitter = s.emitter ∧
    t.switch = s.switch ∧ t.owed = s.owed ∧ t.store = s.store ∧ t.clips = s.clips ∧ t.clipLanesOut = s.clipLanesOut ∧
    t.clipUnexpected = s.clipUnexpected ∧ t.draws = s.draws ∧ t.pending = s.pending := by
  obtain rfl | ⟨c, rest, -, -, -, -, rfl | rfl | rfl⟩ := State.takeCommand_cases h <;> simp

/-- What SPLICE CANCEL can change. -/
theorem execSpliceCancel_frame {s t : State} (h : execSpliceCancel s = .next t) :
    t.clock = s.clock ∧ t.nf = s.nf ∧ t.lf = s.lf ∧ t.laneMap = s.laneMap ∧ t.continuity = s.continuity ∧
    t.watch = s.watch ∧ t.plan = s.plan ∧ t.queue = s.queue ∧ t.emitter = s.emitter ∧ t.switch = s.switch ∧
    t.owed = s.owed ∧ t.clipLanesOut = s.clipLanesOut ∧ t.clipUnexpected = s.clipUnexpected ∧ t.draws = s.draws ∧
    t.pending = s.pending := by
  obtain rfl | ⟨c, rest, -, -, -, -, rfl | rfl | rfl⟩ := State.takeCommand_cases h <;> simp

/-- What SPLICE QUERY can change. -/
theorem execSpliceQuery_frame {s t : State} (h : execSpliceQuery s = .next t) :
    t.clock = s.clock ∧ t.nf = s.nf ∧ t.lf = s.lf ∧ t.laneMap = s.laneMap ∧ t.continuity = s.continuity ∧
    t.groups = s.groups ∧ t.watch = s.watch ∧ t.plan = s.plan ∧ t.queue = s.queue ∧ t.emitter = s.emitter ∧
    t.switch = s.switch ∧ t.owed = s.owed ∧ t.store = s.store ∧ t.clips = s.clips ∧ t.clipLanesOut = s.clipLanesOut ∧
    t.clipUnexpected = s.clipUnexpected ∧ t.events = s.events ∧ t.order = s.order ∧ t.draws = s.draws ∧
    t.pending = s.pending := by
  obtain rfl | ⟨c, rest, -, -, -, -, rfl | rfl | rfl⟩ := State.takeCommand_cases h <;> simp

end Sys2Proof.Machine
end

