-- ==== Sys2Proof/Laws/Splices.lean ====
section
/-! SUPPORT. What the Splice Scheduler's transitions do to the events, the pending order, the groups and the clips, said once
for each: entry to a final state (R132), the end of a splice (R152), and arming (R128, R129). -/

namespace Sys2Proof.Machine

/-! ### Groups and clips -/

/-- The groups after an event was cleared as active. -/
theorem State.clearActive_groupAt (s : State) (g e h : Nat) :
    (s.clearActive g e).groupAt h =
      if g = h ∧ h < 16 ∧ (s.groupAt g).active = some e then { s.groupAt g with active := none } else s.groupAt h := by
  unfold State.clearActive
  split
  · rename_i ha
    rw [State.groupAt_setGroup]
    by_cases hg : g = h ∧ h < 16
    · rw [if_pos hg, if_pos ⟨hg.1, hg.2, ha⟩]
    · rw [if_neg hg, if_neg (fun x => hg ⟨x.1, x.2.1⟩)]
  · rename_i ha
    rw [if_neg (fun x => ha x.2.2)]

/-- A clip returned to READY (R119). -/
def ClipRecord.returned (r : ClipRecord) : ClipRecord :=
  { r with state := .ready, members := r.members.map (fun m => { m with cursor := 0 }) }

/-- The clips after one was returned. -/
theorem State.returnClip_clipAt (s : State) (c d : Nat) :
    (s.returnClip c).clipAt d =
      if c = d ∧ ((s.clipAt c).state = .cued ∨ (s.clipAt c).state = .playing) then (s.clipAt c).returned
      else s.clipAt d := by
  unfold State.returnClip
  dsimp only
  split
  · rename_i hs
    rw [State.clipAt_setClip]
    by_cases hc : c = d ∧ d < 64
    · rw [if_pos hc, if_pos ⟨hc.1, hs⟩]; rfl
    · rw [if_neg hc]
      split
      · rename_i h
        have : s.clipAt c = .blank := rowAt_of_le _ _ _ (by have := h.1; omega)
        rw [this] at hs
        rcases hs with hs | hs <;> exact absurd hs (by decide)
      · rfl
  · rename_i hs
    rw [if_neg (fun x => hs x.2)]

/-! ### Entry to a final state -/

/-- The event table after an event entered a final state (R132). -/
theorem State.finishEvent_eventAt (s : State) (e k : Nat) (x : EventState) (c : Option EndingCause) (r : Option FailReason) :
    (s.finishEvent e x c r).eventAt k =
      if e = k ∧ k < 32 then
        { s.eventAt e with state := x, cause := c, reason := r, finish := some ⟨s.clock.second, s.emitter.slot⟩ }
      else s.eventAt k := by
  have h : (s.finishEvent e x c r).events = (s.setEvent e { s.eventAt e with
      state := x, cause := c, reason := r, finish := some ⟨s.clock.second, s.emitter.slot⟩ }).events := by
    unfold State.finishEvent
    dsimp only
    split <;> simp [State.notifySplice]
  rw [← State.eventAt_setEvent]
  exact congrArg (fun v => rowAt v k EventRecord.blank) h

/-- The pending order after an event entered a final state (R132). -/
theorem State.finishEvent_order (s : State) (e : Nat) (x : EventState) (c : Option EndingCause) (r : Option FailReason) :
    (s.finishEvent e x c r).order = s.order.filter (fun f => decide (f ≠ e)) := by
  unfold State.finishEvent
  dsimp only
  split <;> simp [State.notifySplice, State.setEvent]

/-- The groups after an event entered a final state (R132). -/
theorem State.finishEvent_groupAt (s : State) (e h : Nat) (x : EventState) (c : Option EndingCause) (r : Option FailReason) :
    (s.finishEvent e x c r).groupAt h =
      if (s.eventAt e).given.group = h ∧ h < 16 ∧ (s.groupAt h).active = some e then
        { s.groupAt h with active := none }
      else s.groupAt h := by
  have hg : (s.finishEvent e x c r).groups = (s.clearActive (s.eventAt e).given.group e).groups := by
    unfold State.finishEvent State.clearActive State.setGroup State.groupAt
    dsimp only
    split <;> split <;> simp_all [State.notifySplice, State.setEvent]
  have hk : (s.finishEvent e x c r).groupAt h = (s.clearActive (s.eventAt e).given.group e).groupAt h := by
    unfold State.groupAt; rw [hg]
  rw [hk, State.clearActive_groupAt]
  by_cases hh : (s.eventAt e).given.group = h
  · subst hh; rfl
  · rw [if_neg (fun y => hh y.1), if_neg (fun y => hh y.1)]

/-- The clips after an event entered a final state: the clip of an ARMED event is returned (R132). -/
theorem State.finishEvent_clipAt (s : State) (e d : Nat) (x : EventState) (c : Option EndingCause) (r : Option FailReason) :
    (s.finishEvent e x c r).clipAt d =
      if (s.eventAt e).state = .armed ∧ (s.eventAt e).given.clip = d ∧
          ((s.clipAt d).state = .cued ∨ (s.clipAt d).state = .playing) then (s.clipAt d).returned
      else s.clipAt d := by
  by_cases ha : (s.eventAt e).state = .armed
  · have hc : (s.finishEvent e x c r).clips = (s.returnClip (s.eventAt e).given.clip).clips := by
      unfold State.finishEvent
      simp only [if_pos ha]
      simp [State.notifySplice]
      unfold State.returnClip State.clipAt
      simp only [State.clearActive_frame]
      split <;> simp [State.setClip, State.setEvent]
    have hk : (s.finishEvent e x c r).clipAt d = (s.returnClip (s.eventAt e).given.clip).clipAt d := by
      unfold State.clipAt; rw [hc]
    rw [hk, State.returnClip_clipAt]
    by_cases hd : (s.eventAt e).given.clip = d
    · subst hd; simp [ha]
    · simp [hd]
  · have hc : (s.finishEvent e x c r).clips = s.clips := by
      unfold State.finishEvent
      simp only [if_neg ha]
      simp [State.notifySplice]
    rw [if_neg (fun y => ha y.1)]
    unfold State.clipAt; rw [hc]

/-! ### The end of a splice -/

/-- An event's record with the cells its splice leaves unplayed (R152, step 1). -/
def State.truncatedRecord (s : State) (e : Nat) : EventRecord :=
  { s.eventAt e with
    truncated := satAdd (s.eventAt e).truncated
      (unplayed (s.switchAt (s.eventAt e).given.group) (s.clipAt (s.eventAt e).given.clip)) }

/-- The state after steps 1 and 2 of R152. -/
def State.truncatedEnd (s : State) (e : Nat) : State :=
  ((s.setEvent e (s.truncatedRecord e)).countEm (fun c =>
    { c with
      clipTruncated := satAdd c.clipTruncated
        (unplayed (s.switchAt (s.eventAt e).given.group) (s.clipAt (s.eventAt e).given.clip)) })).oweClipLanes
    (s.switchAt (s.eventAt e).given.group)

/-- The end of a splice, from its steps 1 and 2 on (R152). -/
theorem State.endSplice_eq (s : State) (e : Nat) (x : EventState) (c : EndingCause) :
    s.endSplice e x c =
      (let t := ((s.truncatedEnd e).finishEvent e x (some c) none).returnClip (s.eventAt e).given.clip
       (t.setGroup (s.eventAt e).given.group { t.groupAt (s.eventAt e).given.group with state := .idle }).setSwitch
        (s.eventAt e).given.group .clear) := rfl

/-- The event table after steps 1 and 2 of R152. -/
theorem State.truncatedEnd_eventAt (s : State) (e k : Nat) :
    (s.truncatedEnd e).eventAt k = if e = k ∧ k < 32 then s.truncatedRecord e else s.eventAt k := by
  have h : (s.truncatedEnd e).events = (s.setEvent e (s.truncatedRecord e)).events := by simp [State.truncatedEnd]
  rw [← State.eventAt_setEvent]
  exact congrArg (fun v => rowAt v k EventRecord.blank) h

/-- What an event was given stays in steps 1 and 2 of R152. -/
theorem State.truncatedEnd_given (s : State) (e k : Nat) :
    ((s.truncatedEnd e).eventAt k).given = (s.eventAt k).given ∧
    ((s.truncatedEnd e).eventAt k).state = (s.eventAt k).state := by
  rw [State.truncatedEnd_eventAt]
  split
  · rename_i h; obtain ⟨rfl, -⟩ := h; exact ⟨rfl, rfl⟩
  · exact ⟨rfl, rfl⟩

/-- The event table after the end of a splice (R132, R152). -/
theorem State.endSplice_eventAt (s : State) (e k : Nat) (x : EventState) (c : EndingCause) :
    (s.endSplice e x c).eventAt k =
      if e = k ∧ k < 32 then
        { s.truncatedRecord e with
          state := x
          cause := some c
          reason := none
          finish := some ⟨s.clock.second, s.emitter.slot⟩ }
      else s.eventAt k := by
  have h : (s.endSplice e x c).eventAt k = ((s.truncatedEnd e).finishEvent e x (some c) none).eventAt k := by
    rw [State.endSplice_eq]; unfold State.eventAt; simp [State.setSwitch, State.setGroup]
  rw [h, State.finishEvent_eventAt, State.truncatedEnd_eventAt, State.truncatedEnd_eventAt]
  by_cases hk : e = k ∧ k < 32
  · obtain ⟨rfl, hk⟩ := hk; simp [hk, State.truncatedEnd, State.countEm]
  · simp [hk]

/-- The pending order after the end of a splice (R132, R152). -/
theorem State.endSplice_order (s : State) (e : Nat) (x : EventState) (c : EndingCause) :
    (s.endSplice e x c).order = s.order.filter (fun f => decide (f ≠ e)) := by
  rw [State.endSplice_eq]
  simp [State.setSwitch, State.setGroup, State.finishEvent_order, State.truncatedEnd, State.setEvent]

/-- The switch states after the end of a splice (R152). -/
theorem State.endSplice_switchAt (s : State) (e h : Nat) (x : EventState) (c : EndingCause) :
    (s.endSplice e x c).switchAt h = if (s.eventAt e).given.group = h ∧ h < 16 then .clear else s.switchAt h := by
  rw [State.endSplice_eq]
  dsimp only
  rw [State.switchAt_setSwitch]
  split
  · rfl
  · unfold State.switchAt
    simp [State.setGroup, State.truncatedEnd, State.setEvent]

/-- The groups after the end of a splice: its group is IDLE, and has no active event if it was this one (R132, R152). -/
theorem State.endSplice_groupAt (s : State) (e h : Nat) (x : EventState) (c : EndingCause) :
    (s.endSplice e x c).groupAt h =
      if (s.eventAt e).given.group = h ∧ h < 16 then
        { s.groupAt h with
          state := .idle
          active := if (s.groupAt h).active = some e then none else (s.groupAt h).active }
      else s.groupAt h := by
  have hr : ∀ (u : State) (d k : Nat), (u.returnClip d).groupAt k = u.groupAt k := by
    intro u d k; unfold State.groupAt; simp
  have ht : ∀ k, (s.truncatedEnd e).groupAt k = s.groupAt k := by
    intro k; unfold State.groupAt; simp [State.truncatedEnd, State.setEvent]
  rw [State.endSplice_eq]
  dsimp only
  have hs : ∀ (u : State) (g k : Nat) (w : SwitchState), (u.setSwitch g w).groupAt k = u.groupAt k := fun _ _ _ _ => rfl
  rw [hs, State.groupAt_setGroup]
  simp only [hr, State.finishEvent_groupAt, ht, (State.truncatedEnd_given s e e).1]
  by_cases hg : (s.eventAt e).given.group = h
  · subst hg
    by_cases h16 : (s.eventAt e).given.group < 16
    · by_cases ha : (s.groupAt (s.eventAt e).given.group).active = some e <;> simp [h16, ha]
    · simp [h16]
  · simp [hg]

/-- The clips after the end of a splice: its clip is returned to READY (R119, R152). -/
theorem State.endSplice_clipAt (s : State) (e d : Nat) (x : EventState) (c : EndingCause) :
    (s.endSplice e x c).clipAt d =
      if (s.eventAt e).given.clip = d ∧ ((s.clipAt d).state = .cued ∨ (s.clipAt d).state = .playing) then
        (s.clipAt d).returned
      else s.clipAt d := by
  have ht : ∀ k, (s.truncatedEnd e).clipAt k = s.clipAt k := by
    intro k; unfold State.clipAt; simp [State.truncatedEnd, State.setEvent]
  have hs : ∀ (u : State) (g k : Nat) (w : SwitchState) (r : GroupRecord), ((u.setGroup g r).setSwitch g w).clipAt k = u.clipAt k :=
    fun _ _ _ _ _ => rfl
  rw [State.endSplice_eq]
  dsimp only
  rw [hs, State.returnClip_clipAt]
  simp only [State.finishEvent_clipAt, ht, (State.truncatedEnd_given s e e).1, (State.truncatedEnd_given s e e).2]
  have hret : (s.clipAt d).returned.state = .ready := rfl
  by_cases hd : (s.eventAt e).given.clip = d
  · subst hd
    by_cases ha : (s.eventAt e).state = .armed <;>
      by_cases hc : (s.clipAt (s.eventAt e).given.clip).state = .cued ∨ (s.clipAt (s.eventAt e).given.clip).state = .playing <;>
      simp [ha, hc, hret]
  · simp [hd]

/-! ### Arming -/

/-- Why an event taken up for arming fails, in the order of the checks of R129; `none` where it becomes ARMED. -/
def State.armFailure (s : State) (e : Nat) : Option FailReason :=
  if s.memberLane (s.eventAt e).given.group 0 = none then some .noLeader
  else if (s.groupAt (s.eventAt e).given.group).active ≠ none then some .groupBusy
  else if (s.clipAt (s.eventAt e).given.clip).state ≠ .ready then some .clipNotReady
  else none

/-- The two outcomes of taking an event up for arming (R129). -/
theorem State.armEvent_eq (s : State) (e : Nat) :
    s.armEvent e =
      (let left : State := { s with order := s.order.filter (fun x => decide (x ≠ e)) }
       match s.armFailure e with
       | some reason => left.finishEvent e .failed none (some reason)
       | none =>
         ((left.setEvent e { s.eventAt e with state := .armed }).setGroup (s.eventAt e).given.group
           { s.groupAt (s.eventAt e).given.group with active := some e }).setClip (s.eventAt e).given.clip
           { s.clipAt (s.eventAt e).given.clip with
             state := .cued
             members := (s.clipAt (s.eventAt e).given.clip).members.map (fun m => { m with cursor := 0 }) }) := by
  unfold State.armEvent State.armFailure
  dsimp only
  by_cases h1 : s.memberLane (s.eventAt e).given.group 0 = none
  · simp [h1]
  · by_cases h2 : (s.groupAt (s.eventAt e).given.group).active = none
    · by_cases h3 : (s.clipAt (s.eventAt e).given.clip).state = .ready <;> simp [h1, h2, h3]
    · simp [h1, h2, Option.isSome_iff_ne_none]

/-- The pending order after an event was taken up for arming (R129). -/
theorem State.armEvent_order (s : State) (e : Nat) : (s.armEvent e).order = s.order.filter (fun x => decide (x ≠ e)) := by
  rw [State.armEvent_eq]
  dsimp only
  split
  · rw [State.finishEvent_order, List.filter_filter]; simp
  · rfl

/-- The event table after an event was taken up for arming (R129). -/
theorem State.armEvent_eventAt (s : State) (e k : Nat) :
    (s.armEvent e).eventAt k =
      if e = k ∧ k < 32 then
        match s.armFailure e with
        | some reason =>
          { s.eventAt e with
            state := .failed
            cause := none
            reason := some reason
            finish := some ⟨s.clock.second, s.emitter.slot⟩ }
        | none => { s.eventAt e with state := .armed }
      else s.eventAt k := by
  rw [State.armEvent_eq]
  dsimp only
  split
  · rw [State.finishEvent_eventAt]; rfl
  · exact State.eventAt_setEvent _ _ _ _

/-- What an event was given stays when an event is taken up for arming. -/
theorem State.armEvent_given (s : State) (e k : Nat) : ((s.armEvent e).eventAt k).given = (s.eventAt k).given := by
  rw [State.armEvent_eventAt]
  split
  · rename_i h; obtain ⟨rfl, -⟩ := h; split <;> rfl
  · rfl

/-- Once the first elements that meet a test have left a list, its first element does not meet the test. -/
theorem takeWhile_filter_takeWhile (p : Nat → Bool) (l : List Nat) :
    (l.filter (fun x => decide (x ∉ l.takeWhile p))).takeWhile p = [] := by
  have hsplit : l = l.takeWhile p ++ l.dropWhile p := (List.takeWhile_append_dropWhile).symm
  have hout : (l.takeWhile p).filter (fun x => decide (x ∉ l.takeWhile p)) = [] := by
    rw [List.filter_eq_nil_iff]; intro a ha; simpa using ha
  have hrest : l.filter (fun x => decide (x ∉ l.takeWhile p)) =
      (l.dropWhile p).filter (fun x => decide (x ∉ l.takeWhile p)) := by
    conv_lhs => rw [hsplit]
    rw [List.filter_append, ← hsplit, hout, List.nil_append]
  rw [hrest]
  cases hr : l.dropWhile p with
  | nil => rfl
  | cons y rest =>
    have hy : p y = false := by
      have h := List.head_dropWhile_not (p := p) (l := l) (by rw [hr]; simp)
      simpa [hr] using h
    have hin : y ∉ l.takeWhile p := fun hm => by
      have := List.mem_takeWhile_imp hm
      rw [hy] at this
      exact absurd this (by decide)
    rw [List.filter_cons_of_pos (by simpa using hin), List.takeWhile_cons_of_neg (by simp [hy])]

/-- What the arming of a list of events leaves: the order without them, what each event was given, and nominal now. -/
theorem State.armAll_keeps (l : List Nat) (t : State) :
    (l.foldl State.armEvent t).order = t.order.filter (fun x => decide (x ∉ l)) ∧
    (∀ k, ((l.foldl State.armEvent t).eventAt k).given = (t.eventAt k).given) ∧
    (l.foldl State.armEvent t).nominalNow = t.nominalNow := by
  induction l generalizing t with
  | nil => simp
  | cons a l ih =>
    obtain ⟨h1, h2, h3⟩ := ih (t.armEvent a)
    refine ⟨?_, fun k => by rw [List.foldl_cons, h2, State.armEvent_given], ?_⟩
    · rw [List.foldl_cons, h1, State.armEvent_order, List.filter_filter]
      congr 1; funext x
      by_cases hx : x = a <;> simp [hx]
    · rw [List.foldl_cons, h3]; unfold State.nominalNow State.siteTime; simp

/-- No event of the pending order is due once the events due have been taken up for arming (R128). -/
theorem State.armDue_done (s : State) : s.armDue.dueForArming = [] := by
  obtain ⟨h1, h2, h3⟩ := State.armAll_keeps s.dueForArming s
  unfold State.armDue
  generalize hd : s.dueForArming = due at *
  unfold State.dueForArming at hd ⊢
  rw [h1, h3]
  simp only [h2]
  rw [← hd]
  exact takeWhile_filter_takeWhile _ _

end Sys2Proof.Machine
end

