-- ==== Sys2Proof/Laws/Boundary.lean ====
section
/-! SUPPORT. What a second boundary leaves in the Timing Plan unit, the Emitter and the queue (R58, R59, R77). -/

namespace Sys2Proof.Machine

/-- Step 3 of R77: the state its table names, no pending change, and a queue that is kept or emptied. -/
theorem State.emitterChange_result (s : State) :
    s.emitterChange.emitter.state = (resolveChange s.emitter.state s.emitter.change s.clock.inStep).1 ∧
    s.emitterChange.emitter.change = .none ∧
    s.emitterChange.queue =
      if (resolveChange s.emitter.state s.emitter.change s.clock.inStep).2.1 then [] else s.queue := by
  unfold State.emitterChange
  dsimp only
  generalize resolveChange s.emitter.state s.emitter.change s.clock.inStep = r
  obtain ⟨st, flush, cause⟩ := r
  cases flush <;> cases cause <;> simp [State.flushQueue]

/-- The same, with the arming and the forced ends before or after it. -/
theorem State.armingsAndEnds_result (s : State) :
    s.armingsAndEnds.emitter.state = (resolveChange s.emitter.state s.emitter.change s.clock.inStep).1 ∧
    s.armingsAndEnds.emitter.change = .none ∧
    s.armingsAndEnds.queue =
      if (resolveChange s.emitter.state s.emitter.change s.clock.inStep).2.1 then [] else s.queue := by
  unfold State.armingsAndEnds
  dsimp only
  split <;> simp [State.armAndMiss, State.emitterChange_result]

/-- What the boundary leaves in the Emitter and the queue, read from the state before it and the plans after it. -/
theorem State.handBoundary_result (s : State) :
    s.handBoundary.plan = s.planChange.plan ∧
    s.handBoundary.emitter.state = (resolveChange s.emitter.state s.emitter.change s.clock.inStep).1 ∧
    s.handBoundary.emitter.change = .none ∧
    s.handBoundary.queue =
      (if (resolveChange s.emitter.state s.emitter.change s.clock.inStep).2.1 then [] else s.queue) ∧
    s.handBoundary.emitter.second = s.clock.second ∧ s.handBoundary.emitter.slot = 0 ∧
    s.handBoundary.emitter.kNow = s.planChange.plan.slotsFor s.clock.second ∧
    s.handBoundary.emitter.kPrev =
      (match s.emitter.kNow with
        | some old => some old
        | none => s.planChange.plan.slotsFor s.clock.second) := by
  unfold State.handBoundary
  cases h : s.emitter.kNow <;> simp [State.armingsAndEnds_result, State.emitterSecond, h]

/-- The Timing Plan unit after the change of plan (R58). -/
theorem State.planChange_result (s : State) :
    s.planChange.plan =
      match s.plan.pending with
      | none => s.plan
      | some p =>
        if secondNoLater p.eff s.clock.second then { s.plan with current := some p, pending := none } else s.plan := by
  unfold State.planChange
  cases s.plan.pending with
  | none => rfl
  | some p => by_cases h : secondNoLater p.eff s.clock.second = true <;> simp [h, State.notifyPlan]

/-- The stale timer and the plan-stale flag after a counted edge (R59). -/
theorem State.staleAdvance_result (s : State) :
    s.staleAdvance.plan =
      if s.plan.current.isSome ∧ s.plan.staleTimer < staleLimit then
        { s.plan with
          staleTimer := s.plan.staleTimer + 1
          stale := if s.plan.staleTimer + 1 = staleLimit then true else s.plan.stale }
      else s.plan := by
  unfold State.staleAdvance
  dsimp only
  split <;> (try split) <;> simp_all [State.notifyPlan]

/-- A row that takes a second boundary hands over a state in which the clock alone has moved, with its notice, and at a counted edge the
stale timer (R2, R10, R16, R59). -/
theorem State.takesBoundary_result {s : State} {i : Instr} (h : s.takesBoundary i) :
    ∃ u : State, exec i s = .next u.handBoundary ∧ u.clock.subsecond = 0 ∧ u.clock.announced = none ∧ u.clock.coming = none ∧
      u.clock.verdictTaken = false ∧
      u.plan = (if s.clock.subsecond = 9999999 then s.staleAdvance.plan else s.plan) ∧
      u.queue = s.queue ∧ u.emitter = s.emitter ∧ u.groups = s.groups ∧ u.switch = s.switch ∧ u.owed = s.owed ∧ u.store = s.store ∧
      u.clips = s.clips ∧ u.events = s.events ∧ u.order = s.order ∧ u.draws = s.draws ∧ u.laneMap = s.laneMap := by
  rcases h with ⟨hs, hi⟩ | ⟨⟨hs, hv⟩, hb, ⟨p, hp, hw, he⟩, rfl⟩
  · refine ⟨s.clockBoundary.staleAdvance, ?_, ?_⟩
    · rcases hi with rfl | rfl <;> simp [exec, execSecondBoundary, execCountedEdge, hs, ticksPerSecond, State.edgeBoundary]
    · simp [State.staleAdvance_result, hs, State.clockBoundary, SiteClock.boundary]
  · have judged : judgeRecord s.clock.passed s.clock.window = .bad (-5000000) := by
      unfold judgeRecord
      rw [hp]
      exact (if_neg (by omega)).trans (by rw [he])
    have steps : (({ s.clock with passed := none, verdictTaken := true } : SiteClock).applyVerdict (.bad (-5000000))).2 =
        some (-5000000) := by
      unfold SiteClock.applyVerdict
      rcases hb with hb | hb | hb
      · simp only [hb]
      · simp only [hb]
      · cases h : s.clock.state <;> simp [h, hb]
    cases hx : ({ s.clock with passed := none, verdictTaken := true } : SiteClock).applyVerdict (.bad (-5000000)) with
    | mk c e =>
      rw [hx] at steps
      obtain rfl : e = some (-5000000) := steps
      refine ⟨({ s with clock := ({ c with coming := none } : SiteClock).boundary } : State).notifyClock s.clock.state .bad, ?_, ?_⟩
      · change execVerdict s = _
        unfold execVerdict
        rw [if_pos ⟨hs, hv⟩, judged]
        simp only [hx]
        rfl
      · have last : s.clock.subsecond ≠ 9999999 := by rw [hs]; decide
        rw [if_neg last]
        simp [SiteClock.boundary]

end Sys2Proof.Machine
end

