-- ==== Sys2Proof/Laws/Taking.lean ====
section
/-! SUPPORT. What the taking of a command answers when the command passes the checks common to every command, and when it does
not (R158 to R160). -/

namespace Sys2Proof.Machine

/-- A granted command is the one that is due. -/
theorem State.grants.due {s : State} {name : CommandName} {c : Command} (h : s.grants name c) : s.commandDue = some c := by
  obtain ⟨rest, hq⟩ := h.head
  have hp := h.place
  unfold State.commandDue
  simp only [hq, h.ours, monitorPlaces]
  rw [if_neg]
  simpa using hp

/-- A granted command takes the effect of its own rule, on the state it has left, and the next head is then examined (R159,
R160). -/
theorem State.takeCommand_granted {s : State} {name : CommandName} {c : Command} (body : Command → State → State)
    (h : s.grants name c) : s.takeCommand name body = .next (body c s.popCommand).discardForeign := by
  unfold State.takeCommand
  rw [h.due]
  simp only [h.code, if_true]
  have h1 : (c.addressed && !name.epochExempt && decide (c.epoch ≠ s.popCommand.control.epoch)) = false := by
    cases ha : c.addressed
    · rfl
    · cases hx : name.epochExempt
      · have := h.epoch ha hx; simp [State.popCommand, this]
      · rfl
  have h2 : (decide (c.origin = .localFeed) && name.networkOnly) = false := by
    by_cases ho : c.origin = .localFeed
    · rw [h.origin ho]; simp
    · simp [ho]
  unfold State.checked
  rw [h1, h2]
  rfl

/-- A reply without any other effect leaves the state `answered`. -/
theorem State.reply_answered (s : State) (c : Command) (r : Result) (data : List Byte) :
    (s.popCommand.reply c r data).discardForeign = s.answered c r data := rfl

end Sys2Proof.Machine
end

