-- ==== Sys2Proof/Laws/Notices.lean ====
section
/-! SUPPORT. What the creation of notices can change of the Control Unit: the monitor queue grows at its tail, and the
notices-lost and gap-owed flags move; every other item stays (R163). -/

namespace Sys2Proof.Machine

/-- Between two Control Units nothing but notices was created. -/
def ControlUnit.noticesOnly (u v : ControlUnit) : Prop :=
  (∃ l, v.monitor = u.monitor ++ l) ∧ v.queue = u.queue ∧ v.site = u.site ∧ v.epoch = u.epoch ∧
    v.epochCounter = u.epochCounter ∧ v.count = u.count ∧ v.controlDrops = u.controlDrops ∧ v.line = u.line

/-- No notice at all. -/
theorem ControlUnit.noticesOnly.refl (u : ControlUnit) : u.noticesOnly u :=
  ⟨⟨[], by simp⟩, rfl, rfl, rfl, rfl, rfl, rfl, rfl⟩

/-- Notices, then notices. -/
theorem ControlUnit.noticesOnly.trans {u v w : ControlUnit} (h : u.noticesOnly v) (k : v.noticesOnly w) : u.noticesOnly w := by
  obtain ⟨⟨l, hl⟩, h1, h2, h3, h4, h5, h6, h7⟩ := h
  obtain ⟨⟨m, hm⟩, k1, k2, k3, k4, k5, k6, k7⟩ := k
  exact ⟨⟨l ++ m, by rw [hm, hl, List.append_assoc]⟩, k1.trans h1, k2.trans h2, k3.trans h3, k4.trans h4, k5.trans h5,
    k6.trans h6, k7.trans h7⟩

/-- One notice (R163). -/
theorem State.notify_notices (s : State) (k : NoticeKind) (d : List Byte) :
    s.control.noticesOnly (s.notify k d).control := by
  unfold State.notify
  split
  · exact ⟨⟨_, rfl⟩, rfl, rfl, rfl, rfl, rfl, rfl, rfl⟩
  · exact ⟨⟨[], by simp⟩, rfl, rfl, rfl, rfl, rfl, rfl, rfl⟩

/-- A notice is what `withNotice` says (R163). -/
theorem State.notify_eq (s : State) (k : NoticeKind) (d : List Byte) :
    s.notify k d = { s with control := s.control.withNotice s.clock k d } := by
  unfold State.notify ControlUnit.withNotice
  split
  · rfl
  · rfl

/-- What a SPLICE notice reports does not depend on the Control Unit (R137). -/
theorem State.spliceNoticeData_control (s : State) (u : ControlUnit) (e : Nat) (x : EventState) :
    ({ s with control := u } : State).spliceNoticeData e x = s.spliceNoticeData e x := rfl

/-- Entry to a final state: its SPLICE notice alone (R132). -/
theorem State.finishEvent_notice (s : State) (e : Nat) (x : EventState) (c : Option EndingCause) (r : Option FailReason) :
    (s.finishEvent e x c r).control =
      s.control.withNotice s.clock .splice ((s.finishEvent e x c r).spliceNoticeData e (s.eventAt e).state) := by
  have key : ∀ (t u : State), t.control = s.control → t.clock = s.clock → u = t.notifySplice e (s.eventAt e).state →
      u.control = s.control.withNotice s.clock .splice (u.spliceNoticeData e (s.eventAt e).state) := by
    intro t u h1 h2 h3
    unfold State.notifySplice at h3
    rw [State.notify_eq] at h3
    rw [h3, ← h1, ← h2]
    exact congrArg (t.control.withNotice t.clock .splice) (State.spliceNoticeData_control t _ _ _).symm
  unfold State.finishEvent
  dsimp only
  split
  · refine key _ _ ?_ ?_ rfl <;> simp [State.setEvent]
  · refine key _ _ ?_ ?_ rfl <;> simp [State.setEvent]

/-- One notice joins (R163). -/
theorem ControlUnit.withNotice_notices (u : ControlUnit) (c : SiteClock) (k : NoticeKind) (d : List Byte) :
    u.noticesOnly (u.withNotice c k d) := by
  unfold ControlUnit.withNotice
  split
  · exact ⟨⟨_, rfl⟩, rfl, rfl, rfl, rfl, rfl, rfl, rfl⟩
  · exact ⟨⟨[], by simp⟩, rfl, rfl, rfl, rfl, rfl, rfl, rfl⟩

/-- Entry to a final state creates notices only. -/
theorem State.finishEvent_notices (s : State) (e : Nat) (x : EventState) (c : Option EndingCause) (r : Option FailReason) :
    s.control.noticesOnly (s.finishEvent e x c r).control := by
  rw [State.finishEvent_notice]; exact ControlUnit.withNotice_notices _ _ _ _

/-- The end of a splice: its SPLICE notice alone (R152). -/
theorem State.endSplice_notice (s : State) (e : Nat) (x : EventState) (c : EndingCause) :
    (s.endSplice e x c).control =
      s.control.withNotice s.clock .splice ((s.endSplice e x c).spliceNoticeData e (s.eventAt e).state) := by
  have h1 : (s.endSplice e x c).control = ((s.truncatedEnd e).finishEvent e x (some c) none).control := by
    rw [State.endSplice_eq]; simp [State.setSwitch, State.setGroup]
  have h2 : (s.truncatedEnd e).control = s.control ∧ (s.truncatedEnd e).clock = s.clock := by
    simp [State.truncatedEnd, State.setEvent, State.countEm]
  rw [h1, State.finishEvent_notice, h2.1, h2.2, (State.truncatedEnd_given s e e).2]
  have h3 : (s.endSplice e x c).eventAt e = ((s.truncatedEnd e).finishEvent e x (some c) none).eventAt e := by
    rw [State.endSplice_eq]; unfold State.eventAt; simp [State.setSwitch, State.setGroup]
  have h4 : (s.endSplice e x c).clock = ((s.truncatedEnd e).finishEvent e x (some c) none).clock := by
    simp [h2.2]
  unfold State.spliceNoticeData State.stampBytes
  rw [h3, h4]

/-- The end of a splice creates notices only. -/
theorem State.endSplice_notices (s : State) (e : Nat) (x : EventState) (c : EndingCause) :
    s.control.noticesOnly (s.endSplice e x c).control := by
  rw [State.endSplice_notice]; exact ControlUnit.withNotice_notices _ _ _ _

/-- The taking up of an event creates notices only (R129). -/
theorem State.armEvent_notices (s : State) (e : Nat) : s.control.noticesOnly (s.armEvent e).control := by
  rw [State.armEvent_eq]
  dsimp only
  split
  · exact State.finishEvent_notices { s with order := s.order.filter (fun x => decide (x ≠ e)) } _ _ _ _
  · exact .refl _

/-- The arming of the events due creates notices only (R128). -/
theorem State.armDue_notices (s : State) : s.control.noticesOnly s.armDue.control := by
  unfold State.armDue
  generalize s.dueForArming = l
  induction l generalizing s with
  | nil => exact .refl _
  | cons e l ih => exact (State.armEvent_notices s e).trans (ih _)

/-- The cancellation of every live event creates notices only (R138). -/
theorem State.cancelAll_notices (s : State) : s.control.noticesOnly s.cancelAll.control := by
  unfold State.cancelAll
  generalize eventNumbers = l
  induction l generalizing s with
  | nil => exact .refl _
  | cons e l ih =>
    rw [List.foldl_cons]
    refine ControlUnit.noticesOnly.trans ?_ (ih _)
    split
    · exact State.finishEvent_notices _ _ _ _ _
    · exact State.finishEvent_notices _ _ _ _ _
    · exact State.endSplice_notices _ _ _ _
    all_goals exact .refl _

end Sys2Proof.Machine
end

