-- ==== Sys2Proof/Laws/PerInstr.lean ====
section
/-! SUPPORT. What every row's operands are when the row is well formed, one lemma per constructor of `Instr`. -/

namespace Sys2Proof.Laws.OperandShape

open Sys2Proof

/-- The bytes a row carries. -/
def carried : Instr → List Byte
  | .huntCandidate _ byte => [byte]
  | .presyncHeader _ bytes => bytes
  | .syncHeader _ bytes => bytes
  | .cellDelivery _ bytes => bytes
  | .fullReset _ _ => []
  | .countedEdge => []
  | .epochCounterTick => []
  | .secondBoundary => []
  | .timeCodeMessage _ _ => []
  | .pulse => []
  | .verdict => []
  | .frequencyLoss => []
  | .frequencyReturn => []
  | .intakeHeadHandoff _ => []
  | .cellStoreAccessEnd => []
  | .emitterStagingRead _ => []
  | .slotStart => []
  | .eventArming => []
  | .monitorCellSent => []
  | .unknown => []
  | .status => []
  | .stats => []
  | .restart => []
  | .laneMapLoad => []
  | .laneMapRead => []
  | .groupSet => []
  | .watchSet => []
  | .siteSet => []
  | .clockSet => []
  | .partition => []
  | .emitStart => []
  | .emitStop => []
  | .clipOpen => []
  | .clipClose => []
  | .clipRemove => []
  | .clipQuery => []
  | .spliceAdd => []
  | .spliceCancel => []
  | .spliceQuery => []

/-- A well-formed row carries at most the 136 bytes from one header to the next, and its staging choice names a clip 0..63 and
a member 0..3. -/
def Statement (i : Instr) : Prop :=
  i.wellFormed = true → (carried i).length ≤ headerSpan ∧
    ∀ clip member, i = .emitterStagingRead (.clipCell clip member) → clip < 64 ∧ member < 4

theorem fullReset (cause : ResetCause) (straps : BitVec 16) : Statement (.fullReset cause straps) := by
  exact fun _ => ⟨by simp [carried], fun _ _ h => by cases h⟩

theorem countedEdge : Statement .countedEdge := by
  exact fun _ => ⟨by simp [carried], fun _ _ h => by cases h⟩

theorem epochCounterTick : Statement .epochCounterTick := by
  exact fun _ => ⟨by simp [carried], fun _ _ h => by cases h⟩

theorem secondBoundary : Statement .secondBoundary := by
  exact fun _ => ⟨by simp [carried], fun _ _ h => by cases h⟩

theorem timeCodeMessage (intact : Bool) (second : Word32) : Statement (.timeCodeMessage intact second) := by
  exact fun _ => ⟨by simp [carried], fun _ _ h => by cases h⟩

theorem pulse : Statement .pulse := by
  exact fun _ => ⟨by simp [carried], fun _ _ h => by cases h⟩

theorem verdict : Statement .verdict := by
  exact fun _ => ⟨by simp [carried], fun _ _ h => by cases h⟩

theorem frequencyLoss : Statement .frequencyLoss := by
  exact fun _ => ⟨by simp [carried], fun _ _ h => by cases h⟩

theorem frequencyReturn : Statement .frequencyReturn := by
  exact fun _ => ⟨by simp [carried], fun _ _ h => by cases h⟩

theorem huntCandidate (port : Port) (byte : Byte) : Statement (.huntCandidate port byte) := by
  exact fun _ => ⟨by simp [carried], fun _ _ h => by cases h⟩

theorem presyncHeader (port : Port) (bytes : List Byte) : Statement (.presyncHeader port bytes) := by
  intro h
  have h2 : bytes.length ≤ headerSpan := of_decide_eq_true (Bool.and_eq_true _ _ ▸ h).2
  exact ⟨h2, fun _ _ h => by cases h⟩

theorem syncHeader (port : Port) (bytes : List Byte) : Statement (.syncHeader port bytes) := by
  intro h
  have h2 : bytes.length ≤ headerSpan := of_decide_eq_true (Bool.and_eq_true _ _ ▸ h).2
  exact ⟨h2, fun _ _ h => by cases h⟩

theorem cellDelivery (port : Port) (bytes : List Byte) : Statement (.cellDelivery port bytes) := by
  intro h
  have h2 : bytes.length ≤ payloadBytes := of_decide_eq_true (Bool.and_eq_true _ _ ▸ h).2
  exact ⟨Nat.le_trans h2 (by decide), fun _ _ h => by cases h⟩

theorem intakeHeadHandoff (port : Port) : Statement (.intakeHeadHandoff port) := by
  exact fun _ => ⟨by simp [carried], fun _ _ h => by cases h⟩

theorem cellStoreAccessEnd : Statement .cellStoreAccessEnd := by
  exact fun _ => ⟨by simp [carried], fun _ _ h => by cases h⟩

theorem emitterStagingRead (choice : StageChoice) : Statement (.emitterStagingRead choice) := by
  intro h
  refine ⟨by simp [carried], fun clip member hc => ?_⟩
  cases hc
  simpa [Instr.wellFormed, StageChoice.wellFormed] using h

theorem slotStart : Statement .slotStart := by
  exact fun _ => ⟨by simp [carried], fun _ _ h => by cases h⟩

theorem eventArming : Statement .eventArming := by
  exact fun _ => ⟨by simp [carried], fun _ _ h => by cases h⟩

theorem monitorCellSent : Statement .monitorCellSent := by
  exact fun _ => ⟨by simp [carried], fun _ _ h => by cases h⟩

theorem unknown : Statement .unknown := by
  exact fun _ => ⟨by simp [carried], fun _ _ h => by cases h⟩

theorem status : Statement .status := by
  exact fun _ => ⟨by simp [carried], fun _ _ h => by cases h⟩

theorem stats : Statement .stats := by
  exact fun _ => ⟨by simp [carried], fun _ _ h => by cases h⟩

theorem restart : Statement .restart := by
  exact fun _ => ⟨by simp [carried], fun _ _ h => by cases h⟩

theorem laneMapLoad : Statement .laneMapLoad := by
  exact fun _ => ⟨by simp [carried], fun _ _ h => by cases h⟩

theorem laneMapRead : Statement .laneMapRead := by
  exact fun _ => ⟨by simp [carried], fun _ _ h => by cases h⟩

theorem groupSet : Statement .groupSet := by
  exact fun _ => ⟨by simp [carried], fun _ _ h => by cases h⟩

theorem watchSet : Statement .watchSet := by
  exact fun _ => ⟨by simp [carried], fun _ _ h => by cases h⟩

theorem siteSet : Statement .siteSet := by
  exact fun _ => ⟨by simp [carried], fun _ _ h => by cases h⟩

theorem clockSet : Statement .clockSet := by
  exact fun _ => ⟨by simp [carried], fun _ _ h => by cases h⟩

theorem partition : Statement .partition := by
  exact fun _ => ⟨by simp [carried], fun _ _ h => by cases h⟩

theorem emitStart : Statement .emitStart := by
  exact fun _ => ⟨by simp [carried], fun _ _ h => by cases h⟩

theorem emitStop : Statement .emitStop := by
  exact fun _ => ⟨by simp [carried], fun _ _ h => by cases h⟩

theorem clipOpen : Statement .clipOpen := by
  exact fun _ => ⟨by simp [carried], fun _ _ h => by cases h⟩

theorem clipClose : Statement .clipClose := by
  exact fun _ => ⟨by simp [carried], fun _ _ h => by cases h⟩

theorem clipRemove : Statement .clipRemove := by
  exact fun _ => ⟨by simp [carried], fun _ _ h => by cases h⟩

theorem clipQuery : Statement .clipQuery := by
  exact fun _ => ⟨by simp [carried], fun _ _ h => by cases h⟩

theorem spliceAdd : Statement .spliceAdd := by
  exact fun _ => ⟨by simp [carried], fun _ _ h => by cases h⟩

theorem spliceCancel : Statement .spliceCancel := by
  exact fun _ => ⟨by simp [carried], fun _ _ h => by cases h⟩

theorem spliceQuery : Statement .spliceQuery := by
  exact fun _ => ⟨by simp [carried], fun _ _ h => by cases h⟩

end Sys2Proof.Laws.OperandShape
end

