-- ==== Sys2Proof/Laws/Store.lean ====
section
/-! SUPPORT. The DRAM and the arbiter: reading a block after one was written, the canonical form of the DRAM, and the grants of
R102 and R103. -/

namespace Sys2Proof.Machine

/-! ### The DRAM -/

/-- Reading a block after one was written. -/
theorem dramRead_dramWrite (m : List (Nat × BlockData)) (a b : Nat) (d : BlockData) :
    dramRead (dramWrite m a d) b = if b = a then some d else dramRead m b := by
  induction m with
  | nil => simp [dramWrite, dramRead]
  | cons x rest ih =>
    obtain ⟨c, y⟩ := x
    unfold dramWrite
    by_cases h1 : a < c
    · rw [if_pos h1]
      by_cases hb : b = a <;> simp [dramRead, hb]
    · rw [if_neg h1]
      by_cases h2 : a = c
      · subst h2
        rw [if_pos rfl]
        by_cases hb : b = a <;> simp [dramRead, hb]
      · rw [if_neg h2]
        simp only [dramRead, ih]
        by_cases hc : b = c
        · rw [if_pos hc, if_pos hc, if_neg (fun h => h2 (h.symm.trans hc))]
        · rw [if_neg hc, if_neg hc]

/-- The block numbers of a DRAM rise strictly exactly when the pairs are in order. -/
theorem dramRising_iff (m : List (Nat × BlockData)) :
    dramRising m = true ↔ (m.map Prod.fst).Pairwise (· < ·) := by
  induction m with
  | nil => simp [dramRising]
  | cons x rest ih =>
    cases rest with
    | nil => simp [dramRising]
    | cons y tail =>
      obtain ⟨a, d⟩ := x
      obtain ⟨b, e⟩ := y
      simp only [dramRising, Bool.and_eq_true, decide_eq_true_eq, ih, List.map_cons, List.pairwise_cons]
      constructor
      · rintro ⟨hab, hb, ht⟩
        refine ⟨fun z hz => ?_, hb, ht⟩
        rcases List.mem_cons.1 hz with rfl | hz
        · exact hab
        · exact Nat.lt_trans hab (hb z hz)
      · rintro ⟨ha, hb, ht⟩
        exact ⟨ha b (List.mem_cons_self ..), hb, ht⟩

/-- The block numbers after a write are the old ones and the block written. -/
theorem mem_dramWrite (m : List (Nat × BlockData)) (a : Nat) (d : BlockData) (x : Nat) :
    x ∈ (dramWrite m a d).map Prod.fst ↔ x = a ∨ x ∈ m.map Prod.fst := by
  induction m with
  | nil => simp [dramWrite]
  | cons y rest ih =>
    obtain ⟨c, e⟩ := y
    unfold dramWrite
    by_cases h1 : a < c
    · rw [if_pos h1]; simp
    · rw [if_neg h1]
      by_cases h2 : a = c
      · subst h2; rw [if_pos rfl]; simp
      · rw [if_neg h2, List.map_cons, List.mem_cons, ih, List.map_cons, List.mem_cons]; tauto

/-- A write keeps the block numbers strictly rising. -/
theorem dramWrite_rising (m : List (Nat × BlockData)) (a : Nat) (d : BlockData) (h : dramRising m = true) :
    dramRising (dramWrite m a d) = true := by
  rw [dramRising_iff] at h ⊢
  induction m with
  | nil => simp [dramWrite]
  | cons y rest ih =>
    obtain ⟨c, e⟩ := y
    rw [List.map_cons, List.pairwise_cons] at h
    unfold dramWrite
    by_cases h1 : a < c
    · rw [if_pos h1, List.map_cons, List.pairwise_cons, List.map_cons, List.pairwise_cons]
      refine ⟨fun z hz => ?_, h⟩
      rcases List.mem_cons.1 hz with rfl | hz
      · exact h1
      · exact Nat.lt_trans h1 (h.1 z hz)
    · rw [if_neg h1]
      by_cases h2 : a = c
      · subst h2; rw [if_pos rfl, List.map_cons, List.pairwise_cons]; exact h
      · rw [if_neg h2, List.map_cons, List.pairwise_cons]
        refine ⟨fun z hz => ?_, ih h.2⟩
        rcases (mem_dramWrite rest a d z).1 hz with rfl | hz
        · omega
        · exact h.1 z hz

/-- The canonical form of the DRAM, said over its block numbers. -/
theorem Memory.wf_iff (m : List (Nat × BlockData)) :
    Memory.wf m = true ↔ dramRising m = true ∧ ∀ x ∈ m.map Prod.fst, x < storeBlocks := by
  simp [Memory.wf, List.all_eq_true]

/-- A write into a block of the store keeps the canonical form. -/
theorem dramWrite_wf (m : List (Nat × BlockData)) (a : Nat) (d : BlockData) (h : Memory.wf m = true)
    (ha : a < storeBlocks) : Memory.wf (dramWrite m a d) = true := by
  rw [Memory.wf_iff] at h ⊢
  refine ⟨dramWrite_rising m a d h.1, fun x hx => ?_⟩
  rcases (mem_dramWrite m a d x).1 hx with rfl | hx
  · exact ha
  · exact h.2 x hx

/-- The end of an access on a block of the store keeps the canonical form. -/
theorem CellStore.endAccess_wf (c : CellStore) (h : Memory.wf c.dram = true)
    (hb : ∀ a, c.access = some a → a.block < storeBlocks) : Memory.wf c.endAccess.dram = true := by
  unfold CellStore.endAccess
  split
  · exact h
  · rename_i b d ha
    exact dramWrite_wf _ _ _ h (hb _ ha)
  · exact h

/-- The DRAM right after reset is in canonical form. -/
theorem reset_dram_wf : Memory.wf State.reset.store.dram = true := rfl

/-! ### The arbiter -/

/-- A busy store grants nothing (R98, R102). -/
theorem State.arbitrate_busy {s : State} {a : Access} (h : s.store.access = some a) : s.arbitrate = s := by
  unfold State.arbitrate; rw [h]

/-- An idle store grants a waiting emitter read before any write (R102). -/
theorem State.arbitrate_read {s : State} {r : ReadRequest} (h : s.store.access = none) (hr : s.store.readWaiting = some r) :
    s.arbitrate = { s with store := { s.store with access := some (.read r true), readWaiting := none } } := by
  unfold State.arbitrate; rw [h, hr]

/-- With no request waiting an idle store grants nothing (R102). -/
theorem State.arbitrate_idle {s : State} (h : s.store.access = none) (hr : s.store.readWaiting = none)
    (hn : s.store.nfWaiting = none) (hl : s.store.lfWaiting = none) : s.arbitrate = s := by
  unfold State.arbitrate; simp only [h, hr, hn, hl]

/-- The Network Intake's write is granted before the Local Intake's; where it is given up, the Local Intake's is granted at
once (R102, R103). -/
theorem State.arbitrate_nf {s : State} {r : Record} (h : s.store.access = none) (hr : s.store.readWaiting = none)
    (hn : s.store.nfWaiting = some r) :
    s.arbitrate =
      match (s.grantNf r).store.access, s.store.lfWaiting with
      | none, some w => (s.grantNf r).grantLf w
      | _, _ => s.grantNf r := by
  have hl : (s.grantNf r).store.lfWaiting = s.store.lfWaiting := by simp
  unfold State.arbitrate
  simp only [h, hr, hn, hl]
  cases (s.grantNf r).store.access <;> cases s.store.lfWaiting <;> rfl

/-- With neither an emitter read nor a Network Intake write waiting, the Local Intake's write is granted (R102). -/
theorem State.arbitrate_lf {s : State} {w : ClipWrite} (h : s.store.access = none) (hr : s.store.readWaiting = none)
    (hn : s.store.nfWaiting = none) (hl : s.store.lfWaiting = some w) : s.arbitrate = s.grantLf w := by
  unfold State.arbitrate; simp only [h, hr, hn, hl]

end Sys2Proof.Machine
end

