-- ==== Sys2Proof/Tests/Slice0.lean ====
section
/-! SUPPORT. The model's own tests: the well-formedness smoke tests, steps of the spec's worked examples, and for every
statement with hypotheses a state and operands that meet them, clause by clause. -/

namespace Sys2Proof.Tests

open Sys2Proof Sys2Proof.Machine

/-! ### Well-formedness: each check refuses an ill-formed term -/

theorem test_presync_without_bytes : Instr.wellFormed (.presyncHeader .nf []) = false := by decide

theorem test_presync_past_a_header : Instr.wellFormed (.presyncHeader .nf (List.replicate 137 0)) = false := by decide +kernel

theorem test_sync_without_bytes : Instr.wellFormed (.syncHeader .lf []) = false := by decide

theorem test_sync_past_a_header : Instr.wellFormed (.syncHeader .lf (List.replicate 137 0)) = false := by decide +kernel

theorem test_delivery_without_bytes : Instr.wellFormed (.cellDelivery .nf []) = false := by decide

theorem test_delivery_past_a_cell : Instr.wellFormed (.cellDelivery .nf (List.replicate 129 0)) = false := by decide +kernel

theorem test_staging_of_clip_64 : Instr.wellFormed (.emitterStagingRead (.clipCell 64 0)) = false := by decide

theorem test_staging_of_member_4 : Instr.wellFormed (.emitterStagingRead (.clipCell 63 4)) = false := by decide

/-! ### States for the tests -/

/-- The state a row leaves, from a step that ends in a next state. -/
def after (i : Instr) (s : State) : Option State :=
  match exec i s with
  | .next t => some t
  | .fault _ => none
  | .refused _ => none

/-- A clock right after reset but for its subsecond and state. -/
def clockIn (sub : Nat) (x : ClockState) : SiteClock := { SiteClock.afterReset with subsecond := sub, state := x }

/-- The reset state with another clock. -/
def clocked (c : SiteClock) : State := { State.reset with clock := c }

/-- A current plan: hold 0, 1,000 slots, effective from second 0. -/
def plan1000 : Plan := ⟨0, 1000, 0⟩

/-- A clock in step. -/
def inStepClock (sub : Nat) : SiteClock := { clockIn sub .locked with secondValid := true }

/-- A RUNNING emitter with 1,000 slots a second at slot 0, a current plan, a queue, and a clock in step at the start of slot
1. -/
def onAir (queue : List Record) : State :=
  { State.reset with
    clock := inStepClock 10000
    plan := { State.reset.plan with current := some plan1000 }
    emitter := { State.reset.emitter with state := .running, kNow := some 1000, kPrev := some 1000 }
    queue := queue }

/-- A record of a PASS lane with a target. -/
def record (sec : Word32) (slot : Nat) : Record := ⟨5, 9, none, ⟨sec, 0⟩, ⟨sec, slot⟩, true, true, false, []⟩

/-- A record of a member of group 0 with flags and a nominal time. -/
def groupRecord (member : Nat) (start safe : Bool) (n : Time) : Record :=
  ⟨5, 9, some ⟨0, member⟩, n, ⟨0, 1⟩, start, safe, false, []⟩

/-- A cell of a kind on a lane. -/
def cellOf (kind : Kind) (lane : BitVec 10) (payload : List Byte) : Cell :=
  ⟨⟨lane, kind, false, false, false, false, 0, 0, 0⟩, payload⟩

/-- A command from network origin, addressed to site 0 with epoch 1, as State.reset has them. -/
def command (code : Byte) (args : List Byte) : Command :=
  ⟨.network, [1, code, 0, 7, 0, 0, 0, 0, 0, 1] ++ args⟩

/-- A state with a command at the head of its command queue. -/
def asked (s : State) (c : Command) : State := { s with control := { State.reset.control with queue := [c] } }

/-- A command is granted when it is a command to this site with its epoch, from network origin. -/
theorem granted (s : State) (name : CommandName) (c : Command) (h1 : c.recordType = 1) (h2 : c.address = 0)
    (h3 : commandOfCode c.code = some name) (h4 : c.epoch = 1) (h5 : c.origin = .network) : (asked s c).grants name c where
  head := ⟨[], rfl⟩
  ours := by
    unfold ControlUnit.foreign
    rw [h1, h2]
    rfl
  place := by show 0 < 16; decide
  code := h3
  epoch := fun _ _ => h4
  origin := fun h => by rw [h5] at h; cases h

/-! ### The spec's worked examples -/

/-- R168's example: lane 201, DATA, start, safe and discontinuity 1, count 32, N 7,000,020:300,000. -/
theorem test_header_bytes :
    (Header.firstSeven ⟨201, .data, true, true, true, false, 32, 0, 300000⟩) = [0xB5, 0x32, 0x4E, 0x80, 0x04, 0x93, 0xE0] := by
  decide

/-- R114: a clip that has appended no cell has check value 0. -/
theorem test_empty_check : ClipRecord.blank.checkValue = 0 := by decide

/-- R53: second 0 is later than second 4,294,967,295, and a difference of 2^31 counts as earlier. -/
theorem test_seconds_wrap :
    secondLater 0 4294967295 = true ∧ secondEarlier 0 2147483648 = true ∧ secondEarlier 2147483648 0 = true := by decide

/-- R63: the nominal time of the marker slot with T = −1,250 and with T = +300,000. -/
theorem test_marker_time : Time.shift ⟨100, 0⟩ 1250 = ⟨100, 1250⟩ ∧ Time.shift ⟨100, 0⟩ (-300000) = ⟨99, 9700000⟩ := by decide

/-- R71's example: target (c − 1, 26,110) with K_prev 26,112 at slot 3 of c; and the target of a slot its second did not have. -/
theorem test_lateness :
    lateness 50 3 26112 26112 ⟨49, 26110⟩ = .due 5 ∧ lateness 50 1 26112 20000 ⟨49, 25000⟩ = .due 0 ∧
      lateness 50 1 26112 26112 ⟨48, 26000⟩ = .tooLate := by decide

/-- R69: E_sub 0 targets slot 1 of its own second, and an E after the last slot's start slot 1 of the next. -/
theorem test_target : targetSlot ⟨7, 0⟩ 1000 = ⟨7, 1⟩ ∧ targetSlot ⟨7, 9990001⟩ 1000 = ⟨8, 1⟩ ∧
    targetSlot ⟨7, 9990000⟩ 1000 = ⟨7, 999⟩ := by decide

/-- R8: a pulse at the exact end of the first half is filed against the boundary passed, the next tick against the coming. -/
theorem test_pulse_sides :
    (after .pulse (clocked (clockIn 4999999 .locked))).map (·.clock.passed) = some (some ⟨4999999, 4999999⟩) ∧
    (after .pulse (clocked (clockIn 5000000 .locked))).map (·.clock.coming) = some (some ⟨-5000000, -5000000⟩) := by decide

/-- R3 and R14: a loss in LOCKED enters HOLDOVER with hold count 0. -/
theorem test_frequency_loss :
    (after .frequencyLoss (clocked (clockIn 0 .locked))).map (fun t => (t.clock.state, t.clock.hold, t.control.monitor.length)) =
      some (.holdover, 0, 1) := by decide

/-- R2: the boundary by the counted edge at 9,999,999. -/
theorem test_boundary :
    (after .countedEdge (clocked (clockIn 9999999 .unlocked))).map (fun t => (t.clock.subsecond, t.clock.second)) =
      some (0, 1) := by decide +kernel

/-- R160: a code that names no command is replied UNKNOWN, code 13, with the tag echoed. -/
theorem test_unknown :
    (after .unknown (asked State.reset (command 0x7F []))).map (fun t =>
      (t.control.queue.length, t.control.monitor.map (fun m => (m.payload.take 12)))) =
      some (0, [[2, 0x7F, 0, 7, 0, 0, 0, 0, 0, 1, 13, 0]]) := by decide +kernel

/-- R78: EMIT START without a plan is refused NO_PLAN, code 11. -/
theorem test_emit_start :
    (after .emitStart (asked State.reset (command 0x30 []))).map (fun t =>
      (t.emitter.change, t.control.monitor.map (fun m => m.payload.drop 10 |>.take 1))) = some (.none, [[11]]) := by decide +kernel

/-- R113 and R115 on clip 7: opened with two members. -/
theorem test_clip_open :
    (after .clipOpen (asked State.reset (command 0x40 [7, 2]))).map (fun t =>
      ((t.clipAt 7).state, (t.clipAt 7).memberCount, t.control.monitor.map (fun m => m.payload.drop 10 |>.take 7))) =
      some (.loading, some 2, [[0, 0, 7, 1, 2, 3, 0]]) := by decide +kernel

/-! ### Witnesses: the hypotheses of the statements are met -/

/-- A full reset by the pin whose epoch counter is itself the new epoch. -/
theorem witness_FullReset :
    let s := { State.reset with control := { State.reset.control with epochCounter := 5 } }
    s.control.epochCounter ≠ 0 ∧ s.control.epochCounter ≠ s.control.epoch := by decide

/-- A step's two forms: a command in front, and none. -/
theorem witness_StepRunsTheFrontCommand :
    ({ State.reset with pending := [.pulse] } : State).pending = .pulse :: [] ∧ State.reset.pending = [] := ⟨rfl, rfl⟩

/-- A state at a subsecond with a current plan and a stale timer. -/
def timed (sub timer : Nat) : State :=
  { State.reset with
    clock := clockIn sub .unlocked
    plan := { State.reset.plan with current := some plan1000, staleTimer := timer } }

theorem witness_CountedEdgeInsideASecond :
    (clocked (clockIn 9999998 .unlocked)).clock.subsecond < 9999999 ∧
    (clocked (clockIn 9999998 .unlocked)).plan.current = none ∧
    ((timed 0 80000000).clock.subsecond < 9999999 ∧ 80000000 ≤ (timed 0 80000000).plan.staleTimer) ∧
    ((timed 0 79999998).plan.current ≠ none ∧ (timed 0 79999998).plan.staleTimer < 79999999) ∧
    ((timed 0 79999999).plan.current ≠ none ∧ (timed 0 79999999).plan.staleTimer = 79999999) := by decide

/-- A clock at the last tick of a second with an announced second and a mismatch count. -/
def atEnd (x : ClockState) (announced : Option Word32) (mismatch : Nat) : SiteClock :=
  { clockIn 9999999 x with announced := announced, mismatch := mismatch }

theorem witness_BoundaryAdvancesTheClock :
    (∀ c ∈ [atEnd .unlocked none 0, atEnd .acquiring (some 9) 0, atEnd .locked (some 1) 2, atEnd .holdover (some 9) 1,
        atEnd .locked (some 9) 2], (clocked c).clock.subsecond = 9999999) ∧
    (atEnd .unlocked none 0).announced = none ∧
    ((atEnd .acquiring (some 9) 0).announced = some 9 ∧ (atEnd .acquiring (some 9) 0).state = .acquiring) ∧
    ((atEnd .locked (some 1) 2).announced = some ((atEnd .locked (some 1) 2).second + 1)) ∧
    ((9 : Word32) ≠ (atEnd .holdover (some 9) 1).second + 1 ∧ (atEnd .holdover (some 9) 1).mismatch ≤ 1) ∧
    ((9 : Word32) ≠ (atEnd .locked (some 9) 2).second + 1 ∧ (atEnd .locked (some 9) 2).mismatch = 2) := by decide

theorem witness_ReferenceInputs :
    (clocked (clockIn 0 .locked)).clock.state = .locked ∧ (clocked (clockIn 0 .acquiring)).clock.state = .acquiring ∧
    (clocked (clockIn 0 .unlocked)).clock.state = .unlocked ∧ (clocked (clockIn 0 .holdover)).clock.state = .holdover := by
  decide

/-- A clock at a subsecond with pulses filed. -/
def pulsed (sub : Nat) (passed coming : Option PhaseErrors) : SiteClock :=
  { clockIn sub .locked with passed := passed, coming := coming }

theorem witness_PulseIsFiledAgainstItsBoundary :
    ((pulsed 4999999 none none).subsecond < 5000000 ∧ (pulsed 4999999 none none).passed = none) ∧
    (4999998 < ((⟨4999999, 4999999⟩ : PhaseErrors).nearest.natAbs) ∧ (pulsed 4999998 (some ⟨4999999, 4999999⟩) none).subsecond = 4999998) ∧
    ((⟨-7, -7⟩ : PhaseErrors).nearest.natAbs ≤ (pulsed 7 (some ⟨-7, -7⟩) none).subsecond) ∧
    (5000000 ≤ (pulsed 5000000 none none).subsecond ∧ (pulsed 5000000 none none).coming = none) ∧
    (10000000 - (pulsed 9999999 none (some ⟨-2, -2⟩)).subsecond < (⟨-2, -2⟩ : PhaseErrors).nearest.natAbs) ∧
    ((⟨-1, -1⟩ : PhaseErrors).nearest.natAbs ≤ 10000000 - (pulsed 9999999 none (some ⟨-1, -1⟩)).subsecond) := by decide

/-- A clock at the verdict with a passed-boundary record and a bad count. -/
def judged (x : ClockState) (passed : Option PhaseErrors) (bad : Nat) : SiteClock :=
  { clockIn 5000000 x with passed := passed, bad := bad }

/-- A pulse within the window of 10 ticks calls for GOOD. -/
theorem good_of (x : ClockState) (bad : Nat) : (judged x (some ⟨10, 10⟩) bad).goodPulse :=
  ⟨⟨10, 10⟩, rfl, by show (10 : Int).natAbs ≤ 10; decide⟩

/-- A pulse one tick beyond the window calls for BAD. -/
theorem bad_of (x : ClockState) (bad : Nat) : (judged x (some ⟨-11, -11⟩) bad).badPulse (-11) :=
  ⟨⟨-11, -11⟩, rfl, by show 10 < (-11 : Int).natAbs; decide, rfl⟩

/-- The verdict is due in these clocks. -/
theorem due_of (x : ClockState) (p : Option PhaseErrors) (bad : Nat) : (judged x p bad).verdictDue := ⟨rfl, rfl⟩

theorem witness_VerdictInUnlockedAndAcquiring :
    ((judged .unlocked (some ⟨10, 10⟩) 0).verdictDue ∧ (judged .unlocked (some ⟨10, 10⟩) 0).goodPulse) ∧
    ((judged .acquiring (some ⟨10, 10⟩) 0).verdictDue ∧ (judged .acquiring (some ⟨10, 10⟩) 0).goodPulse) ∧
    (∃ c : SiteClock, c.verdictDue ∧ c.goodPulse ∧ c.state = .acquiring ∧
      2 ≤ c.good ∧ c.secondValid = true ∧ c.freqPresent = true) ∧
    ((judged .unlocked none 0).verdictDue ∧ (judged .unlocked none 0).passed = none) ∧
    ((judged .acquiring none 0).verdictDue ∧ (judged .acquiring none 0).passed = none) :=
  ⟨⟨due_of _ _ _, good_of _ _⟩, ⟨due_of _ _ _, good_of _ _⟩,
    ⟨{ judged .acquiring (some ⟨10, 10⟩) 0 with good := 2, secondValid := true, freqPresent := true }, ⟨rfl, rfl⟩,
      ⟨⟨10, 10⟩, rfl, by decide⟩, rfl, by decide, rfl, rfl⟩,
    ⟨due_of _ _ _, rfl⟩, ⟨due_of _ _ _, rfl⟩⟩

theorem witness_VerdictInLocked :
    ((judged .locked (some ⟨10, 10⟩) 0).verdictDue ∧ (judged .locked (some ⟨10, 10⟩) 0).goodPulse) ∧
    ((judged .locked (some ⟨-11, -11⟩) 1).badPulse (-11) ∧ (judged .locked (some ⟨-11, -11⟩) 1).bad < 2) ∧
    ((judged .locked (some ⟨-11, -11⟩) 2).badPulse (-11) ∧ (judged .locked (some ⟨-11, -11⟩) 2).bad = 2) ∧
    ((judged .locked none 0).passed = none ∧ 0 < (judged .locked none 0).limit) ∧
    (∃ c : SiteClock, c.verdictDue ∧ c.state = .locked ∧ c.passed = none ∧ c.limit = 0) :=
  ⟨⟨due_of _ _ _, good_of _ _⟩, ⟨bad_of _ _, by decide⟩, ⟨bad_of _ _, rfl⟩, ⟨rfl, by decide⟩,
    ⟨{ judged .locked none 0 with limit := 0 }, ⟨rfl, rfl⟩, rfl, rfl, rfl⟩⟩

theorem witness_VerdictInHoldover :
    (∃ c : SiteClock, c.verdictDue ∧ c.state = .holdover ∧ c.goodPulse ∧ c.freqPresent = true) ∧
    ((judged .holdover (some ⟨-11, -11⟩) 2).verdictDue ∧ (judged .holdover (some ⟨-11, -11⟩) 2).badPulse (-11)) ∧
    ((judged .holdover (some ⟨10, 10⟩) 0).goodPulse ∧ (judged .holdover (some ⟨10, 10⟩) 0).freqPresent = false) ∧
    ((judged .holdover (some ⟨-11, -11⟩) 1).badPulse (-11) ∧ (judged .holdover (some ⟨-11, -11⟩) 1).bad < 2) ∧
    (∃ c : SiteClock, c.verdictDue ∧ c.state = .holdover ∧ c.passed = none ∧ c.hold + 1 = c.limit) ∧
    (∃ c : SiteClock, c.verdictDue ∧ c.state = .holdover ∧ c.passed = none ∧ c.hold = c.limit) :=
  ⟨⟨{ judged .holdover (some ⟨10, 10⟩) 0 with freqPresent := true }, ⟨rfl, rfl⟩, rfl, ⟨⟨10, 10⟩, rfl, by decide⟩, rfl⟩,
    ⟨due_of _ _ _, bad_of _ _⟩, ⟨good_of _ _, rfl⟩, ⟨bad_of _ _, by decide⟩,
    ⟨{ judged .holdover none 0 with hold := 299 }, ⟨rfl, rfl⟩, rfl, rfl, rfl⟩,
    ⟨{ judged .holdover none 0 with hold := 300 }, ⟨rfl, rfl⟩, rfl, rfl, rfl⟩⟩

/-- Steps backward, forward over slots, and by −5,000,000 into a boundary. -/
theorem witness_VerdictStepsTheCount :
    (judged .acquiring (some ⟨4999999, 4999999⟩) 0).badPulse 4999999 ∧
    (∃ s : State, s.clock.verdictDue ∧ s.clock.badPulse (-11) ∧ s.clock.stepsOnBad ∧ s.clock.state ≠ .acquiring ∧
      s.emitter.state ≠ .stopped ∧ s.emitter.kNow = some 1000 ∧ s.emitter.slot < 1000) ∧
    ((judged .unlocked (some ⟨-5000000, -5000000⟩) 0).verdictDue ∧
      (judged .unlocked (some ⟨-5000000, -5000000⟩) 0).badPulse (-5000000) ∧
      (judged .unlocked (some ⟨-5000000, -5000000⟩) 0).stepsOnBad) :=
  ⟨⟨⟨4999999, 4999999⟩, rfl, by decide, rfl⟩,
    ⟨{ onAir [] with clock := judged .locked (some ⟨-11, -11⟩) 2 }, ⟨rfl, rfl⟩, bad_of _ _, .inr (.inr rfl), by decide,
      by decide, rfl, by decide⟩,
    ⟨rfl, rfl⟩, ⟨⟨-5000000, -5000000⟩, rfl, by decide, rfl⟩, .inl rfl⟩

/-- A state at the last tick of a second with plans and an emitter. -/
def ending (pending : Option Plan) (timer : Nat) (x : EmitterState) (change : PendingChange) (clock : ClockState) : State :=
  { State.reset with
    clock := { clockIn 9999999 clock with secondValid := true }
    plan := { State.reset.plan with current := some plan1000, pending := pending, staleTimer := timer }
    emitter := { State.reset.emitter with state := x, change := change, kNow := some 1000 } }

/-- A state with the clock at a verdict that steps by −5,000,000. -/
def stepping (s : State) (x : ClockState) : State := { s with clock := judged x (some ⟨-5000000, -5000000⟩) 2 }

/-- Such a verdict takes a boundary. -/
theorem stepping_takes (s : State) (x : ClockState) : (stepping s x).takesBoundary .verdict :=
  .inr ⟨⟨rfl, rfl⟩, .inr (.inr rfl), ⟨⟨-5000000, -5000000⟩, rfl, by show 10 < (-5000000 : Int).natAbs; decide, rfl⟩, rfl⟩

theorem witness_BoundaryChangesPlanAndEmitter :
    (∀ s ∈ [ending none 79999998 .stopped .none .locked, ending (some ⟨0, 1000, 1⟩) 79999999 .stopped .start .locked,
        ending (some ⟨0, 1000, 2⟩) 80000000 .running .stop .locked, ending none 0 .muted .none .locked,
        ending none 0 .running .none .unlocked], s.takesBoundary .secondBoundary ∧ s.takesBoundary .countedEdge) ∧
    (∀ pending timer x change, (stepping (ending pending timer x change .locked) .locked).takesBoundary .verdict ∧
      (stepping (ending pending timer x change .locked) .locked).clock.subsecond ≠ 9999999) ∧
    secondNoLater 1 (0 + 1 : Word32) = true ∧ secondNoLater 2 (0 + 1 : Word32) = false ∧
    (clocked (clockIn 9999999 .unlocked)).emitter.kNow = none ∧ (clocked (clockIn 9999999 .unlocked)).plan.current = none := by
  refine ⟨fun s hs => ?_, fun _ _ _ _ => ⟨stepping_takes _ _, by show 5000000 ≠ 9999999; decide⟩, by decide⟩
  have : s.clock.subsecond = 9999999 := by
    revert s
    decide
  exact ⟨.inl ⟨this, .inl rfl⟩, .inl ⟨this, .inr rfl⟩⟩

/-- The second after these boundaries begins with a marker, and after the others it does not. -/
theorem witness_BoundarySendsTheMarker :
    (after .secondBoundary (ending none 0 .muted .none .locked)).map (·.emitter.state) = some .running ∧
    (after .secondBoundary (ending none 0 .stopped .none .locked)).map (·.emitter.state) = some .stopped ∧
    (after .verdict (stepping (ending none 0 .running .none .locked) .locked)).map (·.emitter.state) = some .muted ∧
    (after .verdict (stepping (ending none 0 .stopped .none .locked) .locked)).map (·.emitter.state) = some .stopped := by
  decide +kernel

/-- An order for group 0 and clip 0. -/
def order0 : SpliceOrder := ⟨.network, 0, 0, ⟨1, 0⟩, ⟨2, 0⟩⟩

/-- One event of group 0 and clip 0, ARMED or IN, at the last tick of second `sec` of an emitter. -/
def live (x : EventState) (g : GroupState) (k : ClipState) (sec : Word32) (m : EmitterState) (change : PendingChange)
    (clock : ClockState) : State :=
  { ending none 0 m change clock with
    clock := { clockIn 9999999 clock with second := sec, secondValid := true }
    events := setRow State.reset.events 0 { EventRecord.blank with state := x, order := some order0 }
    groups := setRow State.reset.groups 0 ⟨false, g, some 0⟩
    clips := setRow State.reset.clips 0 { ClipRecord.blank with state := k } }

/-- The laws hold of a state with one live event of group 0 and clip 0. -/
theorem live_spliceLaw (x : EventState) (g : GroupState) (k : ClipState) (sec : Word32) (m : EmitterState) (ch : PendingChange)
    (clk : ClockState) (h : (x = .armed ∧ g = .idle ∧ k = .cued) ∨ (x = .onAir ∧ g = .spliced ∧ k = .playing)) :
    (live x g k sec m ch clk).spliceLaw := by
  have he : ∀ e, (live x g k sec m ch clk).eventAt e =
      if 0 = e ∧ e < 32 then { EventRecord.blank with state := x, order := some order0 } else .blank := fun e => by
    show rowAt (setRow _ _ _) _ _ = _
    rw [rowAt_setRow]
    split
    · rfl
    · exact rowAt_replicate _ _
  have hg : ∀ n, (live x g k sec m ch clk).groupAt n = if 0 = n ∧ n < 16 then ⟨false, g, some 0⟩ else .afterReset := fun n => by
    show rowAt (setRow _ _ _) _ _ = _
    rw [rowAt_setRow]
    split
    · rfl
    · exact rowAt_replicate _ _
  have hc : ∀ n, (live x g k sec m ch clk).clipAt n =
      if 0 = n ∧ n < 64 then { ClipRecord.blank with state := k } else .blank := fun n => by
    show rowAt (setRow _ _ _) _ _ = _
    rw [rowAt_setRow]
    split
    · rfl
    · exact rowAt_replicate _ _
  have held : ∀ e, ((live x g k sec m ch clk).eventAt e).state.held → e = 0 := fun e hh => by
    rw [he] at hh
    split at hh
    · omega
    · rcases hh with hh | hh <;> cases hh
  have given : ((live x g k sec m ch clk).eventAt 0).given = order0 := by rw [he]; rfl
  have state : ((live x g k sec m ch clk).eventAt 0).state = x := by rw [he]; rfl
  have live0 : ((live x g k sec m ch clk).eventAt 0).state.held := by
    rw [state]; rcases h with ⟨rfl, -⟩ | ⟨rfl, -⟩; exact .inl rfl; exact .inr rfl
  refine ⟨⟨List.nodup_nil, fun e => ⟨fun hm => (by cases hm), fun hm => ?_⟩, fun e hm => (by cases hm)⟩, ⟨?_, ?_, ?_⟩,
    ⟨?_, ?_, ?_, ?_⟩⟩
  · have hp := hm.2
    rw [he] at hp
    split at hp
    · rcases h with ⟨rfl, -⟩ | ⟨rfl, -⟩ <;> cases hp
    · cases hp
  · intro e _ hh
    obtain rfl := held e hh
    rw [given, hg]
    exact ⟨by decide, rfl⟩
  · intro n hn e ha
    rw [hg] at ha
    split at ha
    · rename_i h0
      cases ha
      exact ⟨by decide, live0, by rw [given, ← h0.1]; rfl⟩
    · cases ha
  · intro n hn
    rw [hg]
    split
    · constructor
      · intro hs
        refine ⟨0, rfl, ?_⟩
        rw [state]
        rcases h with ⟨-, rfl, -⟩ | ⟨rfl, -⟩
        · cases hs
        · rfl
      · rintro ⟨e, ha, hs⟩
        cases ha
        rw [state] at hs
        rcases h with ⟨rfl, -⟩ | ⟨-, rfl, -⟩
        · cases hs
        · rfl
    · constructor
      · intro hs; cases hs
      · rintro ⟨e, ha, -⟩; cases ha
  · intro n hn
    rw [hc]
    constructor
    · intro hs
      refine ⟨0, by decide, ?_⟩
      split at hs
      · rename_i h0
        rw [state, given]
        rcases h with ⟨rfl, -, rfl⟩ | ⟨-, -, rfl⟩
        · exact ⟨rfl, h0.1⟩
        · cases hs
      · cases hs
    · rintro ⟨e, -, hs, hn0⟩
      obtain rfl := held e (.inl hs)
      rw [given] at hn0
      rw [state] at hs
      rw [if_pos ⟨hn0, hn⟩]
      rcases h with ⟨-, -, rfl⟩ | ⟨rfl, -⟩
      · rfl
      · cases hs
  · intro n hn
    rw [hc]
    constructor
    · intro hs
      refine ⟨0, by decide, ?_⟩
      split at hs
      · rename_i h0
        rw [state, given]
        rcases h with ⟨-, -, rfl⟩ | ⟨rfl, -, rfl⟩
        · cases hs
        · exact ⟨rfl, h0.1⟩
      · cases hs
    · rintro ⟨e, -, hs, hn0⟩
      obtain rfl := held e (.inr hs)
      rw [given] at hn0
      rw [state] at hs
      rw [if_pos ⟨hn0, hn⟩]
      rcases h with ⟨rfl, -⟩ | ⟨-, -, rfl⟩
      · cases hs
      · rfl
  · intro e _ f _ h1 h2 _
    rw [held e h1, held f h2]
  · intro e _ hh
    obtain rfl := held e hh
    rw [given]; decide

/-- A PENDING event whose in-time is two seconds after the coming boundary. -/
def dueNext : State :=
  { ending none 0 .stopped .none .locked with
    events := setRow State.reset.events 0
      { EventRecord.blank with state := .pending, order := some { order0 with inTime := ⟨3, 0⟩, outTime := ⟨4, 0⟩ } }
    order := [0] }

/-- The laws hold of a state with one PENDING event. -/
theorem dueNext_spliceLaw : dueNext.spliceLaw := by
  have he : ∀ e, dueNext.eventAt e = if 0 = e ∧ e < 32 then
      { EventRecord.blank with state := .pending, order := some { order0 with inTime := ⟨3, 0⟩, outTime := ⟨4, 0⟩ } }
      else .blank := fun e => by
    show rowAt (setRow _ _ _) _ _ = _
    rw [rowAt_setRow]
    split
    · rfl
    · exact rowAt_replicate _ _
  have hg : ∀ n, dueNext.groupAt n = .afterReset := fun n => rowAt_replicate _ _
  have hc : ∀ n, dueNext.clipAt n = .blank := fun n => rowAt_replicate _ _
  have held : ∀ e, ¬(dueNext.eventAt e).state.held := fun e hh => by
    rw [he] at hh
    split at hh <;> rcases hh with hh | hh <;> cases hh
  refine ⟨⟨by decide, fun e => ⟨fun h => ?_, fun h => ?_⟩, fun e h => ?_⟩, ⟨fun e _ h => absurd h (held e), fun n _ e h => ?_,
    fun n _ => ⟨fun h => ?_, fun ⟨e, h, _⟩ => ?_⟩⟩, ⟨fun n _ => ⟨fun h => ?_, fun ⟨e, _, h, _⟩ => absurd (.inl h) (held e)⟩,
    fun n _ => ⟨fun h => ?_, fun ⟨e, _, h, _⟩ => absurd (.inr h) (held e)⟩, fun e _ _ _ h => absurd h (held e),
    fun e _ h => absurd h (held e)⟩⟩
  · obtain rfl : e = 0 := by simpa using (show e ∈ [0] from h)
    exact ⟨by decide, by rw [he]; rfl⟩
  · have h2 := h.2
    rw [he] at h2
    split at h2
    · rename_i h0
      rw [← h0.1]; exact List.mem_singleton.2 rfl
    · cases h2
  · obtain rfl : e = 0 := by simpa using (show e ∈ [0] from h)
    rw [he]; decide
  · rw [hg] at h; cases h
  · rw [hg] at h; cases h
  · rw [hg] at h; cases h
  · rw [hc] at h; cases h
  · rw [hc] at h; cases h

/-- The clock does not touch the splice law. -/
theorem stepping_spliceLaw {s : State} (x : ClockState) (h : s.spliceLaw) : (stepping s x).spliceLaw :=
  ⟨⟨h.order.once, h.order.exact, h.order.group⟩, ⟨h.groups.held, h.groups.active, h.groups.spliced⟩,
    ⟨h.clips.cued, h.clips.playing, h.clips.single, h.clips.known⟩⟩

/-- An event due at the boundary; an ARMED event missed at the boundary into its out-time's second; one IN past its forced end; one IN
at a stop and at a loss of step, before its forced end and past it; and one IN at a boundary that a step takes. -/
theorem witness_BoundaryEndsEvents :
    (dueNext.spliceLaw ∧ dueNext.takesBoundary .secondBoundary ∧ dueNext.order = [0] ∧
      Time.noLater ⟨(dueNext.eventAt 0).given.inTime.sec - 2, (dueNext.eventAt 0).given.inTime.sub⟩ ⟨dueNext.clock.second + 1, 0⟩ = true) ∧
    (∃ s : State, s.spliceLaw ∧ s.takesBoundary .countedEdge ∧ (s.eventAt 0).state = .armed ∧
      (s.eventAt 0).given.outTime.noLater ⟨s.clock.second + 1, 0⟩ = true) ∧
    (∃ s : State, s.spliceLaw ∧ s.takesBoundary .secondBoundary ∧ s.emitter.state = .running ∧ s.emitter.change = .none ∧
      s.clock.inStep = true ∧ (s.eventAt 0).state = .onAir ∧ (s.switchAt (s.eventAt 0).given.group).pOut = none ∧
      Time.noEarlier ⟨s.clock.second + 1, 0⟩ ((s.eventAt 0).threshold.addSeconds 2) = true) ∧
    (∀ sec ∈ [(0 : Word32), 3], ∃ s : State, s.spliceLaw ∧ s.takesBoundary .secondBoundary ∧ s.clock.second = sec ∧
      s.emitter.state = .running ∧ s.emitter.change = .stop ∧ (s.eventAt 0).state = .onAir) ∧
    (∀ sec ∈ [(0 : Word32), 3], ∃ s : State, s.spliceLaw ∧ s.takesBoundary .secondBoundary ∧ s.clock.second = sec ∧
      s.emitter.state = .running ∧ s.emitter.change = .none ∧ s.clock.inStep = false ∧ (s.eventAt 0).state = .onAir) ∧
    Time.noEarlier ⟨1, 0⟩ (order0.outTime.addSeconds 2) = false ∧ Time.noEarlier ⟨4, 0⟩ (order0.outTime.addSeconds 2) = true ∧
    (∃ s : State, s.spliceLaw ∧ s.takesBoundary .verdict ∧ s.emitter.state = .running ∧ (s.eventAt 0).state = .onAir) :=
  ⟨⟨dueNext_spliceLaw, .inl ⟨rfl, .inl rfl⟩, rfl, by decide⟩,
    ⟨live .armed .idle .cued 1 .stopped .none .locked, live_spliceLaw _ _ _ _ _ _ _ (.inl ⟨rfl, rfl, rfl⟩), .inl ⟨rfl, .inr rfl⟩,
      by decide, by decide⟩,
    ⟨live .onAir .spliced .playing 3 .running .none .locked, live_spliceLaw _ _ _ _ _ _ _ (.inr ⟨rfl, rfl, rfl⟩),
      .inl ⟨rfl, .inl rfl⟩, rfl, rfl, rfl, by decide, by decide, by decide⟩,
    fun sec _ => ⟨live .onAir .spliced .playing sec .running .stop .locked, live_spliceLaw _ _ _ _ _ _ _ (.inr ⟨rfl, rfl, rfl⟩),
      .inl ⟨rfl, .inl rfl⟩, rfl, rfl, rfl, rfl⟩,
    fun sec _ => ⟨live .onAir .spliced .playing sec .running .none .unlocked, live_spliceLaw _ _ _ _ _ _ _ (.inr ⟨rfl, rfl, rfl⟩),
      .inl ⟨rfl, .inl rfl⟩, rfl, rfl, rfl, rfl, rfl⟩, by decide, by decide,
    ⟨stepping (live .onAir .spliced .playing 0 .running .none .locked) .locked,
      stepping_spliceLaw _ (live_spliceLaw _ _ _ _ _ _ _ (.inr ⟨rfl, rfl, rfl⟩)), stepping_takes _ _, rfl, by decide⟩⟩

/-- A Network Intake in a state. -/
def intakeIn (d : Delineation) (window : List Byte) (taken : Nat) (expected presync : Option Nat) (badRun : Nat)
    (cell : Option Cell) : State :=
  { State.reset with nf := { Intake.afterReset with
      delineation := d, window := window, taken := taken, expected := expected, presyncCount := presync, badRun := badRun,
      inProgress := cell } }

/-- The eight bytes of a good header: the fill cell's. -/
def goodBytes : List Byte := fillCell.header.bytes

/-- The fill cell's header is good. -/
theorem goodBytes_good : goodHeader goodBytes := ⟨rfl, rfl, by decide +kernel⟩

/-- Eight zero bytes are no good header. -/
theorem zeroBytes_bad : ¬goodHeader (List.replicate 8 0) := fun h => by
  have := h.2.1
  revert this
  decide

theorem witness_HuntJudgesEveryPosition :
    (∃ (s : State) (b : Byte), (s.intake .nf).delineation = .hunt ∧ goodHeader (lastEight ((s.intake .nf).window ++ [b]))) ∧
    (∃ (s : State) (b : Byte), (s.intake .nf).delineation = .hunt ∧ ¬goodHeader (lastEight ((s.intake .nf).window ++ [b]))) :=
  ⟨⟨intakeIn .hunt (goodBytes.take 7) 57 none none 0 none, goodBytes.getLast!, rfl, goodBytes_good⟩,
    ⟨intakeIn .hunt (List.replicate 7 0) 7 none none 0 none, 0, rfl, zeroBytes_bad⟩⟩

/-- The worked example of R22: the header at 186 is judged when byte 193 is taken, the one at 322 when byte 329 is. -/
theorem witness_PresyncConfirmsOrReturnsToHunt :
    (∃ s : State, (s.intake .nf).delineation = .presync ∧ (s.intake .nf).expected = some 186 ∧
      (s.intake .nf).taken + 135 < 186 + 8) ∧
    (∃ s : State, (s.intake .nf).delineation = .presync ∧ (s.intake .nf).expected = some 186 ∧
      (s.intake .nf).presyncCount = some 1 ∧ (s.intake .nf).taken + goodBytes.length = 186 + 8 ∧
      goodHeader (lastEight ((s.intake .nf).window ++ goodBytes))) ∧
    (∃ s : State, (s.intake .nf).delineation = .presync ∧ (s.intake .nf).expected = some 322 ∧
      (s.intake .nf).presyncCount = some 2 ∧ (s.intake .nf).taken + goodBytes.length = 322 + 8 ∧
      goodHeader (lastEight ((s.intake .nf).window ++ goodBytes))) ∧
    (∃ s : State, (s.intake .nf).delineation = .presync ∧ (s.intake .nf).expected = some 186 ∧
      (s.intake .nf).taken + 8 = 186 + 8 ∧ ¬goodHeader (lastEight ((s.intake .nf).window ++ List.replicate 8 0))) :=
  ⟨⟨intakeIn .presync [] 58 (some 186) (some 1) 0 none, rfl, rfl, by decide⟩,
    ⟨intakeIn .presync [] 186 (some 186) (some 1) 0 none, rfl, rfl, rfl, rfl, goodBytes_good⟩,
    ⟨intakeIn .presync [] 322 (some 322) (some 2) 0 none, rfl, rfl, rfl, rfl, goodBytes_good⟩,
    ⟨intakeIn .presync [] 186 (some 186) (some 1) 0 none, rfl, rfl, rfl, zeroBytes_bad⟩⟩

theorem witness_SyncJudgesExpectedHeaders :
    (∃ s : State, (s.intake .nf).delineation = .sync ∧ (s.intake .nf).inProgress = none ∧
      (s.intake .nf).expected = some 458 ∧ (s.intake .nf).taken + 7 < 458 + 8) ∧
    (∃ s : State, (s.intake .nf).delineation = .sync ∧ (s.intake .nf).inProgress = none ∧
      (s.intake .nf).expected = some 458 ∧ (s.intake .nf).taken + goodBytes.length = 458 + 8 ∧
      goodHeader (lastEight ((s.intake .nf).window ++ goodBytes))) ∧
    (∀ run ∈ [1, 2], ∃ s : State, (s.intake .nf).delineation = .sync ∧ (s.intake .nf).inProgress = none ∧
      (s.intake .nf).expected = some 458 ∧ (s.intake .nf).badRun = run ∧ (s.intake .nf).taken + 8 = 458 + 8 ∧
      ¬goodHeader (lastEight ((s.intake .nf).window ++ List.replicate 8 0))) :=
  ⟨⟨intakeIn .sync [] 458 (some 458) none 0 none, rfl, rfl, rfl, by decide⟩,
    ⟨intakeIn .sync [] 458 (some 458) none 0 none, rfl, rfl, rfl, rfl, goodBytes_good⟩,
    fun run _ => ⟨intakeIn .sync [] 458 (some 458) none run none, rfl, rfl, rfl, rfl, rfl, zeroBytes_bad⟩⟩

theorem witness_DeliveryChecksInOrder :
    (∃ (s : State) (cell : Cell), (s.intake .nf).delineation = .sync ∧ (s.intake .nf).inProgress = some cell ∧
      (cell.payload ++ List.replicate 127 0).length < 128) ∧
    (∃ (s : State) (cell : Cell), (s.intake .nf).delineation = .sync ∧ (s.intake .nf).inProgress = some cell ∧
      (cell.payload ++ List.replicate 128 0).length = 128) :=
  ⟨⟨intakeIn .sync [] 8 none none 0 (some (cellOf .data 5 [])), cellOf .data 5 [], rfl, rfl, by simp [cellOf]⟩,
    ⟨intakeIn .sync [] 8 none none 0 (some (cellOf .data 5 [])), cellOf .data 5 [], rfl, rfl, by simp [cellOf]⟩⟩

/-- A state with one cell at the head of the Network Intake's FIFO. -/
def networkHead (s : State) (cell : Cell) : State := { s with nf := { s.nf with fifo := [cell] } }

/-- A DROP lane, and a PASS lane of a STOPPED emitter, with a continuity error and without. -/
theorem witness_NetworkDataNotQueued :
    (∃ s : State, s.nf.fifo = [cellOf .data 1021 []] ∧ s.store.nfWaiting = none ∧ s.laneEntry 1021 = .drop ∧
      ¬∃ c, rowAt s.continuity 1021 none = some c ∧ (false : Bool) = false ∧ (0 : BitVec 6) ≠ c + 1) ∧
    (∃ s : State, s.nf.fifo = [cellOf .data 0 []] ∧ s.store.nfWaiting = none ∧ s.laneEntry 0 = .pass 9 ∧
      s.emitter.state ≠ .running ∧ ∃ c, rowAt s.continuity 0 none = some c ∧ (0 : BitVec 6) ≠ c + 1) :=
  ⟨⟨networkHead State.reset (cellOf .data 1021 []), rfl, rfl, rowAt_replicate _ _, by
      rintro ⟨c, hc, -⟩
      have : rowAt State.reset.continuity 1021 none = none := rowAt_replicate _ _
      rw [show rowAt (networkHead State.reset (cellOf .data 1021 [])).continuity 1021 none = none from this] at hc
      cases hc⟩,
    ⟨networkHead { State.reset with
        laneMap := setRow State.reset.laneMap 0 (.pass 9), continuity := setRow State.reset.continuity 0 (some 5) }
      (cellOf .data 0 []), rfl, rfl, rowAt_setRow _ _ _ _ _ |>.trans (if_pos ⟨rfl, by decide⟩), by decide, 5,
      rowAt_setRow _ _ _ _ _ |>.trans (if_pos ⟨rfl, by decide⟩), by decide⟩⟩

/-- A RUNNING emitter whose lane 5 passes to output 9, with a cell of it at the head. -/
def passing (queue : List Record) (access : Option Access) : State :=
  networkHead { onAir queue with
      laneMap := setRow State.reset.laneMap 5 (.pass 9), store := { State.reset.store with access := access } }
    (cellOf .data 5 [])

/-- The lane map entry of `passing`. -/
theorem passing_entry (queue : List Record) (access : Option Access) : (passing queue access).laneEntry 5 = .pass 9 :=
  rowAt_setRow _ _ _ _ _ |>.trans (if_pos ⟨rfl, by decide⟩)

/-- The common hypotheses, with the store busy and idle, a queue that is empty, clamps, or is full. -/
theorem witness_NetworkDataFormsARecord :
    (∀ queue access, (passing queue access).nf.fifo = [cellOf .data 5 []] ∧ (passing queue access).store.nfWaiting = none ∧
      (passing queue access).emitter.state = .running ∧ ((passing queue access).laneEntry 5).output = some 9 ∧
      ((passing queue access).laneEntry 5).place = none ∧
      (passing queue access).plan.inForce (releaseSecond 0 (passing queue access).clock.second) = some plan1000 ∧
      (passing queue access).plan.inForce ((nominalTime 0 0 0).shift 0).sec = some plan1000 ∧
      (passing queue access).store.access = access) ∧
    (targetSlot ((nominalTime 0 0 0).shift 0) 1000).earlier (record 0 7).target = true ∧
    (passing [] none).queue.length < (passing [] none).store.capacity ∧
    (passing (List.replicate 262144 (record 0 1)) none).store.capacity ≤
      (passing (List.replicate 262144 (record 0 1)) none).queue.length ∧
    (passing (List.replicate 63 (record 0 1)) none).queue.length < 64 ∧
    64 ≤ (passing (List.replicate 64 (record 0 1)) none).queue.length :=
  ⟨fun q a => ⟨rfl, rfl, rfl, by rw [passing_entry]; rfl, by rw [passing_entry]; rfl, rfl, rfl, rfl⟩, by decide, by decide,
    by show 262144 ≤ (List.replicate 262144 (record 0 1)).length; rw [List.length_replicate],
    by show (List.replicate 63 (record 0 1)).length < 64; rw [List.length_replicate]; decide,
    by show 64 ≤ (List.replicate 64 (record 0 1)).length; rw [List.length_replicate]⟩

/-- A TIMING cell with a hold, a slot count and an effective second. -/
def timingCell (hold slots eff : Nat) : Cell :=
  cellOf .timing 1022 (bytes4 hold ++ bytes2 slots ++ bytes4 eff)

/-- A bad cell, a first plan, a late plan, a refresh of the current and of the pending plan, and a new pending plan. -/
theorem witness_TimingCellSetsThePlan :
    (∀ (s : State) (c : Cell), (networkHead s c).nf.fifo = [c]) ∧
    (readPlan (timingCell 15000001 1000 0).payload).hold = 15000001 ∧
    (readPlan (timingCell 15000000 60000 0).payload = ⟨15000000, 60000, 0⟩ ∧ State.reset.plan.current = none) ∧
    (readPlan (timingCell 1 1000 0).payload = ⟨1, 1000, 0⟩ ∧ (onAir []).plan.current = some plan1000 ∧
      secondNoLater (readPlan (timingCell 1 1000 0).payload).eff (onAir []).clock.second = true) ∧
    readPlan (timingCell 0 1000 0).payload = plan1000 ∧
    secondNoLater (readPlan (timingCell 0 1000 4).payload).eff (onAir []).clock.second = false ∧
    (ending (some ⟨0, 1000, 4⟩) 0 .running .none .locked).plan.pending = some (readPlan (timingCell 0 1000 4).payload) ∧
    (onAir []).plan.pending ≠ some (readPlan (timingCell 0 1000 4).payload) := by
  refine ⟨fun _ _ => rfl, ?_⟩
  decide

theorem witness_OtherHeadsAreHandedOn :
    (∃ s : State, (s.intake .nf).fifo = [cellOf .control 1023 []] ∧ s.store.nfWaiting = none ∧ s.control.queue.length = 7) ∧
    (∃ s : State, (s.intake .lf).fifo = [cellOf .control 1023 []] ∧ s.store.lfWaiting = none ∧ s.control.queue.length = 8) ∧
    (∃ s : State, s.lf.fifo = [cellOf .data 256 []] ∧ s.store.lfWaiting = none ∧ 256 ≤ (256 : BitVec 10).toNat) ∧
    (∃ s : State, s.lf.fifo = [cellOf .data 255 []] ∧ s.store.lfWaiting = none ∧ (255 : BitVec 10).toNat = 64 * 3 + 63 ∧
      s.store.access ≠ none) :=
  ⟨⟨{ networkHead State.reset (cellOf .control 1023 []) with
        control := { State.reset.control with queue := List.replicate 7 default } }, rfl, rfl, rfl⟩,
    ⟨{ State.reset with
        lf := { Intake.afterReset with fifo := [cellOf .control 1023 []] }
        control := { State.reset.control with queue := List.replicate 8 default } }, rfl, rfl, rfl⟩,
    ⟨{ State.reset with lf := { Intake.afterReset with fifo := [cellOf .data 256 []] } }, rfl, rfl, by decide⟩,
    ⟨{ State.reset with
        lf := { Intake.afterReset with fifo := [cellOf .data 255 []] }
        store := { State.reset.store with access := some (.read ⟨.record 0, 0⟩ true) } }, rfl, rfl, by decide, by decide⟩⟩

/-- A store in which an access runs, with a waiting request of each kind or none. -/
def served (a : Access) (read : Option ReadRequest) (nf : Option Record) (lf : Option ClipWrite) : CellStore :=
  { State.reset.store with access := some a, readWaiting := read, nfWaiting := nf, lfWaiting := lf }

theorem witness_AccessesEnd :
    (∃ s : State, s.store.access = some (.write 1048575 (.clipCell fillCell)) ∧ 1048575 < 1048576) ∧
    (∀ wanted, ∃ s : State, s.store.access = some (.read ⟨.record 0, 0⟩ wanted) ∧ s.store.readWaiting = none ∧
      s.store.nfWaiting = none ∧ s.store.lfWaiting = none) :=
  ⟨⟨{ State.reset with store := served (.write 1048575 (.clipCell fillCell)) none none none }, rfl, by decide⟩,
    fun wanted => ⟨{ State.reset with store := served (.read ⟨.record 0, 0⟩ wanted) none none none }, rfl, rfl, rfl, rfl⟩⟩

/-- Clip 63 with a state, four members, and one member 3; a cell of that member at the head of the Local Intake. -/
def clipHead (x : ClipState) (m : ClipMember) (free : List Nat) : State :=
  { State.reset with
    lf := { Intake.afterReset with fifo := [cellOf .data 255 []] }
    store := { State.reset.store with free := free }
    clips := setRow State.reset.clips 63
      ((({ ClipRecord.blank with state := x, memberCount := some 4 } : ClipRecord)).setMember 3 m) }

/-- The clip of `clipHead`. -/
theorem clipHead_clip (x : ClipState) (m : ClipMember) (free : List Nat) :
    ((clipHead x m free).clipAt 63).state = x ∧ ((clipHead x m free).clipAt 63).memberCount = some 4 ∧
    ((clipHead x m free).clipAt 63).memberAt 3 = m := by
  have h : (clipHead x m free).clipAt 63 =
      (({ ClipRecord.blank with state := x, memberCount := some 4 } : ClipRecord)).setMember 3 m :=
    rowAt_setRow _ _ _ _ _ |>.trans (if_pos ⟨rfl, by decide⟩)
  rw [h]
  exact ⟨rfl, rfl, rowAt_setRow _ _ _ _ _ |>.trans (if_pos ⟨rfl, by decide⟩)⟩

/-- A read, a record that joins, clamped or not, or is discarded, and a clip cell whose clip and free extents are any. -/
theorem witness_ArbiterGrantsByRank :
    (∃ s : State, s.store.access = some (.read ⟨.record 0, 0⟩ true) ∧ s.store.readWaiting = some ⟨.record 1, 1⟩ ∧
      s.store.nfWaiting = some (record 0 1)) ∧
    (∀ queue ∈ [[], [record 0 0], [record 0 7]], ∃ s : State, s.store.access = some (.read ⟨.record 0, 0⟩ true) ∧
      s.store.readWaiting = none ∧ s.store.nfWaiting = some (record 0 1) ∧ s.emitter.state = .running ∧ s.queue = queue ∧
      s.queue.length < s.store.capacity) ∧
    ((record 0 1).target.earlier (record 0 0).target = false ∧ (record 0 1).target.earlier (record 0 7).target = true) ∧
    (∀ lf, ∃ s : State, s.store.access = some (.read ⟨.record 0, 0⟩ true) ∧ s.store.readWaiting = none ∧
      s.store.nfWaiting = some (record 0 1) ∧ s.emitter.state = .running ∧ s.store.capacity ≤ s.queue.length ∧
      s.store.lfWaiting = lf) ∧
    (∀ lf, ∃ s : State, s.store.access = some (.read ⟨.record 0, 0⟩ true) ∧ s.store.readWaiting = none ∧
      s.store.nfWaiting = some (record 0 1) ∧ s.emitter.state ≠ .running ∧ s.store.lfWaiting = lf) ∧
    (∀ x m free, ∃ s : State, s.store.access = some (.read ⟨.record 0, 0⟩ true) ∧ s.store.readWaiting = none ∧
      s.store.nfWaiting = none ∧ s.store.lfWaiting = some ⟨63, 3, fillCell⟩ ∧ s.store.free = free ∧
      (s.clipAt 63).state = x ∧ (s.clipAt 63).memberCount = some 4 ∧ (s.clipAt 63).memberAt 3 = m) :=
  ⟨⟨{ State.reset with store := served (.read ⟨.record 0, 0⟩ true) (some ⟨.record 1, 1⟩) (some (record 0 1)) none },
      rfl, rfl, rfl⟩,
    fun queue hq => ⟨{ onAir queue with store := served (.read ⟨.record 0, 0⟩ true) none (some (record 0 1)) none }, rfl, rfl, rfl,
      rfl, rfl, by revert queue; decide⟩,
    by decide,
    fun lf => ⟨{ onAir (List.replicate 262144 (record 0 1)) with
        store := served (.read ⟨.record 0, 0⟩ true) none (some (record 0 1)) lf }, rfl, rfl, rfl, rfl,
      by show 262144 ≤ (List.replicate 262144 (record 0 1)).length; rw [List.length_replicate], rfl⟩,
    fun lf => ⟨{ State.reset with store := served (.read ⟨.record 0, 0⟩ true) none (some (record 0 1)) lf },
      rfl, rfl, rfl, (by decide : (EmitterState.stopped : EmitterState) ≠ .running), rfl⟩,
    fun x m free => ⟨{ clipHead x m free with
        store := { served (.read ⟨.record 0, 0⟩ true) none none (some ⟨63, 3, fillCell⟩) with free := free } },
      rfl, rfl, rfl, rfl, rfl, clipHead_clip x m free⟩⟩

theorem witness_ClipCellTakesTheNextBlock :
    (∀ x m free, (clipHead x m free).lf.fifo = [cellOf .data 255 []] ∧ (255 : BitVec 10).toNat = 64 * 3 + 63 ∧
      (clipHead x m free).store.access = none ∧ (clipHead x m free).store.readWaiting = none ∧
      (clipHead x m free).store.nfWaiting = none ∧ (clipHead x m free).store.lfWaiting = none) ∧
    ((clipHead .ready .blank []).clipAt 63).state ≠ .loading ∧
    (((clipHead .loading ⟨1023, [5], some 1023, 0⟩ []).clipAt 63).state = .loading ∧
      3 < ((clipHead .loading ⟨1023, [5], some 1023, 0⟩ []).clipAt 63).memberCount.getD 0 ∧
      (((clipHead .loading ⟨1023, [5], some 1023, 0⟩ []).clipAt 63).memberAt 3).fill = some 1023) ∧
    ((((clipHead .loading ⟨1024, [5], some 1024, 0⟩ [767]).clipAt 63).memberAt 3).fill = some 1024 ∧
      (clipHead .loading ⟨1024, [5], some 1024, 0⟩ [767]).store.free = [767]) ∧
    ((((clipHead .loading .blank []).clipAt 63).memberAt 3).extents = [] ∧
      (clipHead .loading .blank []).store.free = []) := by
  refine ⟨fun _ _ _ => ⟨rfl, by decide, rfl, rfl, rfl, rfl⟩, ?_, ⟨?_, ?_, ?_⟩, ⟨?_, rfl⟩, ⟨?_, rfl⟩⟩
  · rw [(clipHead_clip _ _ _).1]; decide
  · exact (clipHead_clip _ _ _).1
  · rw [(clipHead_clip _ _ _).2.1]; decide
  · rw [(clipHead_clip _ _ _).2.2]
  · rw [(clipHead_clip _ _ _).2.2]
  · rw [(clipHead_clip _ _ _).2.2]; rfl

/-- Slot 1 of a MUTED emitter, and of a RUNNING one out of step with an IN event. -/
theorem witness_SlotsOutOfStepCarryFill :
    (∃ s : State, s.emitter.state = .muted ∧ s.emitter.kNow = some 1000 ∧ s.emitter.slot + 1 < 1000 ∧
      s.clock.subsecond = (s.emitter.slot + 1) * 10000000 / 1000) ∧
    (∃ s : State, s.emitter.state = .running ∧ s.emitter.kNow = some 1000 ∧ s.emitter.slot + 1 < 1000 ∧
      s.clock.subsecond = (s.emitter.slot + 1) * 10000000 / 1000 ∧ s.clock.inStep = false ∧
      (s.eventAt 31).state = .onAir ∧ (s.eventAt 0).state ≠ .onAir) :=
  ⟨⟨{ onAir [] with emitter := { (onAir []).emitter with state := .muted } }, rfl, rfl, by decide, by decide⟩,
    ⟨{ onAir [record 0 1] with
        clock := clockIn 10000 .unlocked
        events := setRow State.reset.events 31 { EventRecord.blank with state := .onAir } }, rfl, rfl, by decide, by decide,
      by decide, by decide, by decide⟩⟩

/-- A head from before the second before, one late beyond the allowance of 16, and one not due behind them. -/
theorem witness_SlotDiscardsTooLateHeads :
    ∃ s : State, s.emitter.state = .running ∧ s.emitter.kNow = some 1000 ∧ s.emitter.slot + 1 < 1000 ∧
      s.clock.subsecond = (s.emitter.slot + 1) * 10000000 / 1000 ∧ s.clock.inStep = true ∧
      s.queue = [record 4294967294 1, record 4294967295 984] ++ [record 0 2] ∧
      (∀ r ∈ [record 4294967294 1, record 4294967295 984],
        lateness s.emitter.second (s.emitter.slot + 1) 1000 (s.emitter.kPrev.getD 0) r.target = .tooLate ∨
        lateness s.emitter.second (s.emitter.slot + 1) 1000 (s.emitter.kPrev.getD 0) r.target = .due 17 ∧
          s.emitter.lateAllowance < 17) ∧
      lateness s.emitter.second (s.emitter.slot + 1) 1000 (s.emitter.kPrev.getD 0) (record 0 2).target = .notDue :=
  ⟨onAir [record 4294967294 1, record 4294967295 984, record 0 2], rfl, rfl, by decide, by decide, by decide, rfl, by decide,
    by decide⟩

/-- R104: the discard of a head drops its staged copy and withdraws its read, and leaves those of the record behind it. -/
theorem test_discard_drops_staged :
    (after .slotStart { onAir [record 4294967294 1, record 0 2] with store := { State.reset.store with
        access := some (.read ⟨.record 0, 0⟩ true), readWaiting := some ⟨.record 1, 1⟩,
        staged := [⟨.record 0, none⟩, ⟨.record 1, none⟩] } }).map (fun t =>
      (t.store.access, t.store.readWaiting, t.store.staged)) =
      some (some (.read ⟨.record 0, 0⟩ false), some ⟨.record 1, 1⟩, [⟨.record 1, none⟩]) := by decide +kernel

/-- A record on time behind a head that is too late, one late by the whole allowance, and each of the three outcomes of the Splice
Switch. -/
theorem witness_SlotSendsTheDueRecord :
    (∃ s : State, s.emitter.state = .running ∧ s.emitter.kNow = some 1000 ∧ s.emitter.slot + 1 < 1000 ∧
      s.clock.subsecond = (s.emitter.slot + 1) * 10000000 / 1000 ∧ s.clock.inStep = true ∧
      s.queue = [record 4294967294 1] ++ record 0 1 :: [record 0 2] ∧
      (record 0 1).outLane < 1024 ∧ (s.switchRecord (record 0 1)).2 = .passed ∧
      lateness s.emitter.second (s.emitter.slot + 1) 1000 (s.emitter.kPrev.getD 0) (record 4294967294 1).target = .tooLate ∧
      lateness s.emitter.second (s.emitter.slot + 1) 1000 (s.emitter.kPrev.getD 0) (record 0 1).target = .due 0) ∧
    lateness 0 1 1000 1000 (record 4294967295 985).target = .due 16 ∧
    (∃ s : State, (s.replaceRecord 0 3).2 = .short ∧ (s.eventAt 0).given.clip = 63) ∧
    (∃ s : State, (s.replaceRecord 0 3).2 = .replaced fillCell) := by
  refine ⟨⟨onAir [record 4294967294 1, record 0 1, record 0 2], rfl, rfl, by decide, by decide, by decide, rfl, by decide, rfl,
      by decide, by decide⟩, by decide,
    ⟨{ clipHead .playing .blank [] with
        events := setRow State.reset.events 0
          { EventRecord.blank with state := .onAir, order := some { order0 with clip := 63 } } }, by decide +kernel,
      by decide +kernel⟩,
    ⟨{ clipHead .playing ⟨1, [0], some 1, 0⟩ [] with
        events := setRow State.reset.events 0
          { EventRecord.blank with state := .onAir, order := some { order0 with clip := 63 } }
        store := { State.reset.store with dram := [(262144, .clipCell fillCell)] } }, by decide +kernel⟩⟩

/-- Group 0 with event 0 of clip 0, an order from 1:0 to 2:0, and a switch state. -/
def spliced (g : GroupState) (x : EventState) (members : Option Nat) (w : SwitchState) (r : EventRecord) : State :=
  { onAir [] with
    groups := setRow State.reset.groups 0 ⟨false, g, some 0⟩
    events := setRow State.reset.events 0 { r with state := x, order := some order0 }
    clips := setRow State.reset.clips 0 { ClipRecord.blank with state := .playing, memberCount := members }
    switch := setRow State.reset.switch 0 w }

/-- A record of a PASS lane; a group without an active event; a leader record around the interval's two ends; and the clip's first cell there, and not. -/
theorem witness_RecordOfAnIdleGroup :
    (record 0 1).place = none ∧
    (∃ s : State, (s.groupAt 15).state = .idle ∧ (s.groupAt 15).active = none) ∧
    (∃ s : State, (s.groupAt 0).state = .idle ∧ (s.groupAt 0).active = some 0 ∧ (s.eventAt 0).given.group = 0 ∧
      (s.eventAt 0).given.clip < 64 ∧ (groupRecord 0 true true ⟨0, 9999999⟩).nominal.earlier (s.eventAt 0).given.inTime = true ∧
      (groupRecord 0 true true ⟨1, 0⟩).nominal.earlier (s.eventAt 0).given.inTime = false ∧
      (groupRecord 0 true true ⟨1, 0⟩).nominal.earlier (s.eventAt 0).given.outTime = true ∧
      (groupRecord 0 true true ⟨2, 0⟩).nominal.earlier (s.eventAt 0).given.outTime = false ∧
      (groupRecord 0 true true ⟨1, 0⟩).outLane < 1024 ∧ 0 < (s.clipAt 0).memberCount.getD 0 ∧
      ((s.clipAt 0).memberAt 0).count ≤ ((s.clipAt 0).memberAt 0).cursor) ∧
    (∃ s : State, (s.groupAt 0).state = .idle ∧ (s.groupAt 0).active = some 0 ∧ (s.eventAt 0).given.group = 0 ∧
      (s.eventAt 0).given.clip = 0 ∧ 0 < (s.clipAt 0).memberCount.getD 0 ∧
      (s.eventAt 0).state = .armed ∧ (s.clipAt 0).state = .cued ∧
      ((s.clipAt 0).memberAt 0).cursor < ((s.clipAt 0).memberAt 0).count ∧
      s.store.content (emissionBlocks s.store.setting +
        1024 * ((s.clipAt 0).memberAt 0).extents.getD (((s.clipAt 0).memberAt 0).cursor / 1024) 0 +
        ((s.clipAt 0).memberAt 0).cursor % 1024) = some (.clipCell fillCell)) :=
  ⟨rfl, ⟨State.reset, by decide, by decide⟩,
    ⟨spliced .idle .armed (some 4) .clear .blank, by decide, by decide, by decide, by decide, by decide, by decide, by decide,
      by decide, by decide, by decide, by decide⟩,
    ⟨{ spliced .idle .armed (some 4) .clear .blank with
        clips := setRow State.reset.clips 0
          (({ ClipRecord.blank with state := .cued, memberCount := some 4 } : ClipRecord).setMember 0 ⟨1, [0], some 1, 0⟩)
        store := { State.reset.store with dram := [(262144, .clipCell fillCell)] } }, by decide, by decide, by decide, by decide,
      by decide, by decide, by decide, by decide, by decide +kernel⟩⟩

/-- A switch state with its points and phases. -/
def switched (pIn pOut : Option Time) (phases : List Phase) : SwitchState :=
  { SwitchState.clear with
    pIn := pIn
    pOut := pOut
    phases := ((SwitchState.clear.phases.set 0 (phases.getD 0 .waiting)).set 1 (phases.getD 1 .waiting)).set 3
      (phases.getD 3 .waiting) }

/-- A waiting member before and after the leader's switch-out, a member in CLIP around P_out and its limit, and one in BACK. -/
theorem witness_RecordOfASplicedMember :
    (∃ s : State, (s.groupAt 0).state = .spliced ∧ (s.groupAt 0).active = some 0 ∧ (s.switchAt 0).phaseAt 3 = .waiting ∧
      (s.switchAt 0).pIn = some ⟨1, 0⟩ ∧ (s.switchAt 0).pOut = none ∧
      3 < (s.clipAt (s.eventAt 0).given.clip).memberCount.getD 0 ∧
      (groupRecord 3 true false ⟨1, 0⟩).nominal.noEarlier ⟨1, 0⟩ = true ∧ (groupRecord 3 true false ⟨1, 0⟩).outLane < 1024) ∧
    (∃ s : State, (s.groupAt 0).state = .spliced ∧ (s.groupAt 0).active = some 0 ∧ (s.switchAt 0).phaseAt 3 = .waiting ∧
      (s.switchAt 0).pOut ≠ none) ∧
    (∃ s : State, (s.groupAt 0).state = .spliced ∧ (s.groupAt 0).active = some 0 ∧ (s.switchAt 0).phaseAt 3 = .clip ∧
      (s.switchAt 0).pOut = none) ∧
    (∃ s : State, (s.groupAt 0).state = .spliced ∧ (s.groupAt 0).active = some 0 ∧ (s.switchAt 0).phaseAt 3 = .clip ∧
      (s.switchAt 0).pOut = some ⟨2, 0⟩ ∧ Time.earlier ⟨1, 9999999⟩ ⟨2, 0⟩ = true ∧
      (Time.noEarlier ⟨2, 0⟩ ⟨2, 0⟩ = true ∧ Time.earlier ⟨2, 9999999⟩ ⟨3, 0⟩ = true) ∧
      Time.noEarlier ⟨3, 0⟩ ⟨3, 0⟩ = true ∧
      (s.switchAt 0).phaseAt 0 = .back ∧ (∀ j, 1 ≤ j → j ≤ 3 → j ≠ 3 → (s.switchAt 0).phaseAt j ≠ .clip)) ∧
    (∃ s : State, (s.groupAt 0).state = .spliced ∧ (s.groupAt 0).active = some 0 ∧ (s.switchAt 0).phaseAt 3 = .clip ∧
      (s.switchAt 0).pOut = some ⟨2, 0⟩ ∧ (s.switchAt 0).phaseAt 0 = .back ∧ (s.switchAt 0).phaseAt 1 = .clip) ∧
    (∃ s : State, (s.groupAt 0).state = .spliced ∧ (s.groupAt 0).active = some 0 ∧ (s.switchAt 0).phaseAt 3 = .back) :=
  ⟨⟨spliced .spliced .onAir (some 4) (switched (some ⟨1, 0⟩) none [.clip]) .blank, by decide, by decide, by decide, by decide,
      by decide, by decide, by decide, by decide⟩,
    ⟨spliced .spliced .onAir (some 4) (switched (some ⟨1, 0⟩) (some ⟨2, 0⟩) [.back]) .blank, by decide, by decide, by decide,
      by decide⟩,
    ⟨spliced .spliced .onAir (some 4) (switched (some ⟨1, 0⟩) none [.clip, .clip, .clip, .clip]) .blank, by decide, by decide,
      by decide, by decide⟩,
    ⟨spliced .spliced .onAir (some 4) (switched (some ⟨1, 0⟩) (some ⟨2, 0⟩) [.back, .back, .back, .clip]) .blank, by decide,
      by decide, by decide, by decide, by decide, by decide, by decide, by decide, fun j h1 h2 h3 => by
        have : j = 1 ∨ j = 2 := by omega
        rcases this with rfl | rfl <;> decide⟩,
    ⟨spliced .spliced .onAir (some 4) (switched (some ⟨1, 0⟩) (some ⟨2, 0⟩) [.back, .clip, .back, .clip]) .blank, by decide,
      by decide, by decide, by decide, by decide, by decide⟩,
    ⟨spliced .spliced .onAir (some 4) (switched (some ⟨1, 0⟩) (some ⟨2, 0⟩) [.back, .back, .back, .back]) .blank, by decide,
      by decide, by decide⟩⟩

/-- The cursor of a clip member after the first records of the queue have gone through the Splice Switch. -/
def cursorAfter (s : State) (n c m : Nat) : Nat :=
  ((((s.queue.take n).foldl (fun t r => (t.switchRecord r).1) s).clipAt c).memberAt m).cursor

/-- The record at a place takes a clip member's next cell, in the words of the statement about staging. -/
abbrev takesAt (s : State) (c m n : Nat) : Prop :=
  n < s.queue.length ∧ (∀ j ≤ n, cursorAfter s j c m = ((s.clipAt c).memberAt m).cursor) ∧
    cursorAfter s (n + 1) c m = ((s.clipAt c).memberAt m).cursor + 1

/-- A clip member's next cell may be staged, in the words of the statement about staging. -/
abbrev wantsAt (s : State) (c m : Nat) : Prop :=
  c < 64 ∧ m < 4 ∧ ((s.clipAt c).state = .cued ∨ (s.clipAt c).state = .playing) ∧ m < (s.clipAt c).memberCount.getD 0 ∧
    ((s.clipAt c).memberAt m).cursor < ((s.clipAt c).memberAt m).count ∧
    s.store.holds (.clipCell c m ((s.clipAt c).memberAt m).cursor) = false

/-- The record at a place may be staged, in the words of the statement about staging. -/
abbrev idleAt (s : State) (i : Nat) : Prop :=
  s.store.holds (.record (s.store.recordBlock i)) = false ∧ s.store.writing (s.store.recordBlock i) = false

/-- The record that may be staged next, in the words of the statement about staging. -/
abbrev nearestAt (s : State) (i : Nat) : Prop := i < 64 ∧ i < s.queue.length ∧ idleAt s i ∧ ∀ j < i, ¬idleAt s j

/-- A SPLICED group 0 with its leader and member 1 in CLIP, each with one cell left, a queue, and the blocks staged. -/
def staging (queue : List Record) (staged : List Nat) : State :=
  { spliced .spliced .onAir (some 2) (switched (some ⟨1, 0⟩) none [.clip, .clip]) .blank with
    clips := setRow State.reset.clips 0
      ((({ ClipRecord.blank with state := .playing, memberCount := some 2 } : ClipRecord).setMember 0 ⟨1, [0], some 1, 0⟩).setMember 1
        ⟨1, [1], some 1, 0⟩)
    queue := queue
    store := { State.reset.store with staged := staged.map (fun b => ⟨.record b, none⟩) } }

/-- A leader record that takes a cell, a record of a PASS lane, and a record of member 1 that takes a cell. -/
def mixed : List Record := [groupRecord 0 false false ⟨1, 0⟩, record 0 1, groupRecord 1 false false ⟨1, 0⟩]

/-- The 64th record with no clip about; a record used before a cell; a cell with no record at all; and, of a record and two cells,
the first cell used before both others. -/
theorem witness_StagingReadsAhead :
    (let s := { onAir (List.replicate 64 (record 0 1)) with store := { State.reset.store with
        staged := (List.range 63).map (fun j => ⟨.record j, none⟩) } };
      s.store.readWaiting = none ∧ s.store.access = none ∧ nearestAt s 63 ∧ ∀ c < 64, ∀ m < 4, ¬wantsAt s c m) ∧
    (let s := staging [record 0 1, groupRecord 0 false false ⟨1, 0⟩] [];
      nearestAt s 0 ∧ wantsAt s 0 0 ∧ takesAt s 0 0 1) ∧
    (let s := { clipHead .cued ⟨1, [5], some 1, 0⟩ [] with store := { State.reset.store with access := some (.write 9 (.clipCell fillCell)) } };
      s.store.readWaiting = none ∧ s.store.access ≠ none ∧ wantsAt s 63 3 ∧ s.queue = []) ∧
    (let s := staging mixed [0];
      s.store.readWaiting = none ∧ nearestAt s 1 ∧ wantsAt s 0 0 ∧ takesAt s 0 0 0 ∧ wantsAt s 0 1 ∧ takesAt s 0 1 2 ∧
      (∀ c < 64, ∀ m < 4, wantsAt s c m → ∀ n < 3, takesAt s c m n → 0 ≤ n) ∧ ∀ n < 3, takesAt s 0 1 n → 1 < n) := by
  refine ⟨⟨rfl, rfl, ⟨by decide, ?_, by decide +kernel⟩, by decide +kernel⟩, by decide +kernel, ⟨rfl, by decide, ?_, rfl⟩,
    rfl, by decide +kernel, by decide +kernel, by decide +kernel, by decide +kernel, by decide +kernel, ?_, by decide +kernel⟩
  · show 63 < (List.replicate 64 (record 0 1)).length; rw [List.length_replicate]; decide
  · decide +kernel
  · intros; exact Nat.zero_le _

/-- R104: a cell that a queued record takes first is read before a record that is used later, and a record before a cell that is. -/
theorem test_staging_reads_the_soonest :
    (staging mixed [0]).stagingRead .nearestRecord = none ∧
    (staging mixed [0]).stagingRead (.clipCell 0 0) = some ⟨.clipCell 0 0 0, 262144⟩ ∧
    (staging mixed []).stagingRead (.clipCell 0 1) = none := by decide +kernel

/-- A boundary past the forced end of event 0, at which event 1 of the same group is due for arming. -/
def armingAtEnd : State :=
  { live .onAir .spliced .playing 5 .running .none .locked with
    laneMap := setRow State.reset.laneMap 0 (.member 9 0 0)
    clips := setRow (live .onAir .spliced .playing 5 .running .none .locked).clips 1 { ClipRecord.blank with state := .ready }
    events := setRow (live .onAir .spliced .playing 5 .running .none .locked).events 1
      { EventRecord.blank with
        state := .pending, order := some { order0 with clip := 1, inTime := ⟨7, 0⟩, outTime := ⟨9, 0⟩ } }
    order := [1] }

/-- R130: taken before the end the arming finds the group busy, and taken behind it the event is ARMED. -/
theorem test_arming_meets_an_end :
    (Config.armingPlace 0 = .beforeEnds → (armingAtEnd.armingsAndEnds.eventAt 1).reason = some .groupBusy) ∧
    (Config.armingPlace 0 = .afterEnds → (armingAtEnd.armingsAndEnds.eventAt 1).state = .armed) := by
  have place : armingAtEnd.armingPlace = Config.armingPlace 0 := if_pos (by decide +kernel)
  have forced : (armingAtEnd.draw armingAtEnd.armingMeets).forcedFirst = true := by decide +kernel
  constructor <;> intro h <;> unfold State.armingsAndEnds <;> simp only [place, h, forced] <;> decide +kernel

/-- The leader in BACK; in CLIP before and at the out-time; with an earlier return time; and with another member in CLIP. -/
theorem witness_RecordOfASplicedLeader :
    (∃ s : State, (s.groupAt 0).state = .spliced ∧ (s.groupAt 0).active = some 0 ∧ (s.eventAt 0).given.group = 0 ∧
      (s.switchAt 0).phaseAt 0 = .back ∧ (s.eventAt 0).returnRequested = false) ∧
    (∃ s : State, (s.groupAt 0).state = .spliced ∧ (s.groupAt 0).active = some 0 ∧ (s.eventAt 0).given.group = 0 ∧
      (s.switchAt 0).phaseAt 0 = .clip ∧ (s.eventAt 0).returnRequested = false ∧
      Time.earlier ⟨1, 9999999⟩ (s.eventAt 0).given.outTime = true ∧ Time.noEarlier ⟨2, 0⟩ (s.eventAt 0).given.outTime = true ∧
      ∀ j, 1 ≤ j → j ≤ 3 → (s.switchAt 0).phaseAt j ≠ .clip) ∧
    (∃ s : State, (s.switchAt 0).phaseAt 0 = .clip ∧ (s.eventAt 0).returnRequested = true ∧
      (s.eventAt 0).returnTime = some ⟨1, 5⟩ ∧ Time.earlier ⟨1, 5⟩ (s.eventAt 0).given.outTime = true ∧
      (s.switchAt 0).phaseAt 3 = .clip) :=
  ⟨⟨spliced .spliced .onAir (some 4) (switched (some ⟨1, 0⟩) (some ⟨2, 0⟩) [.back]) .blank, by decide, by decide, by decide,
      by decide, by decide⟩,
    ⟨spliced .spliced .onAir (some 4) (switched (some ⟨1, 0⟩) none [.clip]) .blank, by decide, by decide, by decide, by decide,
      by decide, by decide, by decide, fun j h1 h2 => by
        have : j = 1 ∨ j = 2 ∨ j = 3 := by omega
        rcases this with rfl | rfl | rfl <;> decide⟩,
    ⟨spliced .spliced .onAir (some 4) (switched (some ⟨1, 0⟩) none [.clip, .back, .back, .clip])
        { EventRecord.blank with returnRequested := true, returnTime := some ⟨1, 5⟩ }, by decide, by decide, by decide,
      by decide, by decide⟩⟩

/-- The last cell of a member at its block, and an exhausted member. -/
theorem witness_ReplacementTakesTheNextCell :
    (∃ s : State, ((s.clipAt 63).memberAt 3).cursor < ((s.clipAt 63).memberAt 3).count ∧ 3 < (s.clipAt 63).memberCount.getD 0 ∧
      s.store.content (emissionBlocks s.store.setting +
        1024 * ((s.clipAt 63).memberAt 3).extents.getD (((s.clipAt 63).memberAt 3).cursor / 1024) 0 +
        ((s.clipAt 63).memberAt 3).cursor % 1024) = some (.clipCell fillCell)) ∧
    (∃ s : State, ((s.clipAt 63).memberAt 3).count ≤ ((s.clipAt 63).memberAt 3).cursor ∧
      3 < (s.clipAt 63).memberCount.getD 0) := by
  refine ⟨⟨{ clipHead .playing ⟨1025, [1, 0], some 1, 1024⟩ [] with
      store := { State.reset.store with dram := [(262144, .clipCell fillCell)] } }, ?_, ?_, ?_⟩,
    ⟨clipHead .playing ⟨1025, [1, 0], some 1, 1025⟩ [], ?_, ?_⟩⟩ <;> decide +kernel

theorem witness_EndOfASplice :
    ∃ s : State, (s.eventAt 0).given.group = 0 ∧ (s.eventAt 0).given.clip = 0 ∧ (s.groupAt 0).active = some 0 ∧
      (s.clipAt 0).state = .playing :=
  ⟨spliced .spliced .onAir (some 4) (switched (some ⟨1, 0⟩) none [.clip]) .blank, by decide, by decide, by decide, by decide⟩

/-- A state in which event 0, of group 0 and clip 0 with the in-time 2:0, is due for arming at 0:0. -/
def arming (entry : LaneEntry) (active : Option Nat) (k : ClipState) : State :=
  { State.reset with
    laneMap := setRow State.reset.laneMap 0 entry
    groups := setRow State.reset.groups 0 ⟨false, .idle, active⟩
    clips := setRow State.reset.clips 0 { ClipRecord.blank with state := k }
    events := setRow State.reset.events 0
      { EventRecord.blank with state := .pending, order := some { order0 with inTime := ⟨2, 0⟩, outTime := ⟨3, 0⟩ } }
    order := [0] }

/-- One event due, and each of the four outcomes of its arming. -/
theorem witness_EventArmingTakesUpTheDue :
    ((arming .drop none .ready).order.takeWhile (fun e =>
      Time.noLater ⟨((arming .drop none .ready).eventAt e).given.inTime.sec - 2,
        ((arming .drop none .ready).eventAt e).given.inTime.sub⟩ (arming .drop none .ready).nominalNow) = [0] ∧
      ((arming .drop none .ready).eventAt 0).state = .pending) ∧
    ((arming .drop none .ready).memberLane 0 0 = none ∧ ((arming .drop none .ready).groupAt 0).active ≠ some 0) ∧
    ((arming (.member 9 0 0) (some 31) .ready).memberLane 0 0 = some 0 ∧
      ((arming (.member 9 0 0) (some 31) .ready).groupAt 0).active = some 31) ∧
    (((arming (.member 9 0 0) none .loading).groupAt 0).active = none ∧
      ((arming (.member 9 0 0) none .loading).clipAt 0).state ≠ .ready) ∧
    (((arming (.member 9 0 0) none .ready).groupAt 0).active = none ∧
      ((arming (.member 9 0 0) none .ready).clipAt 0).state = .ready) := by
  decide +kernel

theorem witness_MonitorCellGoesOut :
    ∃ s : State, s.control.monitor = [⟨true, 0, 0, []⟩] :=
  ⟨{ State.reset with control := { State.reset.control with monitor := [⟨true, 0, 0, []⟩] } }, rfl⟩

/-- An unknown code, a stale epoch, a network-only command from local origin, and a full monitor queue. -/
theorem witness_CommandsAreChecked :
    (∃ (s : State) (c : Command), s.control.queue = [c] ∧ s.control.foreign c = false ∧ s.control.monitor.length < 16 ∧
      commandOfCode c.code = none) ∧
    (∃ (s : State) (c : Command), s.control.queue = [c] ∧ s.control.foreign c = false ∧ s.control.monitor.length = 15 ∧
      commandOfCode c.code = some .restart ∧ c.address ≠ 0xFFFF ∧ CommandName.epochExempt .restart = false ∧
      c.epoch ≠ s.control.epoch) ∧
    (∃ (s : State) (c : Command), s.control.queue = [c] ∧ s.control.foreign c = false ∧ s.control.monitor.length < 16 ∧
      commandOfCode c.code = some .restart ∧ c.address = 0xFFFF ∧ c.origin = .localFeed ∧
      CommandName.networkOnly .restart = true) ∧
    (∃ (s : State) (c : Command), s.control.queue = [c] ∧ s.control.foreign c = false ∧ s.control.monitor.length = 16) :=
  ⟨⟨asked State.reset (command 0x7F []), command 0x7F [], rfl, by decide, by decide, by decide⟩,
    ⟨{ State.reset with control := { State.reset.control with
        queue := [command 3 []], epoch := 2, monitor := List.replicate 15 default } }, command 3 [], rfl, by decide, by decide,
      by decide, by decide, by decide, by decide⟩,
    ⟨asked State.reset ⟨.localFeed, [1, 3, 0, 7, 0xFF, 0xFF]⟩, ⟨.localFeed, [1, 3, 0, 7, 0xFF, 0xFF]⟩, rfl, by decide, by decide,
      by decide, by decide, by decide, by decide⟩,
    ⟨{ State.reset with control := { State.reset.control with
        queue := [command 3 []], monitor := List.replicate 16 default } }, command 3 [], rfl, by decide, by decide⟩⟩

/-- STATUS with both plans, the longest hold and 60,000 slots, and the trim at its lowest. -/
theorem witness_StatusReports :
    ∃ (s : State) (c : Command), s.grants .status c ∧ s.clock.subsecond < 10000000 ∧
      (∃ p, s.plan.current = some p ∧ p.law ∧ p.hold = 15000000 ∧ p.slots = 60000) ∧
      (∃ p, s.plan.pending = some p ∧ p.law) ∧ s.plan.trim = -500000 ∧ s.control.queue.length ≤ 8 ∧
      s.store.free.length < 65536 :=
  ⟨asked { State.reset with plan := ⟨some ⟨15000000, 60000, 0⟩, some ⟨0, 1000, 9⟩, 0, false, -500000⟩ } (command 1 []),
    command 1 [], granted _ _ _ rfl rfl rfl rfl rfl, by decide, ⟨_, rfl, ⟨by decide, by decide, by decide⟩, rfl, rfl⟩,
    ⟨_, rfl, ⟨by decide, by decide, by decide⟩⟩, rfl, by decide, by decide +kernel⟩

/-- The queries at the ends of their arguments' ranges and just beyond. -/
theorem witness_QueriesChangeNothing :
    (∃ s c, State.grants s .laneMapRead c ∧ read2 c.payload 10 = 1021 ∧ read1 c.payload 12 = 28) ∧
    (∃ s c, State.grants s .laneMapRead c ∧ read2 c.payload 10 = 1022) ∧ (∃ s c, State.grants s .laneMapRead c ∧ read1 c.payload 12 = 0) ∧
    (∃ s c, State.grants s .laneMapRead c ∧ read1 c.payload 12 = 29) ∧
    (∃ s c, State.grants s .clipQuery c ∧ read1 c.payload 10 = 63 ∧ read1 c.payload 11 = 3) ∧
    (∃ s c, State.grants s .clipQuery c ∧ read1 c.payload 10 = 64) ∧ (∃ s c, State.grants s .clipQuery c ∧ read1 c.payload 11 = 4) ∧
    (∃ s c, State.grants s .spliceQuery c ∧ read1 c.payload 10 = 31 ∧ 31 ∉ s.order) ∧
    (∃ s c, State.grants s .spliceQuery c ∧ read1 c.payload 10 = 31 ∧ s.order = [0, 31]) ∧ (∃ s c, State.grants s .spliceQuery c ∧ read1 c.payload 10 = 32) :=
  ⟨⟨_, command 0x11 [3, 253, 28], granted State.reset _ _ rfl rfl rfl rfl rfl, rfl, rfl⟩,
    ⟨_, command 0x11 [3, 254, 1], granted State.reset _ _ rfl rfl rfl rfl rfl, rfl⟩,
    ⟨_, command 0x11 [0, 0, 0], granted State.reset _ _ rfl rfl rfl rfl rfl, rfl⟩,
    ⟨_, command 0x11 [0, 0, 29], granted State.reset _ _ rfl rfl rfl rfl rfl, rfl⟩,
    ⟨_, command 0x43 [63, 3, 0, 0], granted State.reset _ _ rfl rfl rfl rfl rfl, rfl, rfl⟩,
    ⟨_, command 0x43 [64, 0, 0, 0], granted State.reset _ _ rfl rfl rfl rfl rfl, rfl⟩,
    ⟨_, command 0x43 [0, 4, 0, 0], granted State.reset _ _ rfl rfl rfl rfl rfl, rfl⟩,
    ⟨_, command 0x52 [31], granted State.reset _ _ rfl rfl rfl rfl rfl, rfl, by decide⟩,
    ⟨_, command 0x52 [31], granted { State.reset with order := [0, 31] } _ _ rfl rfl rfl rfl rfl, rfl, rfl⟩,
    ⟨_, command 0x52 [32], granted State.reset _ _ rfl rfl rfl rfl rfl, rfl⟩⟩

theorem witness_StatsReportsAndClears :
    (∃ s c, State.grants s .stats c ∧ c.selector = 0) ∧ (∃ s c, State.grants s .stats c ∧ c.selector = 0 + 1) ∧
    (∃ s c, State.grants s .stats c ∧ c.selector = 3 + 1) ∧ (∃ s c, State.grants s .stats c ∧ c.selector = 5) :=
  ⟨⟨_, command 2 [0], granted State.reset _ _ rfl rfl rfl rfl rfl, rfl⟩,
    ⟨_, command 2 [1], granted State.reset _ _ rfl rfl rfl rfl rfl, rfl⟩,
    ⟨_, command 2 [4], granted State.reset _ _ rfl rfl rfl rfl rfl, rfl⟩,
    ⟨_, command 2 [5], granted State.reset _ _ rfl rfl rfl rfl rfl, rfl⟩⟩

/-- A waiting command does not touch the splice law. -/
theorem asked_spliceLaw {s : State} (c : Command) (h : s.spliceLaw) : (asked s c).spliceLaw :=
  ⟨⟨h.order.once, h.order.exact, h.order.group⟩, ⟨h.groups.held, h.groups.active, h.groups.spliced⟩,
    ⟨h.clips.cued, h.clips.playing, h.clips.single, h.clips.known⟩⟩

/-- A state with another store. -/
def stored (s : State) (c : CellStore) : State := { s with store := c }

/-- The store does not touch the splice law. -/
theorem stored_spliceLaw {s : State} (c : CellStore) (h : s.spliceLaw) : (stored s c).spliceLaw :=
  ⟨⟨h.order.once, h.order.exact, h.order.group⟩, ⟨h.groups.held, h.groups.active, h.groups.spliced⟩,
    ⟨h.clips.cued, h.clips.playing, h.clips.single, h.clips.known⟩⟩

/-- RESTART with an ARMED event and a read of its clip's cell running, with an IN event whose group is SPLICED and a FREE event beside
it while a record's read runs and a record waits, and while a write runs. -/
theorem witness_RestartKeepsAndClears :
    (∃ (s : State) (c : Command), s.grants .restart c ∧ s.spliceLaw ∧ (s.eventAt 0).state = .armed ∧
      (s.clipAt 0).state = .cued ∧ s.store.access = some (.read ⟨.clipCell 0 0 0, 262144⟩ true)) ∧
    (∃ (s : State) (c : Command), s.grants .restart c ∧ s.spliceLaw ∧ (s.eventAt 0).state = .onAir ∧
      (s.groupAt 0).state = .spliced ∧ (s.clipAt 0).state = .playing ∧ (s.eventAt 31).state = .free ∧
      (s.clipAt 63).state = .empty ∧ s.store.access = some (.read ⟨.record 0, 0⟩ true) ∧
      s.store.nfWaiting = some (record 0 1)) ∧
    (∃ (s : State) (c : Command), s.grants .restart c ∧ s.emitter.state = .stopped ∧
      s.store.access = some (.write 9 (.record (record 0 1)))) ∧
    (∃ (s : State) (c : Command), s.grants .restart c ∧ (s.clipAt 0).state = .empty ∧
      s.store.access = some (.read ⟨.clipCell 0 0 0, 262144⟩ false)) :=
  ⟨⟨asked (stored (live .armed .idle .cued 1 .stopped .none .locked) (served (.read ⟨.clipCell 0 0 0, 262144⟩ true) none none none))
        (command 3 []), command 3 [], granted _ _ _ rfl rfl rfl rfl rfl,
      asked_spliceLaw _ (stored_spliceLaw _ (live_spliceLaw _ _ _ _ _ _ _ (.inl ⟨rfl, rfl, rfl⟩))), by decide, by decide, rfl⟩,
    ⟨asked (stored (live .onAir .spliced .playing 1 .running .none .locked)
          (served (.read ⟨.record 0, 0⟩ true) none (some (record 0 1)) none)) (command 3 []), command 3 [],
      granted _ _ _ rfl rfl rfl rfl rfl,
      asked_spliceLaw _ (stored_spliceLaw _ (live_spliceLaw _ _ _ _ _ _ _ (.inr ⟨rfl, rfl, rfl⟩))), by decide, by decide,
      by decide, by decide, by decide, rfl, rfl⟩,
    ⟨asked (stored State.reset (served (.write 9 (.record (record 0 1))) none none none)) (command 3 []), command 3 [],
      granted _ _ _ rfl rfl rfl rfl rfl, rfl, rfl⟩,
    ⟨asked (stored State.reset (served (.read ⟨.clipCell 0 0 0, 262144⟩ false) none none none)) (command 3 []), command 3 [],
      granted _ _ _ rfl rfl rfl rfl rfl, by decide, rfl⟩⟩

/-- The state after entry 0 of a load at index 1021 has been applied, and the state before. -/
def loading (s : State) (n : Nat) : State :=
  if n = 0 then s
  else { s with laneMap := setRow s.laneMap 1021 (.pass 200), continuity := setRow s.continuity 1021 none }

/-- A lane map with output 200 on lane 0 and member 0 of group 3 on lane 1, the group with an active event. -/
def mapped : State :=
  { State.reset with
    laneMap := setRow (setRow State.reset.laneMap 0 (.pass 200)) 1 (.member 201 3 0)
    groups := setRow State.reset.groups 3 ⟨false, .idle, some 0⟩ }

/-- The lane map of `mapped`. -/
theorem mapped_entry (j : Nat) :
    mapped.laneEntry j = if 1 = j then .member 201 3 0 else if 0 = j then .pass 200 else .drop := by
  show rowAt (setRow (setRow _ _ _) _ _) _ _ = _
  rw [rowAt_setRow, rowAt_setRow, show rowAt State.reset.laneMap j .drop = .drop from rowAt_replicate _ _]
  by_cases h1 : 1 = j
  · subst h1; rfl
  · by_cases h0 : 0 = j
    · subst h0; rfl
    · simp [h1, h0]

/-- An entry that passes, and one for each reason: an output lane held elsewhere, a member position held elsewhere, and a group
with an active event in the new and in the present entry. -/
theorem witness_checkEntry :
    (∀ why, mapped.checkEntry 1021 ⟨1, 0, 0, 1021⟩ ≠ .error why) ∧ mapped.checkEntry 1022 ⟨0, 0, 0, 0⟩ = .error .badArgument ∧
    mapped.checkEntry 2 ⟨2, 4, 3, 9⟩ = .error .badArgument ∧
    (2 ≠ 0 ∧ (mapped.laneEntry 0).output = some 200 ∧ mapped.checkEntry 2 ⟨1, 0, 0, 200⟩ = .error .overlap) ∧
    (2 ≠ 1 ∧ (mapped.laneEntry 1).place = some ⟨3, 0⟩ ∧ mapped.checkEntry 2 ⟨2, 0, 3, 9⟩ = .error .overlap) ∧
    ((∀ j, j ≠ 2 → (mapped.laneEntry j).output ≠ some 9 ∧ (mapped.laneEntry j).place ≠ some ⟨3, 1⟩) ∧
      (mapped.groupAt 3).active ≠ none ∧ mapped.checkEntry 2 ⟨2, 1, 3, 9⟩ = .error .inUse) ∧
    mapped.checkEntry 1 ⟨0, 0, 0, 0⟩ = .error .inUse := by
  refine ⟨fun why => ?_, by decide +kernel, by decide +kernel, by decide +kernel, by decide +kernel,
    ⟨fun j _ => ?_, by decide, by decide +kernel⟩, by decide +kernel⟩
  · rw [show mapped.checkEntry 1021 ⟨1, 0, 0, 1021⟩ = .ok (.pass 1021) by decide +kernel]; intro h; cases h
  · rw [mapped_entry]
    split
    · decide
    · split <;> decide

/-- A load of one entry at the last index; the same with a second entry beyond it, which fails; and counts 0 and 29. -/
theorem witness_LaneMapLoadAppliesInOrder :
    (∃ s c, State.grants s .laneMapLoad c ∧ 1 ≤ c.entryCount ∧ c.entryCount ≤ 28 ∧ 1 = c.entryCount ∧ loading s 0 = s ∧
      (∀ i < 1, ∃ e, (loading s i).checkEntry (c.firstIndex + i) (readRawEntry c.payload (13 + 4 * i)) = .ok e ∧
        loading s (i + 1) = { loading s i with
          laneMap := setRow (loading s i).laneMap (c.firstIndex + i) e
          continuity := setRow (loading s i).continuity (c.firstIndex + i) none })) ∧
    (∃ s c, State.grants s .laneMapLoad c ∧ 1 < c.entryCount ∧
      (∀ i < 1, ∃ e, (loading s i).checkEntry (c.firstIndex + i) (readRawEntry c.payload (13 + 4 * i)) = .ok e ∧
        loading s (i + 1) = { loading s i with
          laneMap := setRow (loading s i).laneMap (c.firstIndex + i) e
          continuity := setRow (loading s i).continuity (c.firstIndex + i) none }) ∧
      (loading s 1).checkEntry (c.firstIndex + 1) (readRawEntry c.payload (13 + 4 * 1)) = .error .badArgument) ∧
    (∃ s c, State.grants s .laneMapLoad c ∧ c.entryCount = 0) ∧ (∃ s c, State.grants s .laneMapLoad c ∧ c.entryCount = 29) :=
  ⟨⟨_, command 0x10 [3, 253, 1, 0x10, 0, 0, 200], granted State.reset _ _ rfl rfl rfl rfl rfl, by decide, by decide, by decide,
      rfl, fun i hi => by
        obtain rfl : i = 0 := by omega
        exact ⟨.pass 200, by decide +kernel, rfl⟩⟩,
    ⟨_, command 0x10 [3, 253, 2, 0x10, 0, 0, 200, 0x10, 0, 0, 201], granted State.reset _ _ rfl rfl rfl rfl rfl, by decide,
      fun i hi => by
        obtain rfl : i = 0 := by omega
        exact ⟨.pass 200, by decide +kernel, rfl⟩, by decide +kernel⟩,
    ⟨_, command 0x10 [0, 0, 0], granted State.reset _ _ rfl rfl rfl rfl rfl, rfl⟩,
    ⟨_, command 0x10 [0, 0, 29], granted State.reset _ _ rfl rfl rfl rfl rfl, rfl⟩⟩

theorem witness_GroupAndWatchAreSet :
    (∃ s c, State.grants s .groupSet c ∧ c.groupArg = 15 ∧ c.localAllowedArg = 1) ∧
    (∃ s c, State.grants s .groupSet c ∧ c.groupArg = 16) ∧ (∃ s c, State.grants s .groupSet c ∧ c.localAllowedArg = 2) ∧
    (∃ s c, State.grants s .watchSet c ∧ c.watchArg = 15 ∧ c.watchPresence = 0) ∧
    (∃ s c, State.grants s .watchSet c ∧ c.watchArg = 0 ∧ c.watchPresence = 1 ∧ c.watchLaneArg = 1021) ∧
    (∃ s c, State.grants s .watchSet c ∧ c.watchArg = 16) ∧
    (∃ s c, State.grants s .watchSet c ∧ c.watchPresence = 1 ∧ c.watchLaneArg = 1022) :=
  ⟨⟨_, command 0x12 [15, 1], granted State.reset _ _ rfl rfl rfl rfl rfl, rfl, rfl⟩,
    ⟨_, command 0x12 [16, 0], granted State.reset _ _ rfl rfl rfl rfl rfl, rfl⟩,
    ⟨_, command 0x12 [0, 2], granted State.reset _ _ rfl rfl rfl rfl rfl, rfl⟩,
    ⟨_, command 0x13 [15, 0, 0, 0], granted State.reset _ _ rfl rfl rfl rfl rfl, rfl, rfl⟩,
    ⟨_, command 0x13 [0, 1, 3, 253], granted State.reset _ _ rfl rfl rfl rfl rfl, rfl, rfl, rfl⟩,
    ⟨_, command 0x13 [16, 0, 0, 0], granted State.reset _ _ rfl rfl rfl rfl rfl, rfl⟩,
    ⟨_, command 0x13 [0, 1, 3, 254], granted State.reset _ _ rfl rfl rfl rfl rfl, rfl, rfl⟩⟩

/-- R62, R128: with an event due, SITE SET takes it up where the trim changes, and leaves it PENDING where the trim in force is set
again. -/
theorem test_site_set_arms_at_a_new_trim :
    let due := arming (.member 9 0 0) none .ready
    ((after .siteSet (asked due (command 0x20 [0, 0, 0, 0, 0, 64]))).map (fun t => ((t.eventAt 0).state, t.order)) =
      some (.pending, [0])) ∧
    ((after .siteSet (asked due (command 0x20 [255, 255, 255, 255, 0, 64]))).map (fun t => ((t.eventAt 0).state, t.order)) =
      some (.armed, [])) := by decide +kernel

/-- SITE SET out of its ranges and with the trim in force, while an event is due; CLOCK SET that leaves a HOLDOVER just within the new limit, and one that leaves it just past it. -/
theorem witness_SettingsAreClamped :
    (∃ s c, State.grants s .siteSet c ∧ c.trimArg = -500001 ∧ c.lateArg = 256 ∧ s.plan.trim = 0) ∧
    (∃ s c, State.grants s .siteSet c ∧ c.trimArg = s.plan.trim ∧ s.dueForArming = [0]) ∧
    (∃ s c, State.grants s .clockSet c ∧ c.windowArg = 0 ∧ c.limitArg = 3601) ∧
    (∃ s c, State.grants s .clockSet c ∧ s.clock.state = .holdover ∧ s.clock.hold = 5 ∧ c.limitArg = 5) ∧
    (∃ s c, State.grants s .clockSet c ∧ s.clock.state = .holdover ∧ s.clock.hold = 6 ∧ c.limitArg = 5) :=
  ⟨⟨_, command 0x20 [0xFF, 0xF8, 0x5E, 0xDF, 1, 0], granted State.reset _ _ rfl rfl rfl rfl rfl, by decide, by decide, rfl⟩,
    ⟨_, command 0x20 [0, 0, 0, 0, 0, 64], granted (arming (.member 9 0 0) none .ready) _ _ rfl rfl rfl rfl rfl, by decide,
      by decide +kernel⟩,
    ⟨_, command 0x21 [0, 14, 17], granted State.reset _ _ rfl rfl rfl rfl rfl, rfl, rfl⟩,
    ⟨_, command 0x21 [10, 0, 5], granted (clocked { clockIn 0 .holdover with hold := 5 }) _ _ rfl rfl rfl rfl rfl, rfl, rfl,
      rfl⟩,
    ⟨_, command 0x21 [10, 0, 5], granted (clocked { clockIn 0 .holdover with hold := 6 }) _ _ rfl rfl rfl rfl rfl, rfl, rfl,
      rfl⟩⟩

theorem witness_PartitionAndEmitCommands :
    (∃ s c, State.grants s .partition c ∧ c.settingArg = 3 ∧ s.emitter.state = .stopped ∧
      ∀ j < 64, (s.clipAt j).state = .empty) ∧
    (∃ s c, State.grants s .partition c ∧ c.settingArg = 4) ∧
    (∃ s c, State.grants s .partition c ∧ c.settingArg = 0 ∧ s.emitter.state ≠ .stopped) ∧
    (∃ s c, State.grants s .partition c ∧ c.settingArg = 0 ∧ (s.clipAt 63).state ≠ .empty) ∧
    (∃ s c, State.grants s .emitStart c ∧ s.plan.current = none) ∧
    (∃ s c, State.grants s .emitStart c ∧ s.plan.current ≠ none ∧ s.emitter.state = .stopped) ∧
    (∃ s c, State.grants s .emitStart c ∧ s.plan.current ≠ none ∧ s.emitter.state ≠ .stopped) ∧
    (∃ s c, State.grants s .emitStop c ∧ s.emitter.state ≠ .stopped) ∧
    (∃ s c, State.grants s .emitStop c ∧ s.emitter.state = .stopped ∧ s.emitter.change = .start) ∧
    (∃ s c, State.grants s .emitStop c ∧ s.emitter.state = .stopped ∧ s.emitter.change ≠ .start) := by
  refine ⟨⟨_, command 0x22 [3], granted State.reset _ _ rfl rfl rfl rfl rfl, rfl, rfl, fun j _ => ?_⟩,
    ⟨_, command 0x22 [4], granted State.reset _ _ rfl rfl rfl rfl rfl, rfl⟩,
    ⟨_, command 0x22 [0], granted (onAir []) _ _ rfl rfl rfl rfl rfl, rfl, by decide⟩,
    ⟨_, command 0x22 [0], granted (clipHead .ready .blank []) _ _ rfl rfl rfl rfl rfl, rfl, ?_⟩,
    ⟨_, command 0x30 [], granted State.reset _ _ rfl rfl rfl rfl rfl, rfl⟩,
    ⟨_, command 0x30 [], granted (timed 0 0) _ _ rfl rfl rfl rfl rfl, by decide, rfl⟩,
    ⟨_, command 0x30 [], granted (onAir []) _ _ rfl rfl rfl rfl rfl, by decide, by decide⟩,
    ⟨_, command 0x31 [], granted (onAir []) _ _ rfl rfl rfl rfl rfl, by decide⟩,
    ⟨_, command 0x31 [], granted (ending none 0 .stopped .start .locked) _ _ rfl rfl rfl rfl rfl, rfl, rfl⟩,
    ⟨_, command 0x31 [], granted State.reset _ _ rfl rfl rfl rfl rfl, rfl, by decide⟩⟩
  · have : State.reset.clipAt j = .blank := rowAt_replicate _ _
    show (State.reset.clipAt j).state = .empty
    rw [this]; rfl
  · show ((clipHead .ready .blank []).clipAt 63).state ≠ .empty
    rw [(clipHead_clip _ _ _).1]; decide

/-- The clip commands on clip 63 in each state, and their arguments at the ends of their ranges and beyond. -/
theorem witness_ClipsOpenCloseAndGo :
    (∃ s c, State.grants s .clipOpen c ∧ c.clipArg = 63 ∧ c.memberCountArg = 4 ∧ (s.clipAt 63).state = .empty) ∧
    (∃ s c, State.grants s .clipOpen c ∧ c.clipArg = 63 ∧ c.memberCountArg = 1 ∧ (s.clipAt 63).state ≠ .empty) ∧
    (∃ s c, State.grants s .clipOpen c ∧ c.clipArg = 64) ∧ (∃ s c, State.grants s .clipOpen c ∧ c.memberCountArg = 5) ∧
    (∀ x, ∃ s c, State.grants s .clipRemove c ∧ c.clipArg = 63 ∧ (s.clipAt 63).state = x) ∧
    (∃ s c, State.grants s .clipRemove c ∧ c.clipArg = 64) ∧ (∃ s c, State.grants s .clipClose c ∧ c.clipArg = 64) ∧
    (∃ s c, State.grants s .clipClose c ∧ c.clipArg = 63 ∧ (s.clipAt 63).state = .ready) ∧
    (∃ s c, State.grants s .clipClose c ∧ c.clipArg = 63 ∧ (s.clipAt 63).state = .loading ∧
      read4 c.payload 23 = ((s.clipAt 63).memberAt 3).count ∧ ((s.clipAt 63).memberAt 3).count = 1 ∧
      read4 c.payload 11 = ((s.clipAt 63).memberAt 0).count ∧ read4 c.payload 15 = ((s.clipAt 63).memberAt 1).count ∧
      read4 c.payload 19 = ((s.clipAt 63).memberAt 2).count ∧ readSecond c.payload 27 = ~~~(s.clipAt 63).check) ∧
    (∃ s c, State.grants s .clipClose c ∧ c.clipArg = 63 ∧ (s.clipAt 63).state = .loading ∧
      read4 c.payload 23 ≠ ((s.clipAt 63).memberAt 3).count) := by
  have hx : ∀ x, ((asked (clipHead x .blank []) (command 0x42 [63])).clipAt 63).state = x := fun x => (clipHead_clip x .blank []).1
  refine ⟨⟨_, command 0x40 [63, 4], granted State.reset _ _ rfl rfl rfl rfl rfl, rfl, rfl, by decide⟩,
    ⟨_, command 0x40 [63, 1], granted (clipHead .ready .blank []) _ _ rfl rfl rfl rfl rfl, rfl, rfl, by decide⟩,
    ⟨_, command 0x40 [64, 1], granted State.reset _ _ rfl rfl rfl rfl rfl, rfl⟩,
    ⟨_, command 0x40 [0, 5], granted State.reset _ _ rfl rfl rfl rfl rfl, rfl⟩,
    fun x => ⟨_, command 0x42 [63], granted (clipHead x .blank []) _ _ rfl rfl rfl rfl rfl, rfl, hx x⟩,
    ⟨_, command 0x42 [64], granted State.reset _ _ rfl rfl rfl rfl rfl, rfl⟩,
    ⟨_, command 0x41 [64], granted State.reset _ _ rfl rfl rfl rfl rfl, rfl⟩,
    ⟨_, command 0x41 [63], granted (clipHead .ready .blank []) _ _ rfl rfl rfl rfl rfl, rfl, by decide⟩,
    ⟨_, command 0x41 [63, 0, 0, 0, 0, 0, 0, 0, 0, 0, 0, 0, 0, 0, 0, 0, 1, 0, 0, 0, 0],
      granted (clipHead .loading ⟨1, [5], some 1, 0⟩ []) _ _ rfl rfl rfl rfl rfl, rfl, by decide, by decide, by decide,
      by decide, by decide, by decide, by decide⟩,
    ⟨_, command 0x41 [63], granted (clipHead .loading ⟨1, [5], some 1, 0⟩ []) _ _ rfl rfl rfl rfl rfl, rfl, by decide,
      by decide⟩⟩

/-- A state in step with group 0 led by lane 0, and its events. -/
def schedule (events : Vector EventRecord 32) (order : List Nat) : State :=
  { onAir [] with laneMap := setRow State.reset.laneMap 0 (.member 9 0 0), events := events, order := order }

/-- SPLICE ADD for group 0 and clip 63, from 10:0 to 11:0. -/
def addCommand : Command := command 0x50 [0, 63, 0, 0, 0, 10, 0, 0, 0, 0, 0, 0, 0, 11, 0, 0, 0, 0]

/-- What `addCommand` asks for. -/
def asksFor : SpliceOrder := ⟨.network, 0, 63, ⟨10, 0⟩, ⟨11, 0⟩⟩

/-- Nothing is scheduled in a table of FREE events. -/
theorem schedule_orderLaw : (asked (schedule State.reset.events []) addCommand).orderLaw :=
  ⟨List.nodup_nil, fun e => ⟨fun h => (by cases h), fun h => by
      have h2 := h.2
      rw [show (asked (schedule State.reset.events []) addCommand).eventAt e = .blank from rowAt_replicate _ _] at h2
      cases h2⟩, fun e h => (by cases h)⟩

/-- A DONE event that finished at slot 7 of second 6. -/
def finished : EventRecord := { EventRecord.blank with state := .done, finish := some ⟨6, 7⟩ }

/-- Every event of a full table of DONE events. -/
theorem finished_event (k : Nat) (h : k < 32) :
    (asked (schedule (Vector.replicate 32 finished) []) addCommand).eventAt k = finished := by
  show rowAt (Vector.replicate 32 finished) k .blank = finished
  simp [rowAt, h]

/-- Nothing is scheduled in a table of DONE events. -/
theorem finished_orderLaw : (asked (schedule (Vector.replicate 32 finished) []) addCommand).orderLaw :=
  ⟨List.nodup_nil, fun e => ⟨fun h => (by cases h), fun h => by
      have h2 := h.2
      rw [finished_event e h.1] at h2
      cases h2⟩, fun e h => (by cases h)⟩

/-- Each check of SPLICE ADD fails somewhere, and an add is taken into a FREE entry and into a final one. -/
theorem witness_SpliceAddChecksInOrder :
    (∃ s c, State.grants s .spliceAdd c ∧ s.clock.secondValid = false) ∧
    (∃ s c, State.grants s .spliceAdd c ∧ s.clock.secondValid = true ∧ s.plan.current = some plan1000 ∧
      c.origin ≠ .localFeed ∧ 15 < c.addGroup) ∧
    (∃ s, State.grants s .spliceAdd addCommand ∧ addCommand.addIn = ⟨10, 0⟩ ∧
      addCommand.addIn.earlier ⟨s.nominalNow.sec + 3, s.nominalNow.sub⟩ = true) ∧
    (∃ s, State.grants s .spliceAdd addCommand ∧
      asksFor = ⟨addCommand.origin, addCommand.addGroup, addCommand.addClip, addCommand.addIn, addCommand.addOut⟩ ∧
      s.clock.secondValid = true ∧ s.plan.current ≠ none ∧
      ((asksFor.outTime.sec - asksFor.inTime.sec).toNat : Int) * 10000000 + asksFor.outTime.sub - asksFor.inTime.sub =
        10000000 ∧
      s.memberLane 0 0 = some 0 ∧ asksFor.inTime.earlier ⟨s.nominalNow.sec + 3, s.nominalNow.sub⟩ = false ∧
      (s.eventAt 31).state = .pending ∧ (s.eventAt 31).given.group = asksFor.group ∧
      (s.eventAt 31).given.inTime.earlier asksFor.outTime = true ∧ asksFor.inTime.earlier (s.eventAt 31).given.outTime = true ∧
      ∀ k < 31, (s.eventAt k).state = .free) ∧
    (∃ s, State.grants s .spliceAdd addCommand ∧ s.clock.secondValid = true ∧ s.plan.current ≠ none ∧
      s.memberLane 0 0 = some 0 ∧ s.orderLaw ∧ ∀ e < 32, (s.eventAt e).state = .free) ∧
    (∃ s, State.grants s .spliceAdd addCommand ∧ s.clock.secondValid = true ∧ s.plan.current ≠ none ∧
      s.memberLane 0 0 = some 0 ∧ s.orderLaw ∧ asksFor.inTime.earlier ⟨s.nominalNow.sec + 3, s.nominalNow.sub⟩ = false ∧
      (∀ e < 32, (s.eventAt e).state = .done) ∧
      ∀ k < 32, ∃ x, (s.eventAt k).finish = some x ∧ (x.sec - 5 : Word32).toNat < 2147483648) := by
  refine ⟨⟨_, addCommand, granted State.reset _ _ rfl rfl rfl rfl rfl, rfl⟩,
    ⟨_, command 0x50 [16], granted (onAir []) _ _ rfl rfl rfl rfl rfl, rfl, rfl, by decide, by decide⟩,
    ⟨_, granted (clocked { inStepClock 0 with second := 8 }) _ _ rfl rfl rfl rfl rfl, by decide, by decide⟩,
    ⟨_, granted (schedule (setRow State.reset.events 31 (.added { asksFor with inTime := ⟨9, 1⟩, outTime := ⟨10, 1⟩ })) [31]) _ _
        rfl rfl rfl rfl rfl, by decide, rfl, by decide, by decide, by decide +kernel, by decide, by decide, by decide, by decide,
      by decide, by decide +kernel⟩,
    ⟨_, granted (schedule State.reset.events []) _ _ rfl rfl rfl rfl rfl, rfl, by decide, by decide +kernel, schedule_orderLaw,
      by decide +kernel⟩,
    ⟨_, granted (schedule (Vector.replicate 32 finished) []) _ _ rfl rfl rfl rfl rfl, rfl, by decide, by decide +kernel,
      finished_orderLaw, by decide, by decide +kernel, fun k hk => ⟨⟨6, 7⟩, by rw [finished_event k hk]; rfl, by decide⟩⟩⟩

/-- Right after reset, but for event 31. -/
def withEvent31 (r : EventRecord) : State := { State.reset with events := setRow State.reset.events 31 r }

/-- SPLICE CANCEL of an event beyond the table, from a barred local origin, and of event 31 in every state. -/
theorem witness_SpliceCancelActsByState :
    (∃ s c, State.grants s .spliceCancel c ∧ c.eventArg = 32) ∧
    (∃ (s : State) (c : Command), s.grants .spliceCancel c ∧ c.eventArg = 31 ∧ c.origin = .localFeed ∧
      (s.eventAt 31).state = .free) ∧
    (∀ x, ∃ s c, State.grants s .spliceCancel c ∧ c.eventArg = 31 ∧ c.origin ≠ .localFeed ∧ (s.eventAt 31).state = x ∧
      (s.eventAt 31).returnRequested = false) ∧
    (∃ s c, State.grants s .spliceCancel c ∧ c.eventArg = 31 ∧ (s.eventAt 31).state = .onAir ∧
      (s.eventAt 31).returnRequested = true ∧ (s.eventAt 31).returnTime = some ⟨1, 5⟩) := by
  refine ⟨⟨_, command 0x51 [32], granted State.reset _ _ rfl rfl rfl rfl rfl, rfl⟩,
    ⟨asked State.reset ⟨.localFeed, (command 0x51 [31]).payload⟩, ⟨.localFeed, (command 0x51 [31]).payload⟩,
      ⟨⟨[], rfl⟩, by decide, by decide, by decide, fun _ _ => by decide, fun _ => by decide⟩, by decide, rfl, by decide⟩,
    fun x => ⟨_, command 0x51 [31],
      granted (withEvent31 { EventRecord.blank with state := x }) _ _ rfl rfl rfl rfl rfl, rfl, by decide, ?_, ?_⟩,
    ⟨_, command 0x51 [31],
      granted (withEvent31 { EventRecord.blank with state := .onAir, returnRequested := true, returnTime := some ⟨1, 5⟩ }) _ _ rfl
        rfl rfl rfl rfl,
      rfl, by decide, by decide, by decide⟩⟩
  · cases x <;> decide
  · cases x <;> decide

/-- The plan in force with no pending plan, at its S_eff, at the difference of 2^31, and before its S_eff; the edges of the emission
arithmetic. -/
theorem witness_TimesOfTheArithmetic :
    (∃ u : PlanUnit, u.pending = none ∧ u.current = some plan1000) ∧
    (∃ u : PlanUnit, u.pending = some ⟨0, 2000, 7⟩ ∧ (⟨0, 2000, 7⟩ : Plan).eff = 7 ∧
      (((7 + 2147483648 : Word32) - 7).toNat = 2147483648 ∧ ((7 : Word32) - 6).toNat = 1 ∧
        ((7 : Word32) - (7 - 2147483647)).toNat = 2147483647)) ∧
    ((9999999 : Nat) < 10000000 ∧ (15000000 : Nat) ≤ 15000000) ∧ ((0 : Int) + (-1) < 0 ∧ (-500000 : Int) ≤ -1) ∧
    (0 ≤ ((0 : Nat) : Int) + 0 ∧ ((9999999 : Nat) : Int) + 0 < 10000000) ∧
    (10000000 ≤ ((9999999 : Nat) : Int) + 1 ∧ (1 : Int) ≤ 500000) :=
  ⟨⟨{ State.reset.plan with current := some plan1000 }, rfl, rfl⟩,
    ⟨{ State.reset.plan with current := some plan1000, pending := some ⟨0, 2000, 7⟩ }, rfl, rfl, by decide⟩, by decide⟩

/-- A target in each of the three cases: j = K, j = 0, and any other. -/
theorem witness_TargetIsTheFirstSlot :
    (∃ e : Time, e.sub < 10000000 ∧ e.sub = 9990001) ∧ (∃ e : Time, e.sub < 10000000 ∧ e.sub = 0) ∧
    (∃ e : Time, e.sub < 10000000 ∧ e.sub = 9990000) :=
  ⟨⟨⟨0, 9990001⟩, by decide, rfl⟩, ⟨⟨0, 0⟩, by decide, rfl⟩, ⟨⟨0, 9990000⟩, by decide, rfl⟩⟩

theorem witness_LatenessOfTheHead :
    secondLater (5 + 2147483647) 5 = true ∧ secondEarlier 3 (5 - 1) = true ∧ (3 : Word32) ≠ 5 + 2147483647 ∧
    secondEarlier (5 + 2147483648) (5 - 1) = true ∧ (5 + 2147483648 : Word32) ≠ 5 + 2147483647 := by decide

/-- A header that reads. -/
theorem witness_HeadersRoundTrip : readHeader fillCell.header.bytes = some fillCell.header := by decide +kernel

/-- The laws hold together right after reset, and a step from there answers a next state. -/
theorem witness_LawsAreKept :
    State.reset.clock.law ∧ State.reset.clock.heldWithin ∧ State.reset.planLaw ∧ State.reset.queueLaw ∧
    Memory.wf State.reset.store.dram = true ∧ step State.reset = .next State.reset := by
  refine ⟨⟨by decide, by decide, by decide, by decide, by decide, by decide, by decide, ?_, ?_⟩, ?_,
    ⟨?_, ?_, by decide, by decide, by decide, by decide, by decide, by decide, by decide⟩,
    ⟨by decide, by decide, by decide, by decide, ?_⟩, rfl, rfl⟩
  · intro p h; cases h
  · intro p h; cases h
  · intro h; cases h
  · intro p h; cases h
  · intro p h; cases h
  · intro c h; cases h

end Sys2Proof.Tests
end

namespace Sys2Proof.Machine

/-! ### The laws of the Site Clock, transition by transition (R1, R8, R13, R15, R17) -/

/-- The two laws of the Site Clock that every step keeps together: a hold count is within its range because it is within the
holdover limit. -/
structure SiteClock.lawful (c : SiteClock) : Prop where
  law : c.law
  held : c.heldWithin

/-- The Site Clock after the count has been stepped by `e` (R10). -/
def SiteClock.stepped (c : SiteClock) (e : Int) : SiteClock :=
  if ((tickOfVerdict : Int) - e).toNat < ticksPerSecond then
    { c with coming := none, subsecond := ((tickOfVerdict : Int) - e).toNat }
  else ({ c with coming := none } : SiteClock).boundary

/-- What a verdict decides on the Site Clock that takes it: its state and counts, and the step it calls for (R9, R11 to R13). -/
def SiteClock.judged (c : SiteClock) : SiteClock × Option Int :=
  ({ c with passed := none, verdictTaken := true } : SiteClock).applyVerdict (judgeRecord c.passed c.window)

/-- The Site Clock after its verdict, stepped where the verdict calls for it (R9 to R13). -/
def SiteClock.rendered (c : SiteClock) : SiteClock :=
  match c.judged.2 with
  | none => c.judged.1
  | some e => c.judged.1.stepped e

theorem SiteClock.afterReset_lawful : SiteClock.afterReset.lawful :=
  ⟨⟨by decide, by decide, by decide, by decide, by decide, by decide, by decide, nofun, nofun⟩, nofun⟩

/-- An entry to UNLOCKED leaves lawful counts, whatever they were. -/
theorem SiteClock.law.unlock {c : SiteClock} (h : c.law) : c.unlock.lawful :=
  ⟨⟨h.subsecond, Nat.zero_le _, Nat.zero_le _, Nat.zero_le _, Nat.zero_le _, h.window, h.limit, h.passed, h.coming⟩, nofun⟩

/-- An entry to ACQUIRING with a good count in range. -/
theorem SiteClock.law.acquire {c : SiteClock} (h : c.law) {n : Nat} (hn : n ≤ 3) : (c.acquire n).lawful :=
  ⟨⟨h.subsecond, hn, Nat.zero_le _, Nat.zero_le _, Nat.zero_le _, h.window, h.limit, h.passed, h.coming⟩, nofun⟩

/-- An entry to LOCKED. -/
theorem SiteClock.law.lock {c : SiteClock} (h : c.law) : c.lock.lawful :=
  ⟨⟨h.subsecond, h.good, Nat.zero_le _, h.mismatch, Nat.zero_le _, h.window, h.limit, h.passed, h.coming⟩, nofun⟩

/-- The comparison with the holdover limit makes a clock in range lawful (R13, R17). -/
theorem SiteClock.law.checkHold {c : SiteClock} (h : c.law) : c.checkHold.lawful := by
  unfold SiteClock.checkHold
  split
  · exact h.unlock
  · rename_i hold
    exact ⟨h, fun hs => Nat.le_of_not_lt fun hl => hold ⟨hs, hl⟩⟩

/-- A record filed with a phase error in range stays in range (R8). -/
theorem filePulse_within {r : Option PhaseErrors} {e lo hi : Int} (h : ∀ p, r = some p → p.within lo hi) (hlo : lo ≤ e)
    (hhi : e ≤ hi) : ∀ p, filePulse r e = some p → p.within lo hi := by
  intro p hp
  cases r with
  | none =>
    obtain rfl : ⟨e, e⟩ = p := by simpa [filePulse] using hp
    exact ⟨hlo, hhi, hlo, hhi⟩
  | some q =>
    obtain ⟨h1, h2, h3, h4⟩ := h q rfl
    simp only [filePulse, Option.some.injEq] at hp
    subst hp
    split
    · exact ⟨h1, h2, hlo, hhi⟩
    · exact ⟨h1, h2, h3, h4⟩

theorem SiteClock.lawful.takePulse {c : SiteClock} (h : c.lawful) : c.takePulse.lawful := by
  obtain ⟨⟨hsub, hgood, hbad, hmis, hhold, hwin, hlim, hpassed, hcoming⟩, hheld⟩ := h
  unfold SiteClock.takePulse
  split
  · rename_i hs
    have hs : c.subsecond < 5000000 := hs
    exact ⟨⟨hsub, hgood, hbad, hmis, hhold, hwin, hlim, filePulse_within hpassed (by omega) (by omega), hcoming⟩, hheld⟩
  · rename_i hs
    have hs : ¬c.subsecond < 5000000 := hs
    exact ⟨⟨hsub, hgood, hbad, hmis, hhold, hwin, hlim, hpassed, filePulse_within hcoming (by omega) (by omega)⟩, hheld⟩

/-- The second number and the mismatch count at a boundary (R6, R7). -/
theorem SiteClock.lawful.boundarySecond {c : SiteClock} (h : c.lawful) : c.boundarySecond.lawful := by
  obtain ⟨⟨hsub, hgood, hbad, hmis, hhold, hwin, hlim, hpassed, hcoming⟩, hheld⟩ := h
  have counted : ∀ (w : Word32) (v : Bool) (n : Nat), n ≤ 2 →
      ({ c with second := w, secondValid := v, mismatch := n } : SiteClock).lawful := fun _ _ _ hn =>
    ⟨⟨hsub, hgood, hbad, hn, hhold, hwin, hlim, hpassed, hcoming⟩, hheld⟩
  have reacquired : ∀ w : Word32, (({ c with second := w, secondValid := true } : SiteClock).acquire 0).lawful := fun w =>
    (counted w true c.mismatch hmis).law.acquire (by decide)
  unfold SiteClock.boundarySecond
  split
  · exact counted _ _ _ hmis
  · exact counted _ _ _ (by decide)
  · exact counted _ _ _ (by decide)
  all_goals
    split
    · exact counted _ _ _ (by decide)
    · split
      · exact reacquired _
      · exact counted _ _ _ (by omega)

/-- A boundary leaves the record and the phase errors of the clock in range: the coming record becomes the passed one. -/
theorem SiteClock.lawful.boundary {c : SiteClock} (h : c.lawful) : c.boundary.lawful := by
  obtain ⟨⟨-, hgood, hbad, hmis, hhold, hwin, hlim, -, -⟩, hheld⟩ := h.boundarySecond
  refine ⟨⟨Nat.zero_lt_succ _, hgood, hbad, hmis, hhold, hwin, hlim, fun p hp => ?_, nofun⟩, hheld⟩
  obtain ⟨h1, h2, h3, h4⟩ := h.law.coming p hp
  exact ⟨h1, by omega, h3, by omega⟩

theorem SiteClock.lawful.loseFrequency {c : SiteClock} (h : c.lawful) : c.loseFrequency.lawful := by
  obtain ⟨⟨hsub, hgood, hbad, hmis, hhold, hwin, hlim, hpassed, hcoming⟩, hheld⟩ := h
  have flagged : ({ c with freqPresent := false } : SiteClock).lawful :=
    ⟨⟨hsub, hgood, hbad, hmis, hhold, hwin, hlim, hpassed, hcoming⟩, hheld⟩
  unfold SiteClock.loseFrequency
  split
  · exact ⟨⟨hsub, hgood, hbad, hmis, Nat.zero_le _, hwin, hlim, hpassed, hcoming⟩, fun _ => Nat.zero_le _⟩
  · exact flagged.law.unlock
  · exact flagged
  · exact flagged

/-- A verdict keeps the laws: a HOLDOVER counts its hold from within the limit, and a count past it is unlocked (R11 to R13). -/
theorem SiteClock.lawful.applyVerdict {c : SiteClock} (h : c.lawful) (v : Verdict) : (c.applyVerdict v).1.lawful := by
  obtain ⟨⟨hsub, hgood, hbad, hmis, hhold, hwin, hlim, hpassed, hcoming⟩, hheld⟩ := id h
  have recounted : ∀ g b : Nat, g ≤ 3 → b ≤ 2 → ({ c with good := g, bad := b } : SiteClock).lawful := fun _ _ hg hb =>
    ⟨⟨hsub, hg, hb, hmis, hhold, hwin, hlim, hpassed, hcoming⟩, hheld⟩
  have held : ∀ b n : Nat, b ≤ 2 → n ≤ 3601 → ({ c with state := .holdover, bad := b, hold := n } : SiteClock).checkHold.lawful :=
    fun _ _ hb hn => SiteClock.law.checkHold ⟨hsub, hgood, hb, hmis, hn, hwin, hlim, hpassed, hcoming⟩
  have holdNext : c.state = .holdover → c.hold + 1 ≤ 3601 := fun hs => by have := hheld hs; omega
  have same : ∀ (b n : Nat), c.state = .holdover →
      ({ c with bad := b, hold := n } : SiteClock) = { c with state := .holdover, bad := b, hold := n } := fun _ _ hs => by rw [← hs]
  unfold SiteClock.applyVerdict
  split
  case h_1 => exact h.law.acquire (by decide)
  case h_2 => exact h.law.acquire (by decide)
  case h_3 => exact h
  case h_4 =>
    have counted := recounted (min 3 (c.good + 1)) c.bad (by omega) hbad
    dsimp only
    split
    · exact counted.law.lock
    · exact counted
  case h_5 => exact recounted 0 c.bad (by decide) hbad
  case h_6 => exact recounted 0 c.bad (by decide) hbad
  case h_7 => exact recounted c.good 0 hgood (by decide)
  case h_8 =>
    split
    · exact h.law.acquire (by decide)
    · exact recounted c.good (c.bad + 1) hgood (by omega)
  case h_9 => exact held c.bad 1 hbad (by decide)
  case h_10 hs =>
    split
    · exact h.law.lock
    · exact same c.bad _ hs ▸ held c.bad _ hbad (holdNext hs)
  case h_11 hs =>
    split
    · exact h.law.acquire (by decide)
    · exact same _ _ hs ▸ held (c.bad + 1) _ (by omega) (holdNext hs)
  case h_12 hs => exact same c.bad _ hs ▸ held c.bad _ hbad (holdNext hs)

theorem SiteClock.lawful.stepped {c : SiteClock} (h : c.lawful) (e : Int) : (c.stepped e).lawful := by
  obtain ⟨⟨hsub, hgood, hbad, hmis, hhold, hwin, hlim, hpassed, hcoming⟩, hheld⟩ := h
  unfold SiteClock.stepped
  split
  · rename_i ht
    exact ⟨⟨ht, hgood, hbad, hmis, hhold, hwin, hlim, hpassed, nofun⟩, hheld⟩
  · exact SiteClock.lawful.boundary ⟨⟨hsub, hgood, hbad, hmis, hhold, hwin, hlim, hpassed, nofun⟩, hheld⟩

theorem SiteClock.lawful.rendered {c : SiteClock} (h : c.lawful) : c.rendered.lawful := by
  have emptied : ({ c with passed := none, verdictTaken := true } : SiteClock).lawful := by
    obtain ⟨⟨hsub, hgood, hbad, hmis, hhold, hwin, hlim, -, hcoming⟩, hheld⟩ := h
    exact ⟨⟨hsub, hgood, hbad, hmis, hhold, hwin, hlim, nofun, hcoming⟩, hheld⟩
  have judged : c.judged.1.lawful := emptied.applyVerdict _
  unfold SiteClock.rendered
  split
  · exact judged
  · exact judged.stepped _

/-- CLOCK SET's clamps and its comparison of the hold count with the new limit (R13, R17). -/
theorem SiteClock.lawful.set {c : SiteClock} (h : c.lawful) (w l : Nat) :
    ({ c with window := max 1 (min 100 w), limit := min 3600 l } : SiteClock).checkHold.lawful := by
  obtain ⟨⟨hsub, hgood, hbad, hmis, hhold, -, -, hpassed, hcoming⟩, -⟩ := h
  refine SiteClock.law.checkHold ⟨hsub, hgood, hbad, hmis, hhold, ⟨?_, ?_⟩, ?_, hpassed, hcoming⟩
  · exact Nat.le_max_left ..
  · show max 1 (min 100 w) ≤ 100; omega
  · exact Nat.min_le_left ..

/-! ### What a step can do to the Site Clock -/

/-- Everything a row of the table can do to the Site Clock. -/
inductive SiteClock.Moves (c : SiteClock) : SiteClock → Prop where
  | stays : Moves c c
  | reset : Moves c .afterReset
  | edge : c.subsecond + 1 < ticksPerSecond → Moves c { c with subsecond := c.subsecond + 1 }
  | boundary : Moves c c.boundary
  | timeCode (n : Word32) : Moves c { c with announced := some n }
  | pulse : Moves c c.takePulse
  | verdict : Moves c c.rendered
  | frequencyLoss : Moves c c.loseFrequency
  | frequencyReturn : Moves c { c with freqPresent := true }
  | set (w l : Nat) : Moves c ({ c with window := max 1 (min 100 w), limit := min 3600 l } : SiteClock).checkHold

theorem SiteClock.Moves.lawful {c d : SiteClock} (h : c.Moves d) (hc : c.lawful) : d.lawful := by
  cases h with
  | stays => exact hc
  | reset => exact SiteClock.afterReset_lawful
  | edge hs =>
    obtain ⟨⟨-, hgood, hbad, hmis, hhold, hwin, hlim, hpassed, hcoming⟩, hheld⟩ := hc
    exact ⟨⟨hs, hgood, hbad, hmis, hhold, hwin, hlim, hpassed, hcoming⟩, hheld⟩
  | boundary => exact hc.boundary
  | timeCode n =>
    obtain ⟨⟨hsub, hgood, hbad, hmis, hhold, hwin, hlim, hpassed, hcoming⟩, hheld⟩ := hc
    exact ⟨⟨hsub, hgood, hbad, hmis, hhold, hwin, hlim, hpassed, hcoming⟩, hheld⟩
  | pulse => exact hc.takePulse
  | verdict => exact hc.rendered
  | frequencyLoss => exact hc.loseFrequency
  | frequencyReturn =>
    obtain ⟨⟨hsub, hgood, hbad, hmis, hhold, hwin, hlim, hpassed, hcoming⟩, hheld⟩ := hc
    exact ⟨⟨hsub, hgood, hbad, hmis, hhold, hwin, hlim, hpassed, hcoming⟩, hheld⟩
  | set w l => exact hc.set w l

/-- The clock of a boundary taken at a counted edge. -/
@[simp] theorem State.edgeBoundary_clock (s : State) : s.edgeBoundary.clock = s.clock.boundary := by
  simp [State.edgeBoundary, State.clockBoundary]

/-- The clock of a step (R10). -/
@[simp] theorem State.takeStep_clock (s : State) (b : ClockState) (e : Int) : (s.takeStep b e).clock = s.clock.stepped e := by
  unfold State.takeStep SiteClock.stepped
  dsimp only
  split
  · split <;> simp
  · simp

/-- A verdict that is due renders the clock (R9 to R13). -/
theorem execVerdict_due {s : State} (h : s.clock.verdictDue) :
    execVerdict s = .next
      (match s.clock.judged.2 with
        | none => ({ s with clock := s.clock.judged.1 } : State).notifyClock s.clock.state
            (judgeRecord s.clock.passed s.clock.window).cause
        | some e => ({ s with clock := s.clock.judged.1 } : State).takeStep s.clock.state e) := by
  unfold execVerdict
  rw [if_pos (show s.clock.subsecond = tickOfVerdict ∧ s.clock.verdictTaken = false from h)]
  unfold SiteClock.judged
  dsimp only
  split <;> simp [*]

theorem clockSetBody_clock (c : Command) (s : State) :
    (clockSetBody c s).clock =
      ({ s.clock with window := max 1 (min 100 c.windowArg), limit := min 3600 c.limitArg } : SiteClock).checkHold := by
  simp [clockSetBody]

/-- What each row does to the Site Clock: the rows of the Site Clock and CLOCK SET move it, FULL_RESET resets it, and every other
row leaves it as it is. -/
theorem exec_clock {i : Instr} {s t : State} (h : exec i s = .next t) : s.clock.Moves t.clock := by
  have still : t.clock = s.clock → s.clock.Moves t.clock := fun hc => hc ▸ .stays
  cases i with
  | fullReset cause straps => cases cause <;> (injection h with h; subst h; exact .reset)
  | countedEdge =>
    change execCountedEdge s = _ at h
    unfold execCountedEdge at h
    split at h <;> (injection h with h; subst h)
    · rename_i hs; simpa using SiteClock.Moves.edge hs
    · simpa using SiteClock.Moves.boundary
  | secondBoundary =>
    change execSecondBoundary s = _ at h
    unfold execSecondBoundary at h
    split at h <;> (injection h with h; subst h)
    · exact .stays
    · simpa using SiteClock.Moves.boundary
  | timeCodeMessage intact n => cases intact <;> (injection h with h; subst h); exacts [.stays, .timeCode n]
  | pulse => injection h with h; subst h; exact .pulse
  | verdict =>
    by_cases hv : s.clock.verdictDue
    · obtain rfl := Host.Outcome.next.inj ((execVerdict_due hv).symm.trans h)
      have rendered : s.clock.Moves s.clock.rendered := .verdict
      unfold SiteClock.rendered at rendered
      split <;> simp_all
    · change execVerdict s = _ at h
      unfold execVerdict at h
      rw [if_neg (show ¬(s.clock.subsecond = tickOfVerdict ∧ s.clock.verdictTaken = false) from hv)] at h
      injection h with h; subst h; exact .stays
  | frequencyLoss => injection h with h; subst h; simpa using SiteClock.Moves.frequencyLoss
  | frequencyReturn => injection h with h; subst h; exact .frequencyReturn
  | clockSet =>
    obtain rfl | ⟨c, rest, -, -, -, -, rfl | rfl | rfl⟩ := State.takeCommand_cases h
    · exact .stays
    · exact still (by simp)
    · exact still (by simp)
    · simpa [clockSetBody_clock] using SiteClock.Moves.set (c := s.clock) c.windowArg c.limitArg
  | epochCounterTick => exact still (execEpochCounterTick_frame h).1
  | huntCandidate p b => exact still (execHuntCandidate_frame h).1
  | presyncHeader p b => exact still (execPresyncHeader_frame h).1
  | syncHeader p b => exact still (execSyncHeader_frame h).1
  | cellDelivery p b => exact still (execCellDelivery_frame h).1
  | intakeHeadHandoff p => exact still (execIntakeHeadHandoff_frame h).1
  | cellStoreAccessEnd => exact still (execCellStoreAccessEnd_frame h).1
  | emitterStagingRead c => exact still (execEmitterStagingRead_frame h).1
  | slotStart => exact still (execSlotStart_frame h).1
  | eventArming => exact still (execEventArming_frame h).1
  | monitorCellSent => exact still (execMonitorCellSent_frame h).1
  | unknown => exact still (execUnknown_frame h).1
  | status => exact still (execStatus_frame h).1
  | stats => exact still (execStats_frame h).1
  | restart => exact still (execRestart_frame h).1
  | laneMapLoad => exact still (execLaneMapLoad_frame h).1
  | laneMapRead => exact still (execLaneMapRead_frame h).1
  | groupSet => exact still (execGroupSet_frame h).1
  | watchSet => exact still (execWatchSet_frame h).1
  | siteSet => exact still (execSiteSet_frame h).1
  | partition => exact still (execPartition_frame h).1
  | emitStart => exact still (execEmitStart_frame h).1
  | emitStop => exact still (execEmitStop_frame h).1
  | clipOpen => exact still (execClipOpen_frame h).1
  | clipClose => exact still (execClipClose_frame h).1
  | clipRemove => exact still (execClipRemove_frame h).1
  | clipQuery => exact still (execClipQuery_frame h).1
  | spliceAdd => exact still (execSpliceAdd_frame h).1
  | spliceCancel => exact still (execSpliceCancel_frame h).1
  | spliceQuery => exact still (execSpliceQuery_frame h).1

/-- Settles O55: a step runs one row, and every move of the Site Clock keeps its laws. -/
theorem clockLawIsKept : Obligations.ClockLawIsKept := by
  intro s t hlaw hheld hstep
  have moved : s.clock.Moves t.clock := by
    unfold step at hstep
    split at hstep
    · injection hstep with hstep; subst hstep; exact .stays
    · rename_i i rest _; exact exec_clock (s := { s with pending := rest }) hstep
  obtain ⟨law, held⟩ := moved.lawful ⟨hlaw, hheld⟩
  exact ⟨law, held⟩

end Sys2Proof.Machine

namespace Sys2Proof.Machine

/-! ### FULL_RESET and the values it leaves -/

/-- The epoch drawn: of three values in a row at most two are refused, since they differ and only 0 and the epoch held are refused
(R161). -/
theorem drawEpoch_first (counter : Word32) (held : Option Word32) :
    ∃ k ≤ 2, drawEpoch counter held = counter + BitVec.ofNat 32 k ∧ drawEpoch counter held ≠ 0 ∧
      some (drawEpoch counter held) ≠ held ∧
      ∀ j < k, counter + BitVec.ofNat 32 j = 0 ∨ some (counter + BitVec.ofNat 32 j) = held := by
  unfold drawEpoch
  dsimp only
  by_cases h0 : counter = 0 ∨ some counter = held
  · by_cases h1 : counter + 1 = 0 ∨ some (counter + 1) = held
    · rw [if_pos (by simpa using h0), if_pos (by simpa using h1)]
      refine ⟨2, le_rfl, rfl, ?_, ?_, fun j hj => ?_⟩
      · rcases h0 with rfl | rfl
        · decide
        · rcases h1 with h1 | h1
          · bv_omega
          · exact absurd (Option.some.inj h1) (by bv_omega)
      · rcases h1 with h1 | rfl
        · rcases h0 with rfl | rfl
          · exact absurd h1 (by decide)
          · exact fun h => absurd (Option.some.inj h) (by bv_omega)
        · exact fun h => absurd (Option.some.inj h) (by bv_omega)
      · obtain rfl | rfl : j = 0 ∨ j = 1 := by omega
        · simpa using h0
        · exact h1
    · rw [if_pos (by simpa using h0), if_neg (by simpa using h1)]
      rw [not_or] at h1
      refine ⟨1, by decide, rfl, h1.1, h1.2, fun j hj => ?_⟩
      obtain rfl : j = 0 := by omega
      simpa using h0
  · rw [if_neg (by simpa using h0)]
    rw [not_or] at h0
    exact ⟨0, by decide, by simp, h0.1, h0.2, nofun⟩

/-- Settles O2: the pin draws from the counter that ran on, the power-on from a free value with no epoch held. -/
theorem fullReset : Obligations.FullReset := by
  refine ⟨fun s straps => ?_, fun s straps => ?_⟩
  · obtain ⟨k, hk, hdrawn, hzero, hheld, hbefore⟩ := drawEpoch_first s.control.epochCounter (some s.control.epoch)
    refine ⟨_, k, rfl, hzero, fun h => hheld (congrArg some h), hk, hdrawn, fun j hj => ?_⟩
    exact (hbefore j hj).imp_right Option.some.inj
  · obtain ⟨k, hk, hdrawn, hzero, -, hbefore⟩ := drawEpoch_first (Config.powerOnEpochCounter s.draws) none
    refine ⟨_, _, k, rfl, hzero, ?_, hdrawn, fun h => ?_⟩
    · by_contra hk2
      obtain rfl : k = 2 := by omega
      have first := (hbefore 0 (by decide)).resolve_right nofun
      have second := (hbefore 1 (by decide)).resolve_right nofun
      bv_omega
    · subst h
      simpa using (hbefore 0 (by decide)).resolve_right nofun

section
variable (straps : BitVec 16) (epoch counter : Word32) (draws : Nat) (pending : List Instr)

@[simp] theorem State.laneEntry_afterReset (i : Nat) :
    (State.afterReset straps epoch counter draws pending).laneEntry i = .drop := rowAt_replicate _ _

@[simp] theorem State.groupAt_afterReset (g : Nat) :
    (State.afterReset straps epoch counter draws pending).groupAt g = .afterReset := rowAt_replicate _ _

@[simp] theorem State.switchAt_afterReset (g : Nat) :
    (State.afterReset straps epoch counter draws pending).switchAt g = .clear := rowAt_replicate _ _

@[simp] theorem State.clipAt_afterReset (c : Nat) :
    (State.afterReset straps epoch counter draws pending).clipAt c = .blank := rowAt_replicate _ _

@[simp] theorem State.eventAt_afterReset (e : Nat) :
    (State.afterReset straps epoch counter draws pending).eventAt e = .blank := rowAt_replicate _ _

@[simp] theorem State.order_afterReset : (State.afterReset straps epoch counter draws pending).order = [] := rfl

end

@[simp] theorem ClipRecord.memberAt_blank (m : Nat) : ClipRecord.blank.memberAt m = .blank := rowAt_replicate _ _

/-- Settles O3: every table of the reset state is a table of equal rows. -/
theorem resetValues : Obligations.ResetValues := by
  have rows : ∀ {α : Type} {n : Nat} (x : α) (i : Nat), rowAt (Vector.replicate n x) i x = x := rowAt_replicate
  refine ⟨rfl, fun p => ?_, fun lane => ⟨rows _ _, rows _ _⟩, fun g => ⟨rows _ _, rows _ _⟩, fun w => rows _ _, rfl, rfl, rfl, rfl,
    rfl, rfl, rfl, rfl, rfl, rfl, fun lane => ⟨rows _ _, rows _ _⟩, rfl, fun c => ?_, rfl, rfl, fun e => rows _ _, rfl, rfl, rfl,
    rfl, rfl, rfl, rfl⟩
  · cases p <;> exact ⟨rfl, rfl, rfl, rfl, rfl, rfl, rfl, rfl, rfl⟩
  · unfold State.reset
    simp [ClipRecord.blank, ClipMember.blank, ClipRecord.memberAt, rowAt_replicate]

/-- Right after reset no clip member holds an extent, and every extent of setting 0 is free (R96, R105). -/
theorem State.reset_extentLaw : State.reset.extentLaw := by
  have clips : State.reset.clips.toList = List.replicate 64 .blank := Vector.toList_replicate
  have blank : ClipRecord.blank.allExtents = [] := by decide
  have held : State.reset.heldExtents = [] := by
    unfold State.heldExtents
    rw [clips, List.flatMap_eq_nil_iff]
    intro r hr
    rw [List.eq_of_mem_replicate hr, blank]
  have free : State.reset.store.free = List.range 768 := by simp only [State.reset, State.afterReset, CellStore.afterReset]
  have extents : clipExtents State.reset.store.setting = 768 := rfl
  unfold State.extentLaw
  rw [held, List.append_nil, extents, free]

/-- Settles O4: no table of the reset state holds anything a law speaks of. -/
theorem resetIsSafe : Obligations.ResetIsSafe := by
  have noEvent : ¬EventRecord.blank.state.held := fun h => by rcases h with h | h <;> cases h
  refine
    { clock := SiteClock.afterReset_lawful.law
      holdover := SiteClock.afterReset_lawful.held
      queues := ⟨by decide, by decide, by decide, by decide, nofun⟩
      plans := ⟨nofun, nofun, by decide, by decide, fun _ => rfl, by decide, by decide, ?_, fun h => absurd rfl h⟩
      lanes := ⟨fun i j _ h => ?_, fun i j _ h => ?_⟩
      emission := ⟨by decide, trivial, fun _ => rfl, by decide, by decide, rfl⟩
      memory := reset_dram_wf
      store := ⟨State.reset_extentLaw, ⟨fun c _ _ => ?_, fun c _ m _ => ?_, nofun⟩⟩
      splices := ⟨⟨List.nodup_nil, fun e => ?_, nofun⟩, ⟨fun e _ h => ?_, fun g _ e h => ?_, fun g _ => ?_⟩,
        ⟨fun c _ => ?_, fun c _ => ?_, fun e _ f _ h => ?_, fun e _ h => ?_⟩⟩ } <;>
    unfold State.reset at *
  · rintro (h | h)
    · exact absurd rfl h
    · cases h
  · simp [LaneEntry.output] at h
  · simp [LaneEntry.place] at h
  · simp
  · simp only [State.clipAt_afterReset, ClipRecord.memberAt_blank]
    exact ⟨le_rfl, fun _ => ⟨rfl, rfl⟩, fun h => absurd rfl h⟩
  · simp [EventRecord.blank]
  · exact absurd (by simpa using h) noEvent
  · simp [GroupRecord.afterReset] at h
  · simp [GroupRecord.afterReset]
  · simp [EventRecord.blank, ClipRecord.blank]
  · simp [EventRecord.blank, ClipRecord.blank]
  · exact absurd (by simpa using h) noEvent
  · exact absurd (by simpa using h) noEvent

/-! ### Notices as data of the Control Unit (R163) -/

/-- The CLOCK notice of a change of clock state, or none (R18). -/
theorem State.notifyClock_eq (s : State) (b : ClockState) (c : ClockCause) :
    s.notifyClock b c =
      { s with control :=
          if s.clock.state = b then s.control else s.control.withNotice s.clock .clock (s.clockNoticeData b c) } := by
  unfold State.notifyClock
  split
  · rfl
  · exact State.notify_eq _ _ _

/-! ### The rows of the Site Clock -/

/-- Settles O13, by the clock states. -/
theorem inStepCondition : Obligations.InStepCondition := by
  intro c
  unfold SiteClock.inStep
  cases c.state <;> simp [and_comm]

/-- Settles O7: FREQUENCY_LOSS by the clock states, the other three by their definitions. -/
theorem referenceInputs : Obligations.ReferenceInputs := by
  have lost : ∀ s : State, exec .frequencyLoss s =
      .next (({ s with clock := s.clock.loseFrequency } : State).notifyClock s.clock.state .frequencyLost) := fun _ => rfl
  refine ⟨fun s n => ⟨rfl, rfl, rfl, rfl⟩, fun s => ⟨fun h => ⟨_, lost s, ?_⟩, fun h => ⟨_, lost s, ?_⟩, fun h => ?_⟩⟩
  · simp only [State.notifyClock_eq, SiteClock.loseFrequency, h, reduceCtorEq, if_false]
    rfl
  · simp only [State.notifyClock_eq, SiteClock.loseFrequency, SiteClock.unlock, h, reduceCtorEq, if_false]
    rfl
  · rw [lost]
    rcases h with h | h <;> simp [State.notifyClock_eq, SiteClock.loseFrequency, h]

/-- A pulse before the verdict is filed in the passed-boundary record (R8). -/
theorem SiteClock.takePulse_early {c : SiteClock} (h : c.subsecond < 5000000) :
    c.takePulse = { c with passed := filePulse c.passed c.subsecond } := if_pos h

/-- A pulse from the verdict on is filed in the coming-boundary record (R8). -/
theorem SiteClock.takePulse_late {c : SiteClock} (h : 5000000 ≤ c.subsecond) :
    c.takePulse = { c with coming := filePulse c.coming ((c.subsecond : Int) - 10000000) } := if_neg (Nat.not_lt.2 h)

/-- Settles O8, by the record the pulse is filed in. -/
theorem pulseIsFiledAgainstItsBoundary : Obligations.PulseIsFiledAgainstItsBoundary := by
  intro s hs
  refine ⟨_, rfl, ?_, fun h => ?_, fun h => ?_⟩
  · rcases Nat.lt_or_ge s.clock.subsecond 5000000 with h | h
    · simp [SiteClock.takePulse_early h]
    · simp [SiteClock.takePulse_late h]
  · rw [SiteClock.takePulse_early h]
    refine ⟨rfl, fun hp => by rw [hp]; rfl, fun p hp hlt => ?_, fun p hp hle => ?_⟩
    · rw [hp]; exact congrArg some (if_pos (by omega))
    · rw [hp]; exact congrArg some (if_neg (by omega))
  · rw [SiteClock.takePulse_late h]
    refine ⟨rfl, fun hp => by rw [hp]; rfl, fun p hp hlt => ?_, fun p hp hle => ?_⟩
    · rw [hp]; exact congrArg some (if_pos (by omega))
    · rw [hp]; exact congrArg some (if_neg (by omega))

/-- The stale timer's edge with its PLAN notice, as a plain update (R59, R61). -/
theorem State.staleAdvance_eq (s : State) :
    s.staleAdvance = { s with
      plan := s.staleAdvance.plan
      control :=
        if s.plan.current ≠ none ∧ s.plan.staleTimer = 79999999 then
          s.control.withNotice s.clock .plan
            (({ s with plan := { s.plan with staleTimer := 80000000, stale := true } } : State).planNoticeData .stale)
        else s.control } := by
  unfold State.staleAdvance
  dsimp only
  by_cases hc : s.plan.current = none
  · simp [hc]
  · rcases Nat.lt_trichotomy s.plan.staleTimer 79999999 with h | h | h
    · have h1 : s.plan.staleTimer < 80000000 := by omega
      have h2 : s.plan.staleTimer + 1 ≠ 80000000 := by omega
      have h3 : s.plan.staleTimer ≠ 79999999 := by omega
      simp [Option.isSome_iff_ne_none, hc, staleLimit, h1, h2, h3]
    · simp [Option.isSome_iff_ne_none, hc, staleLimit, h, State.notifyPlan, State.notify_eq]
    · have h1 : ¬s.plan.staleTimer < 80000000 := by omega
      have h3 : s.plan.staleTimer ≠ 79999999 := by omega
      simp [staleLimit, h1, h3]

/-- Without a current plan, and once it has stopped, the stale timer stays (R59). -/
theorem State.staleAdvance_stays {s : State} (h : s.plan.current = none ∨ 80000000 ≤ s.plan.staleTimer) :
    s.staleAdvance.plan = s.plan := by
  rw [State.staleAdvance_result, if_neg]
  rintro ⟨hc, ht⟩
  exact h.elim (Option.isSome_iff_ne_none.1 hc) (Nat.not_le.2 ht)

/-- Before its last edge the stale timer advances by one (R59). -/
theorem State.staleAdvance_runs {s : State} (hc : s.plan.current ≠ none) (ht : s.plan.staleTimer < 79999999) :
    s.staleAdvance.plan = { s.plan with staleTimer := s.plan.staleTimer + 1 } := by
  rw [State.staleAdvance_result, if_pos ⟨Option.isSome_iff_ne_none.2 hc, Nat.lt_trans ht (by decide)⟩,
    if_neg (show ¬s.plan.staleTimer + 1 = 80000000 by omega)]

/-- At its last edge the stale timer reaches 80,000,000 and the plan-stale flag is set (R59). -/
theorem State.staleAdvance_lapses {s : State} (hc : s.plan.current ≠ none) (ht : s.plan.staleTimer = 79999999) :
    s.staleAdvance.plan = { s.plan with staleTimer := 80000000, stale := true } := by
  rw [State.staleAdvance_result, if_pos ⟨Option.isSome_iff_ne_none.2 hc, by rw [ht]; decide⟩, ht]
  rfl

/-- What a PLAN notice reports is read from the plans and the clock (R61). -/
theorem State.planNoticeData_congr {s t : State} (hplan : s.plan = t.plan) (hclock : s.clock = t.clock) (c : PlanCause) :
    s.planNoticeData c = t.planNoticeData c := by
  unfold State.planNoticeData State.stampBytes
  rw [hplan, hclock]

/-- Settles O5: the row is the stale timer's edge behind an advanced counter. -/
theorem countedEdgeInsideASecond : Obligations.CountedEdgeInsideASecond := by
  intro s hs
  have advanced : exec .countedEdge s =
      .next ({ s with clock := { s.clock with subsecond := s.clock.subsecond + 1 } } : State).staleAdvance :=
    if_pos (show s.clock.subsecond + 1 < 10000000 by omega)
  have edge := State.staleAdvance_eq { s with clock := { s.clock with subsecond := s.clock.subsecond + 1 } }
  have control := congrArg State.control edge
  refine ⟨_, advanced, by rw [edge], fun h => ?_, fun hc ht => ?_, fun hc ht => ?_⟩
  · refine ⟨State.staleAdvance_stays h, control.trans (if_neg ?_)⟩
    rintro ⟨hc, ht⟩
    exact h.elim hc (Nat.not_le.2 (ht.trans_lt (by decide)))
  · exact ⟨State.staleAdvance_runs hc ht, control.trans (if_neg fun h => absurd h.2 (Nat.ne_of_lt ht))⟩
  · have plan := State.staleAdvance_lapses
      (s := { s with clock := { s.clock with subsecond := s.clock.subsecond + 1 } }) hc ht
    refine ⟨plan, (control.trans (if_pos ⟨hc, ht⟩)).trans ?_⟩
    rw [State.planNoticeData_congr (t := State.staleAdvance _) plan.symm (by simp)]
    simp

end Sys2Proof.Machine

namespace Sys2Proof.Machine

/-! ### Verdicts (R9, R11 to R13) -/

theorem SiteClock.goodPulse.judge {c : SiteClock} (h : c.goodPulse) : judgeRecord c.passed c.window = .good := by
  obtain ⟨p, hp, hw⟩ := h
  unfold judgeRecord
  rw [hp]
  exact if_pos hw

theorem SiteClock.badPulse.judge {c : SiteClock} {e : Int} (h : c.badPulse e) : judgeRecord c.passed c.window = .bad e := by
  obtain ⟨p, hp, hw, he⟩ := h
  unfold judgeRecord
  rw [hp, ← he]
  exact if_neg (Nat.not_le.2 hw)

/-- A verdict without a step moves the clock to what it decides and queues one CLOCK notice when the state changes (R18). -/
theorem execVerdict_still {s : State} {c : SiteClock} {v : Verdict} (h : s.clock.verdictDue)
    (hv : judgeRecord s.clock.passed s.clock.window = v)
    (hc : ({ s.clock with passed := none, verdictTaken := true } : SiteClock).applyVerdict v = (c, none)) :
    exec .verdict s = .next { s with
      clock := c
      control :=
        if c.state = s.clock.state then s.control
        else s.control.withNotice c .clock (({ s with clock := c } : State).clockNoticeData s.clock.state v.cause) } := by
  have judged : s.clock.judged = (c, none) := by unfold SiteClock.judged; rw [hv, hc]
  have due := execVerdict_due h
  simp only [judged, hv] at due
  exact due.trans (congrArg _ (State.notifyClock_eq _ _ _))

/-- A verdict that steps moves the clock to what it decides and then takes the step (R10). -/
theorem execVerdict_step {s : State} {c : SiteClock} {v : Verdict} {e : Int} (h : s.clock.verdictDue)
    (hv : judgeRecord s.clock.passed s.clock.window = v)
    (hc : ({ s.clock with passed := none, verdictTaken := true } : SiteClock).applyVerdict v = (c, some e)) :
    exec .verdict s = .next (({ s with clock := c } : State).takeStep s.clock.state e) := by
  have judged : s.clock.judged = (c, some e) := by unfold SiteClock.judged; rw [hv, hc]
  have due := execVerdict_due h
  simp only [judged] at due
  exact due

/-! The rows of R11 to R13, for the verdicts without a step. -/

section
variable {c : SiteClock}

theorem SiteClock.applyVerdict_good_unlocked (h : c.state = .unlocked) : c.applyVerdict .good = (c.acquire 1, none) := by
  simp only [SiteClock.applyVerdict, h]

theorem SiteClock.applyVerdict_missing_unlocked (h : c.state = .unlocked) : c.applyVerdict .missing = (c, none) := by
  simp only [SiteClock.applyVerdict, h]

theorem SiteClock.applyVerdict_good_acquiring (h : c.state = .acquiring) :
    c.applyVerdict .good =
      (if 2 ≤ c.good ∧ c.secondValid = true ∧ c.freqPresent = true then ({ c with good := min 3 (c.good + 1) } : SiteClock).lock
        else { c with good := min 3 (c.good + 1) }, none) := by
  have full : min 3 (c.good + 1) = 3 ↔ 2 ≤ c.good := by omega
  simp only [SiteClock.applyVerdict, h, full]

theorem SiteClock.applyVerdict_missing_acquiring (h : c.state = .acquiring) :
    c.applyVerdict .missing = ({ c with good := 0 }, none) := by
  simp only [SiteClock.applyVerdict, h]

theorem SiteClock.applyVerdict_good_locked (h : c.state = .locked) : c.applyVerdict .good = ({ c with bad := 0 }, none) := by
  simp only [SiteClock.applyVerdict, h]

theorem SiteClock.applyVerdict_bad_locked (h : c.state = .locked) (hb : c.bad < 2) (e : Int) :
    c.applyVerdict (.bad e) = ({ c with bad := c.bad + 1 }, none) := by
  simp only [SiteClock.applyVerdict, h, if_neg (Nat.not_le.2 hb)]

theorem SiteClock.applyVerdict_missing_locked (h : c.state = .locked) :
    c.applyVerdict .missing =
      (if c.limit = 0 then c.unlock else { c with state := .holdover, hold := 1 }, none) := by
  simp only [SiteClock.applyVerdict, h, SiteClock.checkHold, true_and, Nat.lt_one_iff]
  rfl

theorem SiteClock.applyVerdict_good_holdover (h : c.state = .holdover) (hf : c.freqPresent = true) :
    c.applyVerdict .good = (c.lock, none) := by
  simp only [SiteClock.applyVerdict, h, if_pos hf]

/-- GOOD without the frequency, BAD before the third, and MISSING count the hold and compare it with the limit (R13). -/
theorem SiteClock.applyVerdict_holds {v : Verdict} (hs : c.state = .holdover)
    (h : (v = .good ∧ c.freqPresent = false) ∨ ((∃ e, v = .bad e) ∧ c.bad < 2) ∨ v = .missing) :
    c.applyVerdict v =
      (if c.limit < c.hold + 1 then c.unlock
        else { c with bad := if v.cause = .bad then c.bad + 1 else c.bad, hold := c.hold + 1 }, none) := by
  unfold SiteClock.applyVerdict SiteClock.checkHold SiteClock.unlock
  rcases h with ⟨rfl, hf⟩ | ⟨⟨e, rfl⟩, hb⟩ | rfl
  · simp [hs, hf, Verdict.cause]
  · simp [hs, Nat.not_le.2 hb, Verdict.cause]
  · simp [hs, Verdict.cause]

end

/-- Settles O9, by the rows of R11 for GOOD and MISSING. -/
theorem verdictInUnlockedAndAcquiring : Obligations.VerdictInUnlockedAndAcquiring := by
  intro s hdue hstate
  refine ⟨fun hgood => ?_, fun hnone hs => ?_, fun hnone hs => ?_⟩
  · rcases hstate with hs | hs
    · refine ⟨_, execVerdict_still hdue hgood.judge (SiteClock.applyVerdict_good_unlocked hs), rfl,
        fun _ => ⟨rfl, rfl, rfl, rfl, rfl⟩, fun ha => ?_, rfl⟩
      rw [hs] at ha; cases ha
    · have decided := SiteClock.applyVerdict_good_acquiring (c := { s.clock with passed := none, verdictTaken := true }) hs
      have still := execVerdict_still hdue hgood.judge decided
      by_cases hlock : 2 ≤ s.clock.good ∧ s.clock.secondValid = true ∧ s.clock.freqPresent = true
      · rw [if_pos hlock] at still
        refine ⟨_, still, rfl, fun hu => ?_, fun _ => ⟨rfl, rfl, fun _ => ⟨rfl, rfl, rfl⟩, fun h => absurd hlock h⟩, rfl⟩
        rw [hs] at hu; cases hu
      · rw [if_neg hlock] at still
        refine ⟨_, still, rfl, fun hu => ?_, fun _ => ⟨rfl, rfl, fun h => absurd h hlock, fun _ => ⟨hs, rfl, rfl⟩⟩, rfl⟩
        rw [hs] at hu; cases hu
  · have hv : judgeRecord s.clock.passed s.clock.window = .missing := by rw [hnone]; rfl
    rw [execVerdict_still hdue hv (SiteClock.applyVerdict_missing_unlocked hs)]
    simp [← hnone]
  · have hv : judgeRecord s.clock.passed s.clock.window = .missing := by rw [hnone]; rfl
    rw [execVerdict_still hdue hv (SiteClock.applyVerdict_missing_acquiring hs)]
    simp [← hnone]

/-- The Site Clock that a BAD verdict has decided to step, before the step: ACQUIRING with a good count of 0, and in a change of
state every other count 0 (R11 to R13). -/
def SiteClock.reacquired (c : SiteClock) : SiteClock :=
  if c.state = .acquiring then { c with passed := none, verdictTaken := true, good := 0 }
  else ({ c with passed := none, verdictTaken := true } : SiteClock).acquire 0

theorem SiteClock.applyVerdict_bad_steps {c : SiteClock} (e : Int) (h : c.stepsOnBad) :
    ({ c with passed := none, verdictTaken := true } : SiteClock).applyVerdict (.bad e) = (c.reacquired, some e) := by
  unfold SiteClock.applyVerdict SiteClock.reacquired
  rcases h with h | h | h
  · simp [h]
  · simp [h]
  · cases hs : c.state <;> simp [h]

theorem SiteClock.reacquired_spec (c : SiteClock) :
    c.reacquired.state = .acquiring ∧ c.reacquired.good = 0 ∧ c.reacquired.passed = none ∧ c.reacquired.verdictTaken = true ∧
      c.reacquired.second = c.second ∧ c.reacquired.secondValid = c.secondValid ∧ c.reacquired.announced = c.announced ∧
      c.reacquired.coming = c.coming ∧ c.reacquired.freqPresent = c.freqPresent ∧ c.reacquired.window = c.window ∧
      c.reacquired.limit = c.limit ∧ c.reacquired.bad = (if c.state = .acquiring then c.bad else 0) ∧
      c.reacquired.hold = (if c.state = .acquiring then c.hold else 0) ∧
      c.reacquired.mismatch = (if c.state = .acquiring then c.mismatch else 0) := by
  unfold SiteClock.reacquired
  by_cases h : c.state = .acquiring <;> simp [h, SiteClock.acquire]

/-- A BAD verdict that steps (R10 to R13). -/
theorem exec_verdict_steps {s : State} {e : Int} (hdue : s.clock.verdictDue) (hp : s.clock.badPulse e)
    (hsteps : s.clock.stepsOnBad) :
    exec .verdict s = .next (({ s with clock := s.clock.reacquired } : State).takeStep s.clock.state e) :=
  execVerdict_step hdue hp.judge (SiteClock.applyVerdict_bad_steps e hsteps)

/-- A step moves the counter alone of what a verdict has decided, or takes a boundary, in which ACQUIRING adopts what is announced
(R6, R10). -/
theorem SiteClock.stepped_acquiring {c : SiteClock} (h : c.state = .acquiring) (e : Int) :
    (c.stepped e).state = .acquiring ∧ (c.stepped e).good = c.good ∧ (c.stepped e).bad = c.bad ∧ (c.stepped e).hold = c.hold ∧
      (c.stepped e).coming = none ∧ (c.stepped e).freqPresent = c.freqPresent ∧ (c.stepped e).window = c.window ∧
      (c.stepped e).limit = c.limit ∧ (c.mismatch = 0 → (c.stepped e).mismatch = 0) := by
  unfold SiteClock.stepped
  split
  · exact ⟨h, rfl, rfl, rfl, rfl, rfl, rfl, rfl, id⟩
  · unfold SiteClock.boundary SiteClock.boundarySecond
    cases ha : c.announced <;> simp [h]

/-- The third BAD verdict in a row re-acquires, whatever its step (R12, R13). -/
theorem execVerdict_thirdBad {s : State} {e : Int} (hdue : s.clock.verdictDue) (hp : s.clock.badPulse e)
    (hbad : s.clock.bad = 2) (hs : s.clock.state ≠ .acquiring) :
    ∃ t, exec .verdict s = .next t ∧ t.clock.state = .acquiring ∧ t.clock.good = 0 ∧ t.clock.bad = 0 ∧ t.clock.hold = 0 ∧
      t.clock.mismatch = 0 := by
  refine ⟨_, exec_verdict_steps hdue hp (.inr (.inr hbad)), ?_⟩
  rw [State.takeStep_clock]
  obtain ⟨racq, rgood, -, -, -, -, -, -, -, -, -, rbad, rhold, rmis⟩ := s.clock.reacquired_spec
  obtain ⟨hstate, hgood, hb, hhold, -, -, -, -, hmis⟩ := SiteClock.stepped_acquiring racq e
  rw [if_neg hs] at rbad rhold rmis
  exact ⟨hstate, hgood.trans rgood, hb.trans rbad, hhold.trans rhold, hmis rmis⟩

/-- Settles O10, by the rows of R12. -/
theorem verdictInLocked : Obligations.VerdictInLocked := by
  intro s hdue hs
  refine ⟨fun hgood => ?_, fun e hp hb => ?_, fun e hp hb => ?_, fun hnone => ?_⟩
  · rw [execVerdict_still hdue hgood.judge (SiteClock.applyVerdict_good_locked hs)]
    simp
  · rw [execVerdict_still hdue hp.judge 
      (SiteClock.applyVerdict_bad_locked (c := { s.clock with passed := none, verdictTaken := true }) hs hb e)]
    simp
  · exact execVerdict_thirdBad hdue hp hb (by rw [hs]; decide)
  · have hv : judgeRecord s.clock.passed s.clock.window = .missing := by rw [hnone]; rfl
    have still := execVerdict_still hdue hv (SiteClock.applyVerdict_missing_locked hs)
    rw [← hnone] at still
    rcases Nat.eq_zero_or_pos s.clock.limit with hl | hl
    · simp only [hl, if_true, SiteClock.unlock, hs, reduceCtorEq, if_false] at still
      refine ⟨_, still, ?_, fun _ => ⟨rfl, rfl, rfl, rfl, rfl⟩, fun h => absurd hl (Nat.ne_of_gt h)⟩
      simp only [hl]
      rfl
    · simp only [Nat.ne_of_gt hl, if_false, hs, reduceCtorEq] at still
      exact ⟨_, still, rfl, fun h => absurd h (Nat.ne_of_gt hl), fun _ => ⟨rfl, rfl, rfl, rfl, rfl⟩⟩

/-- Settles O11, by the rows of R13. -/
theorem verdictInHoldover : Obligations.VerdictInHoldover := by
  intro s hdue hs
  refine ⟨fun hgood hf => ?_, fun e hp hb => ?_, fun cause hcause => ?_⟩
  · have still := execVerdict_still hdue hgood.judge
      (SiteClock.applyVerdict_good_holdover (c := { s.clock with passed := none, verdictTaken := true }) hs hf)
    simp only [SiteClock.lock, hs, reduceCtorEq, if_false] at still
    exact ⟨_, still, rfl⟩
  · exact execVerdict_thirdBad hdue hp hb (by rw [hs]; decide)
  · obtain ⟨v, hv, rfl, hholds⟩ : ∃ v, judgeRecord s.clock.passed s.clock.window = v ∧ v.cause = cause ∧
        ((v = .good ∧ s.clock.freqPresent = false) ∨ ((∃ e, v = .bad e) ∧ s.clock.bad < 2) ∨ v = .missing) := by
      rcases hcause with ⟨rfl, hgood, hf⟩ | ⟨rfl, ⟨e, hp⟩, hb⟩ | ⟨rfl, hnone⟩
      · exact ⟨_, hgood.judge, rfl, .inl ⟨rfl, hf⟩⟩
      · exact ⟨_, hp.judge, rfl, .inr (.inl ⟨⟨e, rfl⟩, hb⟩)⟩
      · exact ⟨_, by rw [hnone]; rfl, rfl, .inr (.inr rfl)⟩
    have still := execVerdict_still hdue hv
      (SiteClock.applyVerdict_holds (c := { s.clock with passed := none, verdictTaken := true }) hs hholds)
    refine ⟨fun hl => ?_, fun hl => ?_⟩
    · rw [if_neg (Nat.not_lt.2 hl)] at still
      simpa using still
    · rw [if_pos hl] at still
      simp only [SiteClock.unlock, hs, reduceCtorEq, if_false] at still
      exact ⟨_, still, rfl⟩

end Sys2Proof.Machine

namespace Sys2Proof.Machine

/-! ### Notices one after another (R163) -/

@[simp] theorem ControlUnit.withNotices_nil (u : ControlUnit) (c : SiteClock) : u.withNotices c [] = u := rfl

theorem ControlUnit.withNotices_one (u : ControlUnit) (c : SiteClock) (k : NoticeKind) (d : List Byte) :
    u.withNotices c [(k, d)] = u.withNotice c k d := rfl

theorem ControlUnit.withNotices_append (u : ControlUnit) (c : SiteClock) (l m : List (NoticeKind × List Byte)) :
    u.withNotices c (l ++ m) = (u.withNotices c l).withNotices c m := List.foldl_append

/-- Between two Control Units SPLICE notices alone were created, under one clock. -/
def ControlUnit.splices (u : ControlUnit) (c : SiteClock) (v : ControlUnit) : Prop :=
  ∃ l : List (NoticeKind × List Byte), (∀ x ∈ l, x.1 = .splice) ∧ v = u.withNotices c l

theorem ControlUnit.splices.refl (u : ControlUnit) (c : SiteClock) : u.splices c u := ⟨[], nofun, rfl⟩

theorem ControlUnit.splices.trans {u v w : ControlUnit} {c : SiteClock} (h : u.splices c v) (k : v.splices c w) :
    u.splices c w := by
  obtain ⟨l, hl, rfl⟩ := h
  obtain ⟨m, hm, rfl⟩ := k
  refine ⟨l ++ m, fun x hx => ?_, (ControlUnit.withNotices_append _ _ _ _).symm⟩
  exact (List.mem_append.1 hx).elim (hl x) (hm x)

theorem ControlUnit.withNotice_splices (u : ControlUnit) (c : SiteClock) (d : List Byte) :
    u.splices c (u.withNotice c .splice d) := ⟨[(.splice, d)], by simp, rfl⟩

/-- A part of a boundary that the Emitter's change does not see: it leaves the clock, the emitter's state and pending change and
the queue, and creates SPLICE notices alone. -/
structure State.splicesTo (s t : State) : Prop where
  clock : t.clock = s.clock
  state : t.emitter.state = s.emitter.state
  change : t.emitter.change = s.emitter.change
  queue : t.queue = s.queue
  notices : s.control.splices s.clock t.control

theorem State.splicesTo.refl (s : State) : s.splicesTo s := ⟨rfl, rfl, rfl, rfl, .refl _ _⟩

theorem State.splicesTo.trans {s t u : State} (h : s.splicesTo t) (k : t.splicesTo u) : s.splicesTo u :=
  ⟨k.clock.trans h.clock, k.state.trans h.state, k.change.trans h.change, k.queue.trans h.queue,
    h.notices.trans (h.clock ▸ k.notices)⟩

/-- Events taken one after another keep what taking one keeps. -/
theorem State.splicesTo.foldl {f : State → Nat → State} (h : ∀ s e, State.splicesTo s (f s e)) (l : List Nat) (s : State) :
    s.splicesTo (l.foldl f s) := by
  induction l generalizing s with
  | nil => exact .refl s
  | cons e l ih => exact (h s e).trans (ih _)

theorem State.finishEvent_splicesTo (s : State) (e : Nat) (x : EventState) (c : Option EndingCause) (r : Option FailReason) :
    s.splicesTo (s.finishEvent e x c r) :=
  ⟨by simp, by simp, by simp, by simp, by rw [State.finishEvent_notice]; exact ControlUnit.withNotice_splices _ _ _⟩

theorem State.endSplice_splicesTo (s : State) (e : Nat) (x : EventState) (c : EndingCause) : s.splicesTo (s.endSplice e x c) :=
  ⟨by simp, by simp, by simp, by simp, by rw [State.endSplice_notice]; exact ControlUnit.withNotice_splices _ _ _⟩

theorem State.armEvent_splicesTo (s : State) (e : Nat) : s.splicesTo (s.armEvent e) := by
  refine ⟨by simp, by simp, by simp, by simp, ?_⟩
  rw [State.armEvent_eq]
  dsimp only
  split
  · exact (State.finishEvent_splicesTo { s with order := s.order.filter (fun x => decide (x ≠ e)) } _ _ _ _).notices
  · exact .refl _ _

theorem State.armDue_splicesTo (s : State) : s.splicesTo s.armDue := .foldl State.armEvent_splicesTo _ _

theorem State.failMissed_splicesTo (s : State) : s.splicesTo s.failMissed := by
  refine .foldl (fun t e => ?_) _ _
  split
  · exact State.finishEvent_splicesTo _ _ _ _ _
  · exact .refl t

theorem State.armAndMiss_splicesTo (s : State) : s.splicesTo s.armAndMiss :=
  (State.armDue_splicesTo s).trans (State.failMissed_splicesTo _)

theorem State.forceEnds_splicesTo (s : State) : s.splicesTo s.forceEnds := by
  refine .foldl (fun t e => ?_) _ _
  split
  · exact State.endSplice_splicesTo _ _ _ _
  · exact .refl t

theorem State.endAllOnAir_splicesTo (s : State) (c : EndingCause) : s.splicesTo (s.endAllOnAir c) := by
  refine .foldl (fun t e => ?_) _ _
  split
  · exact State.endSplice_splicesTo _ _ _ _
  · exact .refl t

theorem State.draw_splicesTo (s : State) (b : Bool) : s.splicesTo (s.draw b) :=
  by cases b <;> exact ⟨rfl, rfl, rfl, rfl, .refl _ _⟩

/-! ### The notices of a boundary -/

/-- The EMITTER notice of step 3 of R77, or none (R91). -/
def State.changeNotice (s : State) : List (NoticeKind × List Byte) :=
  let (after, flush, cause) := resolveChange s.emitter.state s.emitter.change s.clock.inStep
  match cause with
  | none => []
  | some c =>
    [(.emitter, ({ s with emitter := { s.emitter with state := after, change := .none } } : State).emitterNoticeData
      s.emitter.state c (if flush then s.queue.length else 0))]

/-- The PLAN notice of the change of plan, or none (R58, R61). -/
def State.planNotice (s : State) : List (NoticeKind × List Byte) :=
  match s.plan.pending with
  | none => []
  | some p => if secondNoLater p.eff s.clock.second then [(.plan, s.planChange.planNoticeData .planChange)] else []

/-- Step 3 of R77 creates its EMITTER notice, then the SPLICE notices of the events it ends (R91, R153). -/
theorem State.emitterChange_notices (s : State) :
    ∃ after : List (NoticeKind × List Byte), (∀ x ∈ after, x.1 = .splice) ∧
      s.emitterChange.control = s.control.withNotices s.clock (s.changeNotice ++ after) := by
  unfold State.emitterChange State.changeNotice
  dsimp only
  generalize resolveChange s.emitter.state s.emitter.change s.clock.inStep = r
  obtain ⟨st, flush, cause⟩ := r
  have ended : ∀ (t : State) (l : List (NoticeKind × List Byte)), t.clock = s.clock → t.control = s.control.withNotices s.clock l →
      ∃ after : List (NoticeKind × List Byte), (∀ x ∈ after, x.1 = .splice) ∧
        (if flush then t.endAllOnAir st.endingCause else t).control = s.control.withNotices s.clock (l ++ after) := by
    intro t l hclock hcontrol
    cases flush with
    | false => exact ⟨[], nofun, by simpa using hcontrol⟩
    | true =>
      obtain ⟨after, hafter, h⟩ := (State.endAllOnAir_splicesTo t st.endingCause).notices
      exact ⟨after, hafter, by rw [ControlUnit.withNotices_append, ← hcontrol, ← hclock]; exact h⟩
  cases cause with
  | none => exact ended _ [] (by cases flush <;> simp) (by cases flush <;> simp)
  | some c =>
    refine ended _ _ (by cases flush <;> simp) ?_
    simp only [ControlUnit.withNotices_one, State.notifyEmitter, State.notify_eq]
    cases flush <;> simp [State.emitterNoticeData, State.stampBytes]

/-- The EMITTER notice is read from the clock, the emitter's state and pending change and the queue. -/
theorem State.splicesTo.changeNotice {s t : State} (h : s.splicesTo t) : t.changeNotice = s.changeNotice := by
  unfold State.changeNotice State.emitterNoticeData State.stampBytes
  simp only [h.clock, h.state, h.change, h.queue]

/-- Whatever the orders the free values give, the Emitter's change stands between parts that create SPLICE notices alone (R130,
R153). -/
theorem State.armingsAndEnds_around (s : State) :
    ∃ u : State, s.splicesTo u ∧ u.emitterChange.splicesTo s.armingsAndEnds := by
  have drawn := (State.draw_splicesTo s s.armingMeets).trans (State.draw_splicesTo _ (s.draw s.armingMeets).endsMeet)
  have arm := State.armAndMiss_splicesTo
  have force := State.forceEnds_splicesTo
  unfold State.armingsAndEnds
  dsimp only
  split
  · exact ⟨_, (drawn.trans (arm _)).trans (force _), .refl _⟩
  · exact ⟨_, drawn.trans (arm _), force _⟩
  · exact ⟨_, (drawn.trans (force _)).trans (arm _), .refl _⟩
  · exact ⟨_, drawn, (arm _).trans (force _)⟩
  · exact ⟨_, drawn.trans (force _), arm _⟩
  · exact ⟨_, drawn, (force _).trans (arm _)⟩

/-- The change of plan as a plain update (R58, R61). -/
theorem State.planChange_eq (s : State) :
    s.planChange = { s with plan := s.planChange.plan, control := s.control.withNotices s.clock s.planNotice } := by
  unfold State.planNotice State.planChange
  cases s.plan.pending with
  | none => rfl
  | some p =>
    by_cases h : secondNoLater p.eff s.clock.second = true
    · simp only [h, if_true, State.notifyPlan, State.notify_eq]
      rfl
    · simp [h]

/-- The notices of a boundary handed over: PLAN_CHANGE, then the EMITTER notice among SPLICE notices (R61, R91). -/
theorem State.handBoundary_notices (s : State) :
    ∃ before after : List (NoticeKind × List Byte), (∀ x ∈ before ++ after, x.1 = .splice) ∧
      s.handBoundary.control = s.control.withNotices s.clock (s.planNotice ++ before ++ s.changeNotice ++ after) := by
  obtain ⟨u, hu, harm⟩ := State.armingsAndEnds_around s.planChange.emitterSecond
  have clock : s.planChange.emitterSecond.clock = s.clock := by simp
  have notice : s.planChange.emitterSecond.changeNotice = s.changeNotice := by
    unfold State.changeNotice State.emitterNoticeData State.stampBytes
    simp
  have plan : s.planChange.emitterSecond.control = s.control.withNotices s.clock s.planNotice := by
    simpa using congrArg State.control (State.planChange_eq s)
  obtain ⟨before, hbefore, hb⟩ := hu.notices
  obtain ⟨own, hown, ho⟩ := State.emitterChange_notices u
  obtain ⟨rest, hrest, hr⟩ := harm.notices
  refine ⟨before, own ++ rest, fun x hx => ?_, ?_⟩
  · simp only [List.mem_append] at hx
    exact hx.elim (hbefore x) fun hx => hx.elim (hown x) (hrest x)
  · have uclock : u.clock = s.clock := hu.clock.trans clock
    have change : u.emitterChange.clock = s.clock := by simpa using uclock
    have sent : s.handBoundary.control = s.planChange.emitterSecond.armingsAndEnds.control := by simp [State.handBoundary]
    rw [sent, hr, ho, hb, plan, change, uclock, clock, hu.changeNotice, notice]
    simp only [ControlUnit.withNotices_append]

/-- No notice of a boundary handed over is a CLOCK notice. -/
theorem State.handBoundary_others (s : State) :
    ∃ others : List (NoticeKind × List Byte), (∀ x ∈ others, x.1 ≠ .clock) ∧
      s.handBoundary.control = s.control.withNotices s.clock others := by
  obtain ⟨before, after, hsplice, h⟩ := State.handBoundary_notices s
  have plan : ∀ x ∈ s.planNotice, x.1 = .plan := by
    unfold State.planNotice
    (repeat' split) <;> simp
  have change : ∀ x ∈ s.changeNotice, x.1 = .emitter := by
    unfold State.changeNotice
    dsimp only
    split <;> simp
  refine ⟨_, fun x hx => ?_, h⟩
  simp only [List.mem_append] at hx hsplice
  rcases hx with ((hx | hx) | hx) | hx
  · rw [plan x hx]; decide
  · rw [hsplice x (.inl hx)]; decide
  · rw [change x hx]; decide
  · rw [hsplice x (.inr hx)]; decide

/-! ### What a row that takes a boundary hands over -/

/-- The CLOCK notice of a move of the clock, or none (R18). -/
def State.stateNotice (s : State) (before : ClockState) (cause : ClockCause) : List (NoticeKind × List Byte) :=
  if s.clock.state = before then [] else [(.clock, s.clockNoticeData before cause)]

/-- The PLAN notice of the stale timer's edge, or none (R59, R61). -/
def State.staleNotice (s : State) : List (NoticeKind × List Byte) :=
  if s.plan.current ≠ none ∧ s.plan.staleTimer = 79999999 then
    [(.plan, ({ s with plan := { s.plan with staleTimer := 80000000, stale := true } } : State).planNoticeData .stale)]
  else []

/-- A move of the clock with its notice. -/
theorem State.notifyClock_notices (s : State) (b : ClockState) (c : ClockCause) :
    s.notifyClock b c = { s with control := s.control.withNotices s.clock (s.stateNotice b c) } := by
  rw [State.notifyClock_eq]
  unfold State.stateNotice
  split <;> rfl

/-- The stale timer's edge with its notice. -/
theorem State.staleAdvance_notices (s : State) :
    s.staleAdvance = { s with plan := s.staleAdvance.plan, control := s.control.withNotices s.clock s.staleNotice } := by
  conv_lhs => rw [State.staleAdvance_eq]
  unfold State.staleNotice
  split <;> rfl

/-- The CLOCK notice is read from the clock alone. -/
theorem State.stateNotice_congr {s t : State} (h : s.clock = t.clock) (b : ClockState) (c : ClockCause) :
    s.stateNotice b c = t.stateNotice b c := by
  unfold State.stateNotice State.clockNoticeData State.stampBytes
  rw [h]

/-- A step (R10): the clock with its notice, then the slots passed over and the arming, or the boundary. -/
theorem State.takeStep_eq (s : State) (b : ClockState) (e : Int) :
    s.takeStep b e =
      (let m := ({ s with clock := s.clock.stepped e } : State).notifyClock b .bad
       if ((tickOfVerdict : Int) - e).toNat < ticksPerSecond then (if e < 0 then m.passSlots else m).armDue
       else m.handBoundary) := by
  unfold State.takeStep SiteClock.stepped
  dsimp only
  split <;> rfl

/-- A boundary at a counted edge, by either row (R2). -/
theorem exec_edgeBoundary {s : State} {i : Instr} (hi : i = .secondBoundary ∨ i = .countedEdge)
    (hs : s.clock.subsecond = 9999999) : exec i s = .next s.edgeBoundary := by
  rcases hi with rfl | rfl <;> simp [exec, execSecondBoundary, execCountedEdge, hs, ticksPerSecond]

/-- What a boundary hands over: the clock moved to `c` with its notice, and at a counted edge the stale timer moved with its own
(R2, R10, R18, R59). -/
def State.handed (s : State) (c : SiteClock) : State :=
  let notices :=
    ({ s with clock := c } : State).stateNotice s.clock.state (if s.clock.subsecond = 9999999 then .timeCode else .bad) ++
      if s.clock.subsecond = 9999999 then ({ s with clock := c } : State).staleNotice else []
  { s with
    clock := c
    plan := if s.clock.subsecond = 9999999 then s.staleAdvance.plan else s.plan
    control := s.control.withNotices c notices }

/-- Every row that takes a boundary hands it over like that, with the counter at 0. -/
theorem State.takesBoundary_hands {s : State} {i : Instr} (h : s.takesBoundary i) :
    ∃ c : SiteClock, exec i s = .next (s.handed c).handBoundary ∧ c.subsecond = 0 := by
  rcases h with ⟨hs, hi⟩ | ⟨hdue, hsteps, hp, rfl⟩
  · refine ⟨s.clock.boundary, (exec_edgeBoundary hi hs).trans ?_, rfl⟩
    refine congrArg (fun u : State => Host.Outcome.next u.handBoundary) ?_
    have timer : s.clockBoundary.staleAdvance.plan = s.staleAdvance.plan := by
      simp only [State.staleAdvance_result, State.clockBoundary_frame]
    rw [State.staleAdvance_notices, timer]
    simp only [hs, if_true, State.clockBoundary, State.notifyClock_notices, State.handed, ControlUnit.withNotices_append]
    rfl
  · have last : s.clock.subsecond ≠ 9999999 := by rw [hdue.1]; decide
    refine ⟨s.clock.reacquired.stepped (-5000000), (exec_verdict_steps hdue hp hsteps).trans
      ((congrArg _ (State.takeStep_eq _ _ _)).trans ?_), rfl⟩
    refine congrArg (fun u : State => Host.Outcome.next u.handBoundary) ?_
    simp only [if_neg last, State.notifyClock_notices, State.handed, List.append_nil]

end Sys2Proof.Machine

namespace Sys2Proof.Machine

/-! ### The clock at a boundary (R2, R6, R7) -/

/-- What no boundary changes of the clock. -/
@[simp] theorem SiteClock.boundarySecond_frame (c : SiteClock) :
    c.boundarySecond.subsecond = c.subsecond ∧ c.boundarySecond.freqPresent = c.freqPresent ∧
      c.boundarySecond.announced = c.announced ∧ c.boundarySecond.passed = c.passed ∧ c.boundarySecond.coming = c.coming ∧
      c.boundarySecond.verdictTaken = c.verdictTaken ∧ c.boundarySecond.window = c.window ∧ c.boundarySecond.limit = c.limit := by
  unfold SiteClock.boundarySecond
  (repeat' split) <;> simp [SiteClock.acquire]

section
variable {c : SiteClock} {n : Word32}

theorem SiteClock.boundarySecond_unannounced (h : c.announced = none) :
    c.boundarySecond = { c with second := c.second + 1 } := by
  unfold SiteClock.boundarySecond
  split <;> simp_all

/-- In UNLOCKED and ACQUIRING the announced second is adopted (R6). -/
theorem SiteClock.boundarySecond_adopts (h : c.announced = some n) (hs : c.state = .unlocked ∨ c.state = .acquiring) :
    c.boundarySecond = { c with second := n, secondValid := true, mismatch := 0 } := by
  unfold SiteClock.boundarySecond
  rcases hs with hs | hs <;> simp [h, hs]

/-- In LOCKED and HOLDOVER the announced second is compared (R7). -/
theorem SiteClock.boundarySecond_compares (h : c.announced = some n) (hs : c.state = .locked ∨ c.state = .holdover) :
    c.boundarySecond =
      if n = c.second + 1 then { c with second := c.second + 1, mismatch := 0 }
      else if 2 ≤ c.mismatch then ({ c with second := n, secondValid := true } : SiteClock).acquire 0
      else { c with second := c.second + 1, mismatch := c.mismatch + 1 } := by
  unfold SiteClock.boundarySecond
  rcases hs with hs | hs <;> simp only [h, hs]

/-- Without an announced second, and where it is adopted, a boundary changes the second and the records alone (R2, R6). -/
theorem SiteClock.boundary_unannounced (h : c.announced = none) :
    c.boundary = { c with
      subsecond := 0, second := c.second + 1, announced := none, passed := c.coming, coming := none, verdictTaken := false } := by
  unfold SiteClock.boundary
  rw [SiteClock.boundarySecond_unannounced h]

theorem SiteClock.boundary_adopts (h : c.announced = some n) (hs : c.state = .unlocked ∨ c.state = .acquiring) :
    c.boundary = { c with
      subsecond := 0, second := n, secondValid := true, mismatch := 0, announced := none, passed := c.coming, coming := none,
      verdictTaken := false } := by
  unfold SiteClock.boundary
  rw [SiteClock.boundarySecond_adopts h hs]

end

/-- No notice of a boundary, behind the CLOCK notice it may create, is a CLOCK notice; all are under the clock it leaves. -/
theorem State.takesBoundary_control {s t : State} {i : Instr} (h : s.takesBoundary i) (ht : exec i s = .next t) :
    ∃ others : List (NoticeKind × List Byte), (∀ x ∈ others, x.1 ≠ .clock) ∧
      t.control = s.control.withNotices t.clock
        ((if t.clock.state = s.clock.state then []
          else [(.clock, t.clockNoticeData s.clock.state (if s.clock.subsecond = 9999999 then .timeCode else .bad))]) ++ others) := by
  obtain ⟨c, hexec, -⟩ := State.takesBoundary_hands h
  obtain rfl := Host.Outcome.next.inj (hexec.symm.trans ht)
  obtain ⟨others, hothers, hcontrol⟩ := State.handBoundary_others (s.handed c)
  have clock : (s.handed c).handBoundary.clock = c := (State.handBoundary_frame _).1
  have handed : (s.handed c).control = s.control.withNotices c _ := rfl
  rw [handed, show (s.handed c).clock = c from rfl, ← ControlUnit.withNotices_append] at hcontrol
  generalize (s.handed c).handBoundary = t at hcontrol clock ⊢
  subst clock
  have stale : ∀ x ∈ if s.clock.subsecond = 9999999 then ({ s with clock := t.clock } : State).staleNotice else [],
      x.1 ≠ .clock := by
    unfold State.staleNotice
    (repeat' split) <;> simp
  rw [State.stateNotice_congr (s := { s with clock := t.clock }) (t := t) rfl, List.append_assoc] at hcontrol
  exact ⟨_, fun x hx => (List.mem_append.1 hx).elim (stale x) (hothers x), hcontrol⟩

/-- Settles O6, by the announced second and the clock state. -/
theorem boundaryAdvancesTheClock : Obligations.BoundaryAdvancesTheClock := by
  intro s i hi hs
  have hexec := exec_edgeBoundary hi hs
  obtain ⟨others, hothers, hcontrol⟩ := State.takesBoundary_control (.inl ⟨hs, hi⟩) hexec
  rw [if_pos hs] at hcontrol
  refine ⟨_, hexec, ?_⟩
  rw [State.edgeBoundary_clock] at hcontrol ⊢
  unfold SiteClock.boundary at hcontrol ⊢
  dsimp only
  refine ⟨rfl, rfl, rfl, rfl, rfl, by simp, by simp, by simp, fun ha => ?_, fun n ha hst => ?_, fun n ha hst => ?_,
    others, hothers, hcontrol⟩
  · rw [SiteClock.boundarySecond_unannounced ha]
    exact ⟨rfl, rfl, rfl, rfl, rfl, rfl, rfl⟩
  · rw [SiteClock.boundarySecond_adopts ha hst]
    exact ⟨rfl, rfl, rfl, rfl, rfl, rfl, rfl⟩
  · rw [SiteClock.boundarySecond_compares ha hst]
    have early : s.clock.mismatch ≤ 1 → ¬2 ≤ s.clock.mismatch := fun hm => by omega
    refine ⟨fun h => ?_, fun h hm => ?_, fun h => ?_, fun h hm => ?_⟩
    · rw [if_pos h]; exact ⟨rfl, rfl⟩
    · rw [if_neg h, if_neg (early hm)]; exact ⟨rfl, rfl⟩
    · by_cases hn : n = s.clock.second + 1
      · rw [if_pos hn]; exact ⟨rfl, rfl, rfl, rfl, rfl⟩
      · rw [if_neg hn, if_neg (early (h.resolve_left hn))]; exact ⟨rfl, rfl, rfl, rfl, rfl⟩
    · rw [if_neg h, if_pos hm.ge]; exact ⟨rfl, rfl, rfl, rfl, rfl, rfl, rfl⟩

/-! ### Slots passed over by a forward step (R81) -/

/-- A slot begins no later than a subsecond exactly when it is no later than the last one that does, as the division gives it. -/
theorem slotStartTick_le_iff {j k sub : Nat} (hk : 1 ≤ k) :
    slotStartTick j k ≤ sub ↔ j ≤ ((sub + 1) * k - 1) / 10000000 := by
  unfold slotStartTick
  have pos : 1 ≤ (sub + 1) * k := Nat.mul_pos (Nat.succ_pos _) hk
  rw [← Nat.lt_succ_iff, Nat.div_lt_iff_lt_mul hk, Nat.le_div_iff_mul_le (by decide), Nat.le_sub_iff_add_le pos]
  exact Iff.rfl

/-- While the emitter is STOPPED a forward step keeps the slot index (R80). -/
theorem State.passSlots_stopped {s : State} (h : s.emitter.state = .stopped) : s.passSlots = s := by
  unfold State.passSlots
  simp only [h]

/-- Otherwise a forward step moves the slot index to the last slot begun or passed over (R81). -/
theorem State.passSlots_slot {s : State} {k : Nat} (h : s.emitter.state ≠ .stopped) (hk : s.emitter.kNow = some k) :
    s.passSlots.emitter.slot = max s.emitter.slot (lastSlotAt s.clock.subsecond k) := by
  unfold State.passSlots
  rw [hk]
  cases hs : s.emitter.state with
  | stopped => exact absurd hs h
  | muted => rfl
  | running => rfl

/-- A forward step changes the slot index alone of the Emitter. -/
theorem State.passSlots_emitter_eq (s : State) : s.passSlots.emitter = { s.emitter with slot := s.passSlots.emitter.slot } := by
  unfold State.passSlots
  split <;> rfl

/-- The slots of a second that a slot index, moved to the last slot begun, has behind it are those that have begun (R81). -/
theorem lastSlotAt_spec {i k sub : Nat} (hk : 1 ≤ k) (hi : i < k) :
    max i (lastSlotAt sub k) < k ∧ i ≤ max i (lastSlotAt sub k) ∧
      ∀ j, i < j → j < k → (j ≤ max i (lastSlotAt sub k) ↔ slotStartTick j k ≤ sub) := by
  unfold lastSlotAt
  refine ⟨by omega, by omega, fun j hij hjk => ?_⟩
  rw [slotStartTick_le_iff hk]
  omega

/-! ### Steps (R10) -/

/-- A step short of a boundary moves the counter alone (R10). -/
theorem SiteClock.stepped_moves (c : SiteClock) {e : Int} (h : -5000000 < e) :
    c.stepped e = { c with coming := none, subsecond := (5000000 - e).toNat } :=
  if_pos (show ((5000000 : Int) - e).toNat < 10000000 by omega)

/-- A step to 10,000,000 is a boundary at once (R10). -/
theorem SiteClock.stepped_boundary (c : SiteClock) :
    c.stepped (-5000000) = ({ c with coming := none } : SiteClock).boundary := rfl

/-- The clock that the step leaves, as the verdict that calls for it decided (R6, R10 to R13). -/
theorem SiteClock.reacquired_stepped (c : SiteClock) {e : Int} (he : -5000000 ≤ e) (hhi : e < 5000000) :
    (c.reacquired.stepped e).passed = none ∧
      (c.reacquired.stepped e).secondValid = (c.secondValid || (decide (e = -5000000) && c.announced.isSome)) ∧
      (-5000000 < e → ((c.reacquired.stepped e).subsecond : Int) = 5000000 - e ∧ (c.reacquired.stepped e).verdictTaken = true ∧
        (c.reacquired.stepped e).second = c.second ∧ (c.reacquired.stepped e).announced = c.announced ∧
        (c.reacquired.stepped e).mismatch = if c.state = .acquiring then c.mismatch else 0) ∧
      (e = -5000000 → (c.reacquired.stepped e).subsecond = 0 ∧ (c.reacquired.stepped e).verdictTaken = false ∧
        (c.reacquired.stepped e).announced = none ∧ (c.reacquired.stepped e).second = c.announced.getD (c.second + 1)) := by
  obtain ⟨hstate, -, hpassed, htaken, hsecond, hvalid, hann, -, -, -, -, -, -, hmis⟩ := c.reacquired_spec
  rcases eq_or_lt_of_le he with rfl | he
  · rw [SiteClock.stepped_boundary]
    cases ha : c.announced with
    | none =>
      rw [SiteClock.boundary_unannounced (c := { c.reacquired with coming := none }) (hann.trans ha)]
      simp [hvalid, hsecond]
    | some n =>
      rw [SiteClock.boundary_adopts (c := { c.reacquired with coming := none }) (hann.trans ha) (.inr hstate)]
      simp
  · rw [SiteClock.stepped_moves _ he]
    have short : e ≠ -5000000 := by omega
    exact ⟨hpassed, by simp [hvalid, short], fun _ => ⟨Int.toNat_of_nonneg (by omega), htaken, hsecond, hann, hmis⟩,
      fun h => absurd h short⟩

/-- A step short of a boundary: the clock with its notice, the slots passed over by a forward step, and the arming (R10, R81,
R128). -/
theorem State.takeStep_moves (s : State) (b : ClockState) {e : Int} (he : -5000000 < e) (hhi : e < 5000000) :
    ∃ u : State, s.takeStep b e = u.armDue ∧ u.clock = s.clock.stepped e ∧ u.queue = s.queue ∧ u.plan = s.plan ∧
      u.control = s.control.withNotices (s.clock.stepped e)
        (({ s with clock := s.clock.stepped e } : State).stateNotice b .bad) ∧
      u.emitter = { s.emitter with slot := u.emitter.slot } ∧
      (0 < e ∨ s.emitter.state = .stopped → u.emitter.slot = s.emitter.slot) ∧
      (∀ k, e < 0 → s.emitter.state ≠ .stopped → s.emitter.kNow = some k →
        u.emitter.slot = max s.emitter.slot (lastSlotAt (s.clock.stepped e).subsecond k)) := by
  have short : ((tickOfVerdict : Int) - e).toNat < ticksPerSecond := by
    show ((5000000 : Int) - e).toNat < 10000000
    omega
  rw [State.takeStep_eq]
  simp only [if_pos short, State.notifyClock_notices]
  by_cases hforward : e < 0
  · rw [if_pos hforward]
    refine ⟨_, rfl, by simp, by simp, by simp, by simp, State.passSlots_emitter_eq _, fun h => ?_, fun k _ hs hk => ?_⟩
    · rw [State.passSlots_stopped (s := { s with clock := s.clock.stepped e, control := _ }) (h.resolve_left (by omega))]
    · exact State.passSlots_slot hs hk
  · rw [if_neg hforward]
    exact ⟨_, rfl, rfl, rfl, rfl, rfl, rfl, fun _ => rfl, fun k h => absurd h hforward⟩

/-- A step to 10,000,000: the clock with its notice, and the boundary (R10). -/
theorem State.takeStep_boundary (s : State) (b : ClockState) :
    ∃ u : State, s.takeStep b (-5000000) = u.handBoundary ∧ u.clock = s.clock.stepped (-5000000) ∧
      u.control = s.control.withNotices (s.clock.stepped (-5000000))
        (({ s with clock := s.clock.stepped (-5000000) } : State).stateNotice b .bad) := by
  refine ⟨_, State.takeStep_eq s b (-5000000), by simp, ?_⟩
  rw [State.notifyClock_notices]

/-- Settles O12: what the verdict decides, then the move of the counter with the slots passed over and the arming, or the boundary. -/
theorem verdictStepsTheCount : Obligations.VerdictStepsTheCount := by
  intro s e hdue hp hsteps hlo hhi
  refine ⟨_, exec_verdict_steps hdue hp hsteps, ?_⟩
  obtain ⟨racq, rgood, -, -, -, -, -, -, rfreq, rwindow, rlimit, rbad, rhold, -⟩ := s.clock.reacquired_spec
  obtain ⟨hstate, hgood, hbad, hhold, hcoming, hfreq, hwindow, hlimit, -⟩ := SiteClock.stepped_acquiring racq e
  obtain ⟨hpassed, hvalid, hmoved, hbounded⟩ := s.clock.reacquired_stepped hlo hhi
  have clock := State.takeStep_clock ({ s with clock := s.clock.reacquired } : State) s.clock.state e
  generalize ht : ({ s with clock := s.clock.reacquired } : State).takeStep s.clock.state e = t at clock ⊢
  dsimp only at clock
  rw [← clock] at hstate hgood hbad hhold hcoming hfreq hwindow hlimit hpassed hvalid hmoved hbounded
  have notice : ({ s with clock := t.clock } : State).stateNotice s.clock.state .bad =
      if s.clock.state = .acquiring then [] else [(.clock, t.clockNoticeData s.clock.state .bad)] := by
    rw [State.stateNotice_congr (s := { s with clock := t.clock }) (t := t) rfl]
    unfold State.stateNotice
    rw [hstate]
    simp only [eq_comm]
  refine ⟨hstate, hgood.trans rgood, hcoming, hpassed, hvalid, hfreq.trans rfreq, hwindow.trans rwindow, hlimit.trans rlimit,
    fun h => ⟨hbad.trans (rbad.trans (if_neg h)), hhold.trans (rhold.trans (if_neg h))⟩,
    fun h => ⟨hbad.trans (rbad.trans (if_pos h)), hhold.trans (rhold.trans (if_pos h))⟩, ?_⟩
  rcases eq_or_lt_of_le hlo with rfl | he
  · obtain ⟨u, hu, uclock, ucontrol⟩ :=
      State.takeStep_boundary { s with clock := s.clock.reacquired } s.clock.state
    rw [ht] at hu
    dsimp only at ucontrol uclock
    rw [← clock] at uclock ucontrol
    obtain ⟨-, -, hchange, -, hsecond, hslot, -, -⟩ := State.handBoundary_result u
    obtain ⟨others, hothers, hcontrol⟩ := State.handBoundary_others u
    rw [← hu, uclock] at hsecond hcontrol
    rw [← hu] at hchange hslot
    obtain ⟨hsub, htaken, hann, hsec⟩ := hbounded rfl
    refine ⟨fun h => absurd h (by omega), fun _ => ⟨hsub, htaken, hann, hsec, hsecond, hslot, hchange⟩, others,
      fun x hx => ⟨hothers x hx, fun h => absurd h (by omega)⟩, ?_⟩
    rw [hcontrol, ucontrol, notice, ← ControlUnit.withNotices_append]
  · obtain ⟨u, hu, uclock, uqueue, uplan, ucontrol, uemitter, ukept, upassed⟩ :=
      State.takeStep_moves { s with clock := s.clock.reacquired } s.clock.state he hhi
    rw [ht] at hu
    dsimp only at ucontrol uclock upassed
    rw [← clock] at uclock ucontrol upassed
    obtain ⟨others, hothers, hcontrol⟩ := (State.armDue_splicesTo u).notices
    rw [← hu, uclock] at hcontrol
    have due : t.dueForArming = [] := hu ▸ State.armDue_done u
    have queue : t.queue = u.queue := by rw [hu]; simp
    have plan : t.plan = u.plan := by rw [hu]; simp
    have emitter : t.emitter = u.emitter := by rw [hu]; simp
    rw [← queue] at uqueue
    rw [← plan] at uplan
    rw [← emitter] at uemitter ukept upassed
    obtain ⟨hsub, htaken, hsecond, hann, hmis⟩ := hmoved he
    refine ⟨fun _ => ⟨hsub, htaken, hsecond, hann, hmis, uqueue, uplan, due, uemitter, ukept, fun k hneg hs hkNow hk hik => ?_⟩,
      fun h => absurd h (by omega), others, fun x hx => ⟨by rw [hothers x hx]; decide, fun _ => hothers x hx⟩, ?_⟩
    · rw [upassed k hneg hs hkNow]
      exact lastSlotAt_spec hk hik
    · rw [hcontrol, ucontrol, notice, ← ControlUnit.withNotices_append]

end Sys2Proof.Machine

namespace Sys2Proof.Machine

/-! ### The second boundary in the Timing Plan unit and the Emitter (R58, R59, R77, R82) -/

/-- The EMITTER notice of step 3 of R77, read off a state that keeps the clock and holds what the step resolved to (R91). -/
theorem State.changeNotice_eq {s t : State} (hclock : t.clock = s.clock)
    (hstate : t.emitter.state = (resolveChange s.emitter.state s.emitter.change s.clock.inStep).1)
    (hchange : t.emitter.change = .none) :
    s.changeNotice =
      if s.emitter.state = .stopped ∧ s.emitter.change = .start then [(.emitter, t.emitterNoticeData .stopped .start 0)]
      else if s.emitter.state ≠ .stopped ∧ s.emitter.change = .stop then
        [(.emitter, t.emitterNoticeData s.emitter.state .stop s.queue.length)]
      else if s.emitter.state = .muted ∧ t.emitter.state = .running then
        [(.emitter, t.emitterNoticeData .muted .stepGained 0)]
      else if s.emitter.state = .running ∧ t.emitter.state = .muted then
        [(.emitter, t.emitterNoticeData .running .stepLost s.queue.length)]
      else [] := by
  have data : ∀ (b : EmitterState) (c : EmitterCause) (n : Nat),
      ({ s with emitter := { s.emitter with state := t.emitter.state, change := .none } } : State).emitterNoticeData b c n =
        t.emitterNoticeData b c n := by
    intro b c n
    unfold State.emitterNoticeData State.stampBytes
    rw [hclock, hchange]
  unfold State.changeNotice
  dsimp only
  rw [← hstate]
  simp only [data]
  rw [hstate]
  unfold resolveChange
  cases s.emitter.state <;> cases s.emitter.change <;> cases s.clock.inStep <;> rfl

/-- The notices that a boundary creates, read off the state it leaves: CLOCK, STALE and PLAN_CHANGE, then the EMITTER notice among
the SPLICE notices (R18, R61, R91). -/
theorem State.handed_notices (s : State) (c : SiteClock) :
    ∃ before after : List (NoticeKind × List Byte), (∀ x ∈ before ++ after, x.1 = .splice) ∧
      (s.handed c).handBoundary.control = s.control.withNotices c
        ((({ s with clock := c } : State).stateNotice s.clock.state (if s.clock.subsecond = 9999999 then .timeCode else .bad) ++
          if s.clock.subsecond = 9999999 then ({ s with clock := c } : State).staleNotice else []) ++
          (s.handed c).planNotice ++ before ++ (s.handed c).changeNotice ++ after) := by
  obtain ⟨before, after, hsplice, h⟩ := State.handBoundary_notices (s.handed c)
  refine ⟨before, after, hsplice, h.trans ?_⟩
  simp only [ControlUnit.withNotices_append, State.handed]

/-- At a counted edge the boundary hands over the plans after the stale timer's edge (R59). -/
theorem State.handed_plan_edge {s : State} (h : s.clock.subsecond = 9999999) (c : SiteClock) :
    (s.handed c).plan = s.staleAdvance.plan := if_pos h

/-- In a step the boundary hands over the plans as they are (R10). -/
theorem State.handed_plan_step {s : State} (h : s.clock.subsecond ≠ 9999999) (c : SiteClock) : (s.handed c).plan = s.plan :=
  if_neg h

/-- What a boundary hands over of the plans is as it was, but for the stale timer and its flag. -/
theorem State.handed_plans (s : State) (c : SiteClock) :
    (s.handed c).plan.current = s.plan.current ∧ (s.handed c).plan.pending = s.plan.pending ∧
      (s.handed c).plan.trim = s.plan.trim := by
  by_cases h : s.clock.subsecond = 9999999
  · rw [State.handed_plan_edge h]; exact State.staleAdvance_plan s
  · rw [State.handed_plan_step h]; exact ⟨rfl, rfl, rfl⟩

/-- Without a pending plan there is no PLAN notice of a change of plan. -/
theorem State.planNotice_none {s : State} (h : s.plan.pending = none) : s.planNotice = [] := by
  unfold State.planNotice
  rw [h]

/-- The PLAN notice of the change of plan, read off a state that keeps the clock and holds the plans after the change (R61). -/
theorem State.planNotice_some {s t : State} {p : Plan} (h : s.plan.pending = some p) (hclock : t.clock = s.clock)
    (hplan : t.plan = s.planChange.plan) :
    s.planNotice = if secondNoLater p.eff t.clock.second then [(.plan, t.planNoticeData .planChange)] else [] := by
  unfold State.planNotice
  rw [h, State.planNoticeData_congr (t := t) hplan.symm (by simp [hclock]), hclock]

/-- The plans after a change of plan, by the pending plan (R58). -/
theorem State.planChange_plans (s : State) :
    (s.plan.pending = none → s.planChange.plan = s.plan) ∧
      (∀ p, s.plan.pending = some p → secondNoLater p.eff s.clock.second = true →
        s.planChange.plan = { s.plan with current := some p, pending := none }) ∧
      (∀ p, s.plan.pending = some p → secondNoLater p.eff s.clock.second = false → s.planChange.plan = s.plan) := by
  rw [State.planChange_result]
  refine ⟨fun h => by rw [h], fun p h hp => by rw [h]; exact if_pos hp, fun p h hp => by rw [h]; exact if_neg (by simp [hp])⟩

/-- The PLAN notice of the stale timer's edge at a boundary, read off a state of the same clock (R59, R61). -/
theorem State.handed_staleNotice (s t : State) :
    (if s.clock.subsecond = 9999999 then ({ s with clock := t.clock } : State).staleNotice else []) =
      if s.clock.subsecond = 9999999 ∧ s.plan.current ≠ none ∧ s.plan.staleTimer = 79999999 then
        [(.plan, ({ t with plan := { s.plan with staleTimer := 80000000, stale := true } } : State).planNoticeData .stale)]
      else [] := by
  unfold State.staleNotice
  by_cases h : s.clock.subsecond = 9999999
  · simp only [h, true_and]
    rfl
  · rw [if_neg h, if_neg fun hn => h hn.1]

/-- Settles O14: each item as the boundary handed over leaves it. -/
theorem boundaryChangesPlanAndEmitter : Obligations.BoundaryChangesPlanAndEmitter := by
  intro s i hi
  obtain ⟨c, hexec, -⟩ := State.takesBoundary_hands hi
  refine ⟨_, hexec, ?_⟩
  obtain ⟨hplan, hstate, hchange, hqueue, hsecond, hslot, hnow, hprev⟩ := State.handBoundary_result (s.handed c)
  obtain ⟨htimer, hstale, htrim⟩ := State.handBoundary_plan (s.handed c)
  have hlate : (s.handed c).handBoundary.emitter.lateAllowance = s.emitter.lateAllowance := State.handBoundary_emitter _
  obtain ⟨before, after, hsplice, hcontrol⟩ := State.handed_notices s c
  have clock : (s.handed c).handBoundary.clock = c := (State.handBoundary_frame _).1
  obtain ⟨current, pending, trim⟩ := State.handed_plans s c
  obtain ⟨hnone, htaken, hkept⟩ := State.planChange_plans (s.handed c)
  rw [State.changeNotice_eq clock hstate hchange] at hcontrol
  have someNotice := fun p h => State.planNotice_some (p := p) h clock hplan
  rw [← hplan] at hnow hprev hnone htaken hkept
  generalize (s.handed c).handBoundary = t at *
  subst clock
  have state : t.emitter.state = (resolveChange s.emitter.state s.emitter.change t.clock.inStep).1 := hstate
  have queue : t.queue = if (resolveChange s.emitter.state s.emitter.change t.clock.inStep).2.1 then [] else s.queue := hqueue
  rw [pending] at hnone htaken hkept someNotice
  have timer : (s.handed t.clock).plan = s.plan → t.plan.staleTimer = s.plan.staleTimer ∧ t.plan.stale = s.plan.stale :=
    fun h => ⟨htimer.trans (by rw [h]), hstale.trans (by rw [h])⟩
  refine ⟨fun h => ?_, fun h hc ht => ?_, fun h hc ht => ?_, htrim.trans trim, fun h => ?_, fun p h hp => ?_, fun p h hp => ?_,
    hsecond, hslot, hchange, hlate, hnow, fun k hk => ?_, fun hk => ?_, fun hs hc => ?_, fun hs hc => ?_, fun hs hc => ?_,
    fun hs hc => ?_, fun hs hc => ?_, before, after, hsplice, hcontrol.trans ?_⟩
  · by_cases hedge : s.clock.subsecond = 9999999
    · refine timer ((State.handed_plan_edge hedge _).trans (State.staleAdvance_stays ?_))
      exact h.resolve_left (fun hn => hn hedge)
    · exact timer (State.handed_plan_step hedge _)
  · have runs := (State.handed_plan_edge h t.clock).trans (State.staleAdvance_runs hc ht)
    exact ⟨htimer.trans (by rw [runs]), hstale.trans (by rw [runs])⟩
  · have lapses := (State.handed_plan_edge h t.clock).trans (State.staleAdvance_lapses hc ht)
    exact ⟨htimer.trans (by rw [lapses]), hstale.trans (by rw [lapses])⟩
  · rw [hnone h]; exact ⟨current, pending.trans h⟩
  · rw [htaken p h hp]; exact ⟨rfl, rfl⟩
  · rw [hkept p h hp]; exact ⟨current, pending.trans h⟩
  · exact hprev.trans (by rw [show (s.handed t.clock).emitter.kNow = some k from hk])
  · exact hprev.trans ((by rw [show (s.handed t.clock).emitter.kNow = none from hk] : _ = _).trans hnow.symm)
  · rw [state, queue, hs]
    cases hch : s.emitter.change with
    | start => exact absurd hch hc
    | none => exact ⟨rfl, rfl⟩
    | stop => exact ⟨rfl, rfl⟩
  · rw [state, queue, hs, hc]; exact ⟨rfl, rfl⟩
  · rw [state, queue, hc]
    cases hst : s.emitter.state with
    | stopped => exact absurd hst hs
    | muted => exact ⟨rfl, rfl⟩
    | running => exact ⟨rfl, rfl⟩
  · rw [state, queue, hs, hc]
    cases t.clock.inStep <;> exact ⟨rfl, rfl⟩
  · rw [state, queue, hs, hc]
    cases t.clock.inStep <;> exact ⟨rfl, rfl⟩
  · have state : ({ s with clock := t.clock } : State).stateNotice s.clock.state
        (if s.clock.subsecond = 9999999 then .timeCode else .bad) = t.stateNotice s.clock.state _ := State.stateNotice_congr rfl _ _
    rw [state, State.handed_staleNotice]
    cases hp : s.plan.pending with
    | none => rw [State.planNotice_none (pending.trans hp)]; rfl
    | some p => rw [someNotice p hp]; rfl

/-! ### The marker (R82, R83, R170) -/

/-- In STOPPED no marker goes out (R77, R82). -/
theorem State.sendMarker_stopped {s : State} (h : s.emitter.state = .stopped) : s.sendMarker = s := if_pos h

/-- The set of SPLICED groups is read from the group table alone (R46). -/
theorem State.splicedSet_congr {s t : State} (h : s.groups = t.groups) : s.splicedSet = t.splicedSet := by
  unfold State.splicedSet State.groupAt
  rw [h]

/-- Out of STOPPED the marker goes out on the timing lane with its count, which advances, and the items as they stand (R82, R83). -/
theorem State.sendMarker_sends {s : State} (h : s.emitter.state ≠ .stopped) :
    s.sendMarker.emitter.line = some
        { header :=
            { lane := 1022, kind := .timing, start := false, safe := false, disc := false, zero := false,
              count := s.outCount 1022, tag := s.emitter.second.setWidth 2, sub := 0 }
          payload := s.markerPayload } ∧
      ∀ lane, s.sendMarker.outCount lane = if lane = 1022 then s.outCount 1022 + 1 else s.outCount lane := by
  unfold State.sendMarker
  rw [if_neg h]
  refine ⟨rfl, fun lane => (rowAt_setRow _ _ _ _ _).trans ?_⟩
  by_cases hl : lane = 1022
  · subst hl; rfl
  · rw [if_neg fun hx => hl hx.1.symm, if_neg hl]; rfl

/-- The marker's payload, read off the state that has sent it (R83, R170). -/
theorem State.markerPayload_eq (s : State) :
    s.markerPayload =
      padPayload (bytes4 s.sendMarker.clock.second.toNat ++
        bytes1 (128 * s.sendMarker.clock.secondValid.toNat + 64 * s.sendMarker.clock.inStep.toNat +
          32 * s.sendMarker.plan.stale.toNat + 8 * s.sendMarker.clock.state.code + 2 * s.sendMarker.emitter.state.code) ++
        bytes2 (s.sendMarker.emitter.kNow.getD 0) ++
        bytes2 ((s.sendMarker.plan.slotsFor (s.sendMarker.emitter.second + 1)).getD 0) ++
        bytes4 (((s.sendMarker.plan.inForce s.sendMarker.emitter.second).map Plan.hold).getD 0) ++
        bytesTrim s.sendMarker.plan.trim ++ bytes2 s.sendMarker.splicedSet ++ bytes4 s.sendMarker.control.epoch.toNat ++
        bytes2 s.sendMarker.control.site.toNat) := by
  rw [State.splicedSet_congr (s := s.sendMarker) (t := s) (by simp)]
  simp only [State.sendMarker_frame, State.sendMarker_emitter, State.markerPayload, Nat.mul_comm]

/-- Settles O15: everything of a boundary before its marker leaves the line and the output counts as they were. -/
theorem boundarySendsTheMarker : Obligations.BoundarySendsTheMarker := by
  intro s i hi
  obtain ⟨c, hexec, -⟩ := State.takesBoundary_hands hi
  refine ⟨_, hexec, ?_⟩
  unfold State.handBoundary
  have line : (s.handed c).planChange.emitterSecond.armingsAndEnds.emitter.line = s.emitter.line := by
    simp [State.handed]
  have counts : ∀ lane, (s.handed c).planChange.emitterSecond.armingsAndEnds.outCount lane = s.outCount lane := by
    simp [State.outCount, State.handed]
  generalize (s.handed c).planChange.emitterSecond.armingsAndEnds = u at line counts ⊢
  have state : u.sendMarker.emitter.state = u.emitter.state := (State.sendMarker_emitter u).1
  refine ⟨fun h => ?_, fun h => ?_⟩
  · rw [State.sendMarker_stopped (state.symm.trans h)]
    exact ⟨line, counts⟩
  · obtain ⟨hline, hcounts⟩ := State.sendMarker_sends fun hs => h (state.trans hs)
    rw [counts] at hline
    have second : u.sendMarker.emitter.second = u.emitter.second := by simp
    refine ⟨hline.trans ?_, (hcounts 1022).trans ?_, fun lane hl => (hcounts lane).trans ?_⟩
    · rw [State.markerPayload_eq, second]
    · rw [if_pos rfl, counts]
    · rw [if_neg hl, counts]

end Sys2Proof.Machine

namespace Sys2Proof.Machine

/-! ### Arming and the command queue (R128, R158) -/

/-- The part with another command queue. -/
def State.withCommands (s : State) (q : List Command) : State := { s with control := { s.control with queue := q } }

theorem State.withCommands_frame (s : State) (q : List Command) :
    (s.withCommands q).dueForArming = s.dueForArming ∧ ∀ e, (s.withCommands q).armFailure e = s.armFailure e :=
  ⟨rfl, fun _ => rfl⟩

/-- A notice and another command queue do not meet (R163). -/
theorem ControlUnit.withNotice_queue (u : ControlUnit) (q : List Command) (c : SiteClock) (k : NoticeKind) (d : List Byte) :
    ({ u with queue := q } : ControlUnit).withNotice c k d = { u.withNotice c k d with queue := q } := by
  unfold ControlUnit.withNotice
  split <;> rfl

theorem State.notifySplice_withCommands (s : State) (q : List Command) (e : Nat) (b : EventState) :
    (s.withCommands q).notifySplice e b = (s.notifySplice e b).withCommands q := by
  unfold State.notifySplice
  rw [State.notify_eq, State.notify_eq]
  exact congrArg (fun v => { s with control := v }) (ControlUnit.withNotice_queue s.control q s.clock .splice _)

theorem State.clearActive_withCommands (s : State) (q : List Command) (g e : Nat) :
    (s.withCommands q).clearActive g e = (s.clearActive g e).withCommands q := by
  unfold State.clearActive
  rw [show (s.withCommands q).groupAt g = s.groupAt g from rfl]
  split <;> rfl

theorem State.returnClip_withCommands (s : State) (q : List Command) (c : Nat) :
    (s.withCommands q).returnClip c = (s.returnClip c).withCommands q := by
  unfold State.returnClip
  rw [show (s.withCommands q).clipAt c = s.clipAt c from rfl]
  dsimp only
  split <;> rfl

theorem State.finishEvent_withCommands (s : State) (q : List Command) (e : Nat) (x : EventState) (c : Option EndingCause)
    (r : Option FailReason) : (s.withCommands q).finishEvent e x c r = (s.finishEvent e x c r).withCommands q := by
  unfold State.finishEvent
  dsimp only
  rw [← State.notifySplice_withCommands]
  refine congrArg (State.notifySplice · e (s.eventAt e).state) ?_
  have cleared := fun t : State => State.clearActive_withCommands t q (s.eventAt e).given.group e
  by_cases h : (s.eventAt e).state = .armed
  · refine (if_pos h).trans (Eq.trans ?_ (congrArg (State.withCommands · q) (if_pos h).symm))
    rw [← State.returnClip_withCommands, ← cleared]
    rfl
  · refine (if_neg h).trans (Eq.trans ?_ (congrArg (State.withCommands · q) (if_neg h).symm))
    rw [← cleared]
    rfl

theorem State.armEvent_withCommands (s : State) (q : List Command) (e : Nat) :
    (s.withCommands q).armEvent e = (s.armEvent e).withCommands q := by
  rw [State.armEvent_eq, State.armEvent_eq, (State.withCommands_frame s q).2]
  dsimp only
  cases s.armFailure e with
  | none => rfl
  | some reason => exact State.finishEvent_withCommands { s with order := s.order.filter (fun x => decide (x ≠ e)) } q _ _ _ _

/-- The arming neither reads the command queue nor changes it (R128). -/
theorem State.armDue_withCommands (s : State) (q : List Command) : (s.withCommands q).armDue = s.armDue.withCommands q := by
  unfold State.armDue
  rw [(State.withCommands_frame s q).1]
  generalize s.dueForArming = l
  induction l generalizing s with
  | nil => rfl
  | cons e l ih => rw [List.foldl_cons, List.foldl_cons, State.armEvent_withCommands, ih]

/-- Which commands are foreign depends on the site address alone (R158). -/
theorem ControlUnit.foreign_congr {u v : ControlUnit} (h : u.site = v.site) : u.foreign = v.foreign := by
  funext c
  unfold ControlUnit.foreign
  rw [h]

/-- The arming and the discard of foreign commands do not meet (R128, R158). -/
theorem State.armDue_discardForeign (s : State) : s.armDue.discardForeign = s.discardForeign.armDue := by
  have discarded : ∀ t : State, t.discardForeign = t.withCommands (t.control.queue.dropWhile t.control.foreign) := fun _ => rfl
  obtain ⟨hqueue, hsite, -⟩ := State.armDue_control s
  rw [discarded, discarded, State.armDue_withCommands, hqueue, ControlUnit.foreign_congr hsite]

/-- A CLOCK notice and the discard of foreign commands do not meet (R158, R163). -/
theorem State.notifyClock_discardForeign (s : State) (b : ClockState) (c : ClockCause) :
    (s.notifyClock b c).discardForeign = s.discardForeign.notifyClock b c := by
  rw [State.notifyClock_eq, State.notifyClock_eq]
  unfold State.discardForeign
  dsimp only
  by_cases h : s.clock.state = b
  · simp only [if_pos h]
  · obtain ⟨-, hqueue, hsite, -⟩ := ControlUnit.withNotice_notices s.control s.clock .clock (s.clockNoticeData b c)
    simp only [if_neg h, ControlUnit.withNotice_queue, hqueue, ControlUnit.foreign_congr hsite]
    rfl

/-! ### SITE SET and CLOCK SET (R17, R62) -/

theorem clampTrim_eq (t : Int) : clampTrim t = if t < -500000 then -500000 else if 500000 < t then 500000 else t := by
  unfold clampTrim
  split
  · omega
  · split <;> omega

theorem min_255_eq (n : Nat) : min 255 n = if 255 < n then 255 else n := by split <;> omega

theorem min_3600_eq (n : Nat) : min 3600 n = if 3600 < n then 3600 else n := by split <;> omega

theorem clampWindow_eq (n : Nat) : max 1 (min 100 n) = if n < 1 then 1 else if 100 < n then 100 else n := by
  split
  · omega
  · split <;> omega

/-- SITE SET of a granted command, by whether the clamped trim is the one in force (R62, R128). -/
theorem exec_siteSet {s : State} {c : Command} (h : s.grants .siteSet c) :
    let u := ({ s with
      plan := { s.plan with trim := clampTrim c.trimArg }
      emitter := { s.emitter with lateAllowance := min 255 c.lateArg } } : State).answered c .ok
        (bytesTrim (clampTrim c.trimArg) ++ bytes2 (min 255 c.lateArg))
    (clampTrim c.trimArg = s.plan.trim → exec .siteSet s = .next u) ∧
      (clampTrim c.trimArg ≠ s.plan.trim → exec .siteSet s = .next u.armDue) := by
  have granted : exec .siteSet s = .next (siteSetBody c s.popCommand).discardForeign := State.takeCommand_granted siteSetBody h
  obtain ⟨hsame, hother⟩ := siteSetBody_result c s.popCommand
  refine ⟨fun ht => granted.trans (congrArg _ ?_), fun ht => granted.trans (congrArg _ ?_)⟩
  · rw [hsame ht]
    exact State.reply_answered { s with
      plan := { s.plan with trim := clampTrim c.trimArg }
      emitter := { s.emitter with lateAllowance := min 255 c.lateArg } } c .ok _
  · rw [hother ht, State.armDue_discardForeign]
    exact congrArg State.armDue (State.reply_answered { s with
      plan := { s.plan with trim := clampTrim c.trimArg }
      emitter := { s.emitter with lateAllowance := min 255 c.lateArg } } c .ok _)

/-- CLOCK SET of a granted command: both settings with the reply, and behind it a HOLDOVER past the new limit is unlocked, with its
notice (R13, R17). -/
theorem exec_clockSet {s : State} {c : Command} (h : s.grants .clockSet c) :
    let u := ({ s with clock := { s.clock with window := max 1 (min 100 c.windowArg), limit := min 3600 c.limitArg } } : State).answered
      c .ok (bytes1 (max 1 (min 100 c.windowArg)) ++ bytes2 (min 3600 c.limitArg))
    exec .clockSet s = .next (({ u with clock := u.clock.checkHold } : State).notifyClock s.clock.state .setting) := by
  have granted : exec .clockSet s = .next (clockSetBody c s.popCommand).discardForeign := State.takeCommand_granted clockSetBody h
  refine granted.trans (congrArg _ ?_)
  unfold clockSetBody
  dsimp only
  rw [State.notifyClock_discardForeign]
  rfl

/-- The CLOCK notice of a HOLDOVER that a setting unlocks, byte by byte (R18). -/
theorem State.clockNoticeData_unlocked (s : State) :
    ({ s with clock := s.clock.unlock } : State).clockNoticeData .holdover .setting =
      [3, 0, 5] ++ bytes4 s.clock.second.toNat ++ bytesFlag s.clock.secondValid ++ bytes4 s.clock.subsecond ++
        bytesFlag s.clock.freqPresent ++ [0, 0, 0, 0, 0] := by
  simp [State.clockNoticeData, State.stampBytes, SiteClock.unlock, bytes1, bytes2, ClockState.code, ClockCause.code]

/-- Settles O46: the clamps of the settings, then the arming a changed trim causes, and the comparison with the new limit. -/
theorem settingsAreClamped : Obligations.SettingsAreClamped := by
  refine ⟨fun s c h => ?_, fun s c h => ?_⟩
  · obtain ⟨hsame, hother⟩ := exec_siteSet h
    rw [clampTrim_eq, min_255_eq] at hsame hother
    intro trim late u
    refine ⟨hsame, fun ht => ?_⟩
    obtain ⟨⟨notices, hmonitor⟩, hqueue, -⟩ := State.armDue_notices u
    have clock : u.armDue.clock = u.clock := by simp
    have queue : u.armDue.queue = u.queue := by simp
    refine ⟨u.armDue, notices, hother ht, rfl, by simp, by simp, clock, queue, hmonitor, hqueue, State.armDue_done u, fun hdue => ?_⟩
    unfold State.armDue
    rw [hdue]
    rfl
  · have set := exec_clockSet h
    rw [clampWindow_eq, min_3600_eq] at set
    intro window limit u
    refine ⟨fun hheld => set.trans (congrArg _ ?_), fun hs hl => set.trans (congrArg _ ?_)⟩
    · have kept : u.clock.checkHold = u.clock := if_neg fun hn => hheld.elim (fun hx => hx hn.1) (Nat.not_le.2 hn.2)
      have state : u.clock.state = s.clock.state := rfl
      rw [State.notifyClock_eq]
      dsimp only
      rw [show _ = u.clock from kept, if_pos state]
    · have unlocked : u.clock.checkHold = u.clock.unlock := if_pos ⟨hs, hl⟩
      have changed : ¬u.clock.unlock.state = s.clock.state := by rw [hs]; nofun
      have data : ({ u with clock := u.clock.unlock } : State).clockNoticeData s.clock.state .setting =
          [3, 0, 5] ++ bytes4 s.clock.second.toNat ++ bytesFlag s.clock.secondValid ++ bytes4 s.clock.subsecond ++
            bytesFlag s.clock.freqPresent ++ [0, 0, 0, 0, 0] := by
        rw [hs]
        exact State.clockNoticeData_unlocked u
      rw [State.notifyClock_eq]
      dsimp only
      rw [show _ = u.clock.unlock from unlocked, if_neg changed, data]
      rfl

end Sys2Proof.Machine

namespace Sys2Proof.Machine

/-! ### Ends of splices, several at one boundary (R148, R153) -/

/-- What of the splice law the ends of splices rest on: no IN event is in the pending order, and no two share a group (R45, R125). -/
structure State.OnAirApart (s : State) : Prop where
  off : ∀ e ∈ s.order, (s.eventAt e).state ≠ .onAir
  apart : ∀ e < 32, ∀ f < 32, (s.eventAt e).state = .onAir → (s.eventAt f).state = .onAir →
    (s.eventAt e).given.group = (s.eventAt f).given.group → e = f

theorem State.spliceLaw.onAirApart {s : State} (h : s.spliceLaw) : s.OnAirApart := by
  refine ⟨fun e he hair => ?_, fun e he f hf hse hsf hg => ?_⟩
  · rw [((h.order.exact e).1 he).2] at hair
    cases hair
  · have active := (h.groups.held e he (.inr hse)).2
    rw [hg, (h.groups.held f hf (.inr hsf)).2] at active
    exact (Option.some.inj active).symm

theorem State.OnAirApart.congr {s t : State} (h : s.OnAirApart) (hevents : t.events = s.events) (horder : t.order = s.order) :
    t.OnAirApart := by
  obtain ⟨off, apart⟩ := h
  unfold State.eventAt at off apart
  rw [← hevents] at off apart
  rw [← horder] at off
  exact ⟨off, apart⟩

/-- The record of an event that has ended DONE, with the cells its splice left unplayed added to its count (R132, R152). -/
def State.endedRecord (s : State) (k : Nat) (x : EndingCause) (n : Nat) : EventRecord :=
  { s.eventAt k with
    state := .done, cause := some x, reason := none, truncated := n, finish := some ⟨s.clock.second, s.emitter.slot⟩ }

/-- What times are read from, and what a record that an event leaves behind is stamped with. -/
structure State.SameTime (s t : State) : Prop where
  clock : t.clock = s.clock
  plan : t.plan = s.plan
  slot : t.emitter.slot = s.emitter.slot

theorem State.SameTime.refl (s : State) : s.SameTime s := ⟨rfl, rfl, rfl⟩

theorem State.SameTime.trans {s t u : State} (h : s.SameTime t) (h' : t.SameTime u) : s.SameTime u :=
  ⟨h'.clock.trans h.clock, h'.plan.trans h.plan, h'.slot.trans h.slot⟩

theorem State.SameTime.markerTime {s t : State} (h : s.SameTime t) : t.markerTime = s.markerTime := by
  unfold State.markerTime; rw [h.clock, h.plan]

theorem State.SameTime.nominalNow {s t : State} (h : s.SameTime t) : t.nominalNow = s.nominalNow := by
  unfold State.nominalNow State.siteTime; rw [h.clock, h.plan]

theorem State.SameTime.endedRecord {s t : State} (h : s.SameTime t) {k : Nat} (hk : t.eventAt k = s.eventAt k)
    (x : EndingCause) (n : Nat) : t.endedRecord k x n = s.endedRecord k x n := by
  unfold State.endedRecord; rw [hk, h.clock, h.slot]

/-- What the ends of the IN events that meet `P` do to the schedule: those events are DONE, and everything else of it stays. -/
structure State.EndedBy (s : State) (P : Nat → Prop) (cause : Nat → EndingCause) (t : State) : Prop where
  time : s.SameTime t
  order : t.order = s.order
  ended : ∀ k < 32, P k → ∃ n, t.eventAt k = s.endedRecord k (cause k) n
  kept : ∀ k, ¬P k → t.eventAt k = s.eventAt k
  switch : ∀ k < 32, (s.eventAt k).state = .onAir → ¬P k →
    t.switchAt (s.eventAt k).given.group = s.switchAt (s.eventAt k).given.group

/-- One more IN event ends: its group is no other IN event's, and it is not in the pending order. -/
theorem State.EndedBy.endSplice {s t : State} {P Q : Nat → Prop} {cause : Nat → EndingCause} {e : Nat} (hs : s.OnAirApart)
    (h : s.EndedBy P cause t) (he : e < 32) (hair : (s.eventAt e).state = .onAir) (hnot : ¬P e)
    (hQ : ∀ k, Q k ↔ P k ∨ k = e) : s.EndedBy Q cause (t.endSplice e .done (cause e)) := by
  have same := h.kept e hnot
  refine ⟨⟨by simp [h.time.clock], by simp [h.time.plan], by simp [h.time.slot]⟩, ?_, fun k hk hq => ?_, fun k hq => ?_, fun k hk hka hq => ?_⟩
  · rw [State.endSplice_order, h.order, List.filter_eq_self]
    intro f hf
    exact decide_eq_true fun hfe => hs.off f hf (hfe ▸ hair)
  · rw [State.endSplice_eventAt]
    by_cases hke : e = k
    · subst hke
      rw [if_pos ⟨rfl, hk⟩]
      refine ⟨(t.truncatedRecord e).truncated, ?_⟩
      simp only [State.truncatedRecord, State.endedRecord, same, h.time.clock, h.time.slot]
    · rw [if_neg fun hx => hke hx.1]
      exact h.ended k hk (((hQ k).1 hq).resolve_right fun hx => hke hx.symm)
  · rw [hQ, not_or] at hq
    rw [State.endSplice_eventAt, if_neg fun hx => hq.2 hx.1.symm]
    exact h.kept k hq.1
  · rw [hQ, not_or] at hq
    rw [State.endSplice_switchAt, if_neg, h.switch k hk hka hq.1]
    rintro ⟨hg, -⟩
    rw [same] at hg
    exact hq.2 (hs.apart e he k hk hair hka hg).symm

/-- Ends taken one after another, each by a test that reads the event, the switch state of its group, the clock and the plans
alone. -/
theorem State.OnAirApart.endFold {s : State} (hs : s.OnAirApart) (test : State → Nat → Prop) [∀ t e, Decidable (test t e)]
    (cause : State → Nat → EndingCause) (hair : ∀ e, test s e → (s.eventAt e).state = .onAir)
    (reads : ∀ t e, s.SameTime t → t.eventAt e = s.eventAt e →
      ((s.eventAt e).state = .onAir → t.switchAt (s.eventAt e).given.group = s.switchAt (s.eventAt e).given.group) →
      (test t e ↔ test s e) ∧ cause t e = cause s e)
    (l : List Nat) (hl : l.Nodup) (hlt : ∀ e ∈ l, e < 32) :
    s.EndedBy (fun k => k ∈ l ∧ test s k) (cause s)
      (l.foldl (fun t e => if test t e then t.endSplice e .done (cause t e) else t) s) := by
  induction l using List.reverseRecOn with
  | nil => exact ⟨.refl s, rfl, fun _ _ h => absurd h.1 List.not_mem_nil, fun _ _ => rfl, fun _ _ _ _ => rfl⟩
  | append_singleton l e ih =>
    have hne : e ∉ l := fun h => (List.nodup_append.1 hl).2.2 e h e (List.mem_singleton_self e) rfl
    have he : e < 32 := hlt e (by simp)
    have before := ih (List.nodup_append.1 hl).1 fun k hk => hlt k (List.mem_append_left _ hk)
    have hnot : ¬(e ∈ l ∧ test s e) := fun h => hne h.1
    rw [List.foldl_append]
    generalize l.foldl _ s = t at before ⊢
    obtain ⟨htest, hcause⟩ := reads t e before.time (before.kept e hnot) fun ha => before.switch e he ha hnot
    rw [List.foldl_cons, List.foldl_nil, hcause]
    by_cases hte : test s e
    · rw [if_pos (htest.2 hte)]
      refine before.endSplice hs he (hair e hte) hnot fun k => ?_
      simp only [List.mem_append, List.mem_singleton]
      constructor
      · rintro ⟨hk | hk, hx⟩
        · exact .inl ⟨hk, hx⟩
        · exact .inr hk
      · rintro (⟨hk, hx⟩ | rfl)
        · exact ⟨.inl hk, hx⟩
        · exact ⟨.inr rfl, hte⟩
    · rw [if_neg fun h => hte (htest.1 h)]
      have same : (fun k => k ∈ l ++ [e] ∧ test s k) = fun k => k ∈ l ∧ test s k := by
        funext k
        simp only [List.mem_append, List.mem_singleton, eq_iff_iff]
        exact ⟨fun h => ⟨h.1.resolve_right fun hk => hte (hk ▸ h.2), h.2⟩, fun h => ⟨.inl h.1, h.2⟩⟩
      rw [same]
      exact before

/-- Ends over all event numbers are ends of the events that meet the test. -/
theorem State.EndedBy.all {s t : State} {P : Nat → Prop} {cause : Nat → EndingCause}
    (hP : ∀ k, P k → k < 32) (h : s.EndedBy (fun k => k ∈ eventNumbers ∧ P k) cause t) : s.EndedBy P cause t := by
  have same : (fun k => k ∈ eventNumbers ∧ P k) = P := by
    funext k
    simp only [eventNumbers, List.mem_range, eq_iff_iff]
    exact ⟨fun hk => hk.2, fun hk => ⟨hP k hk, hk⟩⟩
  rwa [same] at h

/-- An event number beyond the table names no event. -/
theorem State.eventAt_beyond (s : State) {k : Nat} (h : 32 ≤ k) : s.eventAt k = .blank := rowAt_of_le _ _ _ h

theorem State.onAir_lt {s : State} {k : Nat} (h : (s.eventAt k).state = .onAir) : k < 32 := by
  by_contra hk
  rw [State.eventAt_beyond s (Nat.le_of_not_lt hk)] at h
  cases h

theorem State.pastForcedEnd_onAir {s : State} {k : Nat} (h : s.pastForcedEnd k = true) : (s.eventAt k).state = .onAir := by
  unfold State.pastForcedEnd at h
  simp only [Bool.and_eq_true, decide_eq_true_eq] at h
  exact h.1

/-- Whether an IN event is past its forced end is read from its record, the switch state of its group and the marker time. -/
theorem State.pastForcedEnd_congr {s t : State} {k : Nat} (time : s.SameTime t) (hevent : t.eventAt k = s.eventAt k)
    (hswitch : (s.eventAt k).state = .onAir → t.switchAt (s.eventAt k).given.group = s.switchAt (s.eventAt k).given.group) :
    t.pastForcedEnd k = s.pastForcedEnd k := by
  unfold State.pastForcedEnd
  dsimp only
  rw [hevent, time.markerTime]
  by_cases ha : (s.eventAt k).state = .onAir
  · rw [hswitch ha]
  · simp [ha]

/-- The forced ends of a boundary (R148). -/
theorem State.OnAirApart.forceEnds {s : State} (hs : s.OnAirApart) :
    s.EndedBy (fun k => s.pastForcedEnd k = true) (fun k => (s.eventAt k).ownCause) s.forceEnds :=
  .all (fun _ hk => State.onAir_lt (State.pastForcedEnd_onAir hk))
    (hs.endFold (fun t e => t.pastForcedEnd e = true) (fun t e => (t.eventAt e).ownCause) (fun _ => State.pastForcedEnd_onAir)
      (fun _ _ time hevent hswitch => ⟨by rw [State.pastForcedEnd_congr time hevent hswitch], by rw [hevent]⟩)
      eventNumbers List.nodup_range fun _ he => List.mem_range.1 he)

/-- The end of every IN event (R153). -/
theorem State.OnAirApart.endAllOnAir {s : State} (hs : s.OnAirApart) (x : EndingCause) :
    s.EndedBy (fun k => (s.eventAt k).state = .onAir) (fun _ => x) (s.endAllOnAir x) := by
  refine .all (fun k hk => State.onAir_lt hk) ?_
  exact hs.endFold (fun t e => (t.eventAt e).state = .onAir) (fun _ _ => x) (fun e h => h)
    (fun t e _ hevent _ => ⟨by rw [hevent], rfl⟩) eventNumbers List.nodup_range (fun e he => List.mem_range.1 he)

/-- The Emitter's change ends every IN event where it leaves RUNNING or MUTED by a flush, and no event otherwise (R77, R153). -/
theorem State.OnAirApart.emitterChange {s : State} (hs : s.OnAirApart) :
    s.EndedBy (fun k => s.changeEnds = true ∧ (s.eventAt k).state = .onAir)
      (fun _ => (resolveChange s.emitter.state s.emitter.change s.clock.inStep).1.endingCause) s.emitterChange := by
  unfold State.emitterChange State.changeEnds
  dsimp only
  generalize resolveChange s.emitter.state s.emitter.change s.clock.inStep = r
  obtain ⟨st, flush, cause⟩ := r
  have after : ∀ t : State, s.SameTime t → t.order = s.order → t.events = s.events → t.switch = s.switch →
      s.EndedBy (fun k => flush = true ∧ (s.eventAt k).state = .onAir) (fun _ => st.endingCause)
        (if flush then t.endAllOnAir st.endingCause else t) := by
    intro t time horder hevents hswitch
    have event : ∀ k, t.eventAt k = s.eventAt k := fun k => by unfold State.eventAt; rw [hevents]
    have switch : ∀ g, t.switchAt g = s.switchAt g := fun g => by unfold State.switchAt; rw [hswitch]
    have record : ∀ k x n, t.endedRecord k x n = s.endedRecord k x n := fun k x n => time.endedRecord (event k) x n
    cases flush with
    | false =>
      rw [if_neg Bool.false_ne_true]
      exact ⟨time, horder, fun _ _ h => absurd h.1 Bool.false_ne_true, fun k _ => event k, fun _ _ _ _ => switch _⟩
    | true =>
      obtain ⟨etime, eorder, ended, kept, eswitch⟩ := (hs.congr hevents horder).endAllOnAir st.endingCause
      simp only [event, record, switch] at ended kept eswitch
      rw [if_pos rfl]
      exact ⟨time.trans etime, eorder.trans horder, fun k hk h => ended k hk h.2, fun k h => kept k fun ha => h ⟨rfl, ha⟩,
        fun k hk ha h => eswitch k hk ha fun _ => h ⟨rfl, ha⟩⟩
  refine after _ ⟨?_, ?_, ?_⟩ ?_ ?_ ?_ <;> cases flush <;> cases cause <;> simp

end Sys2Proof.Machine

namespace Sys2Proof.Machine

/-! ### Arming and missed splices, event by event (R128, R129, R131) -/

/-- The record of an event that has failed (R129, R131, R132). -/
def State.failedRecord (s : State) (k : Nat) (why : FailReason) : EventRecord :=
  { s.eventAt k with state := .failed, cause := none, reason := some why, finish := some ⟨s.clock.second, s.emitter.slot⟩ }

/-- The out-time of an event is no later than the marker time (R131). -/
def State.missed (s : State) (k : Nat) : Prop := (s.eventAt k).given.outTime.noLater s.markerTime = true

theorem State.SameTime.failedRecord {s t : State} (h : s.SameTime t) {k : Nat} (hk : t.eventAt k = s.eventAt k)
    (why : FailReason) : t.failedRecord k why = s.failedRecord k why := by
  unfold State.failedRecord; rw [hk, h.clock, h.slot]

/-- Of steps that each change the record of one event alone, an event meets its own only, in a state that differs from the first
in other events' records. -/
theorem foldl_eventAt {f : State → Nat → State} (time : ∀ (t : State) e, t.SameTime (f t e))
    (others : ∀ (t : State) e k, k ≠ e → (f t e).eventAt k = t.eventAt k) {l : List Nat} (hl : l.Nodup) (s : State) (k : Nat) :
    (k ∉ l → (l.foldl f s).eventAt k = s.eventAt k) ∧
    (k ∈ l → ∃ t, s.SameTime t ∧ t.eventAt k = s.eventAt k ∧ (l.foldl f s).eventAt k = (f t k).eventAt k) := by
  induction l generalizing s with
  | nil => exact ⟨fun _ => rfl, fun h => absurd h List.not_mem_nil⟩
  | cons e l ih =>
    obtain ⟨hel, hl⟩ := List.nodup_cons.1 hl
    obtain ⟨out, met⟩ := ih hl (f s e)
    rw [List.foldl_cons]
    refine ⟨fun hk => ?_, fun hk => ?_⟩
    · rw [out fun h => hk (List.mem_cons_of_mem e h), others s e k (List.ne_of_not_mem_cons hk)]
    · by_cases hke : k = e
      · subst hke
        exact ⟨s, .refl s, rfl, out hel⟩
      · obtain ⟨t, htime, hevent, hlast⟩ := met (List.mem_of_ne_of_mem hke hk)
        exact ⟨t, (time s e).trans htime, hevent.trans (others s e k hke), hlast⟩

theorem State.armEvent_sameTime (s : State) (e : Nat) : s.SameTime (s.armEvent e) := ⟨by simp, by simp, by simp⟩

theorem State.armDue_sameTime (s : State) : s.SameTime s.armDue := ⟨by simp, by simp, by simp⟩

theorem State.failMissed_sameTime (s : State) : s.SameTime s.failMissed := ⟨by simp, by simp, by simp⟩

/-- The arming of the events due takes up those alone, and each becomes ARMED or FAILED (R128, R129). -/
theorem State.armDue_eventAt {s : State} (once : s.order.Nodup) (k : Nat) :
    (k ∉ s.dueForArming → s.armDue.eventAt k = s.eventAt k) ∧
    (k ∈ s.dueForArming → k < 32 → s.armDue.eventAt k = { s.eventAt k with state := .armed } ∨
      ∃ why, s.armDue.eventAt k = s.failedRecord k why) := by
  obtain ⟨out, met⟩ := foldl_eventAt State.armEvent_sameTime
    (fun t e k hk => by rw [State.armEvent_eventAt, if_neg fun h => hk h.1.symm])
    (once.sublist (List.takeWhile_sublist _) : s.dueForArming.Nodup) s k
  refine ⟨out, fun hk hlt => ?_⟩
  obtain ⟨t, time, event, last⟩ := met hk
  unfold State.armDue
  rw [last, State.armEvent_eventAt, if_pos ⟨rfl, hlt⟩]
  cases t.armFailure k with
  | none => exact .inl (by rw [event])
  | some why => exact .inr ⟨why, time.failedRecord event why⟩

/-- The comparison of R131 fails the ARMED events past their out-time, and those alone. -/
theorem State.failMissed_eventAt (s : State) {k : Nat} (hk : k < 32) :
    ((s.eventAt k).state = .armed ∧ s.missed k → s.failMissed.eventAt k = s.failedRecord k .missed) ∧
    (¬((s.eventAt k).state = .armed ∧ s.missed k) → s.failMissed.eventAt k = s.eventAt k) := by
  obtain ⟨t, time, event, last⟩ := (foldl_eventAt
    (f := fun t e => if (t.eventAt e).state = .armed ∧ (t.eventAt e).given.outTime.noLater t.markerTime then
      t.finishEvent e .failed none (some .missed) else t)
    (fun t e => by split <;> exact ⟨by simp, by simp, by simp⟩)
    (fun t e k hk => by
      split
      · rw [State.finishEvent_eventAt, if_neg fun h => hk h.1.symm]
      · rfl)
    List.nodup_range s k).2 (List.mem_range.2 hk)
  have test : (t.eventAt k).state = .armed ∧ (t.eventAt k).given.outTime.noLater t.markerTime = true ↔
      (s.eventAt k).state = .armed ∧ s.missed k := by
    unfold State.missed; rw [event, time.markerTime]
  unfold State.failMissed
  rw [last]
  refine ⟨fun h => ?_, fun h => ?_⟩
  · rw [if_pos (test.2 h), State.finishEvent_eventAt, if_pos ⟨rfl, hk⟩]
    exact time.failedRecord event .missed
  · rw [if_neg fun x => h (test.1 x), event]

/-- The comparison of R131 leaves a pending order that holds no ARMED event as it was. -/
theorem State.failMissed_order {s : State} (h : ∀ e ∈ s.order, (s.eventAt e).state ≠ .armed) : s.failMissed.order = s.order := by
  unfold State.failMissed
  generalize eventNumbers = l
  induction l generalizing s with
  | nil => rfl
  | cons e l ih =>
    rw [List.foldl_cons]
    by_cases hx : (s.eventAt e).state = .armed ∧ (s.eventAt e).given.outTime.noLater s.markerTime = true
    · rw [if_pos hx]
      have order : (s.finishEvent e .failed none (some .missed)).order = s.order := by
        rw [State.finishEvent_order, List.filter_eq_self]
        exact fun f hf => decide_eq_true fun hfe => h f hf (hfe ▸ hx.1)
      rw [ih, order]
      intro f hf
      rw [order] at hf
      rw [State.finishEvent_eventAt, if_neg fun hef : e = f ∧ f < 32 => h f hf (hef.1 ▸ hx.1)]
      exact h f hf
    · rw [if_neg hx]
      exact ih h

/-- What the arming of a boundary may make of an event: one that is due is ARMED with its out-time still to come, or FAILED; of the
others an ARMED one past its out-time is FAILED, reason MISSED (R128, R129, R131). -/
inductive State.TakenUp (s : State) (k : Nat) : EventRecord → Prop where
  | fails (why : FailReason) : k ∈ s.dueForArming → s.TakenUp k (s.failedRecord k why)
  | arms : k ∈ s.dueForArming → ¬s.missed k → s.TakenUp k { s.eventAt k with state := .armed }
  | misses : k ∉ s.dueForArming → (s.eventAt k).state = .armed → s.missed k → s.TakenUp k (s.failedRecord k .missed)
  | waits : k ∉ s.dueForArming → ¬((s.eventAt k).state = .armed ∧ s.missed k) → s.TakenUp k (s.eventAt k)

/-- The arming of a boundary, event by event. -/
theorem State.armAndMiss_eventAt {s : State} (once : s.order.Nodup) {k : Nat} (hk : k < 32) :
    s.TakenUp k (s.armAndMiss.eventAt k) := by
  obtain ⟨out, met⟩ := State.armDue_eventAt once k
  obtain ⟨hit, miss⟩ := State.failMissed_eventAt s.armDue hk
  have time := State.armDue_sameTime s
  have given : (s.armDue.eventAt k).given = (s.eventAt k).given := (State.armAll_keeps _ s).2.1 k
  have late : s.armDue.missed k ↔ s.missed k := by
    unfold State.missed; rw [given, time.markerTime]
  unfold State.armAndMiss
  by_cases due : k ∈ s.dueForArming
  · rcases met due hk with armed | ⟨why, failed⟩
    · by_cases hm : s.missed k
      · rw [hit ⟨by rw [armed], late.2 hm⟩]
        have record : s.armDue.failedRecord k .missed = s.failedRecord k .missed := by
          unfold State.failedRecord; rw [armed, time.clock, time.slot]
        rw [record]
        exact .fails _ due
      · rw [miss fun h => hm (late.1 h.2), armed]
        exact .arms due hm
    · rw [miss fun h => absurd h.1 (by rw [failed]; exact EventState.noConfusion), failed]
      exact .fails why due
  · have same := out due
    by_cases hm : (s.eventAt k).state = .armed ∧ s.missed k
    · rw [hit ⟨same ▸ hm.1, late.2 hm.2⟩, time.failedRecord same]
      exact .misses due hm.1 hm.2
    · rw [miss fun h => hm ⟨same ▸ h.1, late.1 h.2⟩, same]
      exact .waits due hm

/-- The events due leave the pending order, and no other (R128, R129). -/
theorem State.armAndMiss_order {s : State} (once : s.order.Nodup) (pending : ∀ e ∈ s.order, (s.eventAt e).state = .pending) :
    s.armAndMiss.order = s.order.filter (fun k => decide (k ∉ s.dueForArming)) := by
  have order : s.armDue.order = s.order.filter (fun k => decide (k ∉ s.dueForArming)) := (State.armAll_keeps _ s).1
  unfold State.armAndMiss
  rw [State.failMissed_order, order]
  intro e he
  rw [order, List.mem_filter, decide_eq_true_iff] at he
  rw [(State.armDue_eventAt once e).1 he.2, pending e he.1]
  exact EventState.noConfusion

end Sys2Proof.Machine

namespace Sys2Proof.Machine

/-! ### The schedule at a boundary (R128 to R131, R148, R153) -/

/-- The forced end calls for the end of an IN event, with this cause (R147, R148). -/
def State.forcedCalls (s : State) (k : Nat) (x : EndingCause) : Prop :=
  s.pastForcedEnd k = true ∧ x = (s.eventAt k).ownCause

/-- The Emitter's change calls for the end of the IN events, with this cause (R77, R153). -/
def State.changeCalls (s : State) (_ : Nat) (x : EndingCause) : Prop :=
  s.changeEnds = true ∧ x = (resolveChange s.emitter.state s.emitter.change s.clock.inStep).1.endingCause

/-- What an IN event comes to: it stays as it was, where nothing calls for its end, or it is DONE with a cause that was called
for. -/
inductive State.OnAirTo (s : State) (calls : Nat → EndingCause → Prop) (t : State) (k : Nat) : Prop where
  | stays : (∀ x, ¬calls k x) → t.eventAt k = s.eventAt k →
      t.switchAt (s.eventAt k).given.group = s.switchAt (s.eventAt k).given.group → s.OnAirTo calls t k
  | ends (x : EndingCause) (n : Nat) : calls k x → t.eventAt k = s.endedRecord k x n → s.OnAirTo calls t k

/-- What stands of the schedule at a boundary: whether the events due have been taken up for arming yet, and what has called for
the end of an IN event up to now. The two concern different events, so their order makes no difference here (R130). -/
structure State.AtBoundary (s : State) (armed : Bool) (calls : Nat → EndingCause → Prop) (t : State) : Prop where
  time : s.SameTime t
  order : t.order = if armed then s.order.filter (fun k => decide (k ∉ s.dueForArming)) else s.order
  onAir : ∀ k < 32, (s.eventAt k).state = .onAir → s.OnAirTo calls t k
  others : ∀ k < 32, (s.eventAt k).state ≠ .onAir → if armed then s.TakenUp k (t.eventAt k) else t.eventAt k = s.eventAt k

/-- A boundary begins with the schedule as it was. -/
theorem State.AtBoundary.start {s t : State} (time : s.SameTime t) (horder : t.order = s.order) (hevents : t.events = s.events)
    (hswitch : t.switch = s.switch) : s.AtBoundary false ⊥ t := by
  have event : ∀ k, t.eventAt k = s.eventAt k := fun k => by unfold State.eventAt; rw [hevents]
  have switch : ∀ g, t.switchAt g = s.switchAt g := fun g => by unfold State.switchAt; rw [hswitch]
  exact ⟨time, horder, fun k _ _ => .stays (fun _ => id) (event k) (switch _), fun k _ _ => event k⟩

/-- What leaves the schedule alone leaves what stands of it. -/
theorem State.AtBoundary.congr {s t u : State} {armed : Bool} {calls : Nat → EndingCause → Prop} (h : s.AtBoundary armed calls t)
    (time : t.SameTime u) (horder : u.order = t.order) (hevents : u.events = t.events) (hswitch : u.switch = t.switch) :
    s.AtBoundary armed calls u := by
  have event : ∀ k, u.eventAt k = t.eventAt k := fun k => by unfold State.eventAt; rw [hevents]
  have switch : ∀ g, u.switchAt g = t.switchAt g := fun g => by unfold State.switchAt; rw [hswitch]
  refine ⟨h.time.trans time, horder.trans h.order, fun k hk ha => ?_, fun k hk hk' => (event k).symm ▸ h.others k hk hk'⟩
  cases h.onAir k hk ha with
  | stays hno hevent hsw => exact .stays hno ((event k).trans hevent) ((switch _).trans hsw)
  | ends x n hcall hevent => exact .ends x n hcall ((event k).trans hevent)

/-- An event taken up for arming is not IN. -/
theorem State.TakenUp.not_onAir {s : State} {k : Nat} {r : EventRecord} (h : s.TakenUp k r) (hk : (s.eventAt k).state ≠ .onAir) :
    r.state ≠ .onAir := by
  cases h with
  | fails | arms | misses => exact EventState.noConfusion
  | waits => exact hk

/-- An event that is IN was so before the boundary, and nothing has called for its end. -/
theorem State.AtBoundary.still {s t : State} {armed : Bool} {calls : Nat → EndingCause → Prop} (h : s.AtBoundary armed calls t)
    {k : Nat} (hk : (t.eventAt k).state = .onAir) :
    (s.eventAt k).state = .onAir ∧ (∀ x, ¬calls k x) ∧ t.eventAt k = s.eventAt k ∧
      t.switchAt (s.eventAt k).given.group = s.switchAt (s.eventAt k).given.group := by
  have hlt := State.onAir_lt hk
  by_cases ha : (s.eventAt k).state = .onAir
  · cases h.onAir k hlt ha with
    | stays hno hevent hswitch => exact ⟨ha, hno, hevent, hswitch⟩
    | ends x n _ hevent => rw [hevent] at hk; cases hk
  · have other := h.others k hlt ha
    cases armed with
    | true => exact absurd hk (State.TakenUp.not_onAir other ha)
    | false => exact absurd (other ▸ hk) ha

theorem State.AtBoundary.onAirApart {s t : State} {armed : Bool} {calls : Nat → EndingCause → Prop}
    (h : s.AtBoundary armed calls t) (hs : s.OnAirApart) : t.OnAirApart := by
  refine ⟨fun e he hair => ?_, fun e he f hf hae haf hg => ?_⟩
  · have before : e ∈ s.order := by
      rw [h.order] at he
      cases armed with
      | true => exact List.mem_of_mem_filter he
      | false => exact he
    exact hs.off e before (h.still hair).1
  · obtain ⟨he', -, hevent, -⟩ := h.still hae
    obtain ⟨hf', -, hevent', -⟩ := h.still haf
    rw [hevent, hevent'] at hg
    exact hs.apart e he f hf he' hf' hg

/-- Ends that something calls for, of the events still IN. -/
theorem State.AtBoundary.end {s t u : State} {armed : Bool} {calls more : Nat → EndingCause → Prop} {P : Nat → Prop}
    {cause : Nat → EndingCause} (h : s.AtBoundary armed calls t) (hends : t.EndedBy P cause u)
    (air : ∀ k, P k → (t.eventAt k).state = .onAir)
    (called : ∀ k, (t.eventAt k).state = .onAir → t.eventAt k = s.eventAt k →
      t.switchAt (s.eventAt k).given.group = s.switchAt (s.eventAt k).given.group →
      (P k → more k (cause k)) ∧ (¬P k → ∀ x, ¬more k x)) :
    s.AtBoundary armed (calls ⊔ more) u := by
  refine ⟨h.time.trans hends.time, hends.order.trans h.order, fun k hk ha => ?_, fun k hk hk' => ?_⟩
  · cases h.onAir k hk ha with
    | ends x n hcall hevent =>
      have kept := hends.kept k fun hP => by have := air k hP; rw [hevent] at this; cases this
      exact .ends x n (.inl hcall) (kept.trans hevent)
    | stays hno hevent hswitch =>
      have hair : (t.eventAt k).state = .onAir := hevent ▸ ha
      obtain ⟨yes, no⟩ := called k hair hevent hswitch
      by_cases hP : P k
      · obtain ⟨n, hlast⟩ := hends.ended k hk hP
        exact .ends (cause k) n (.inr (yes hP)) (hlast.trans (h.time.endedRecord hevent _ n))
      · have hsw := hends.switch k hk hair hP
        rw [hevent] at hsw
        exact .stays (fun x hx => hx.elim (hno x) (no hP x)) ((hends.kept k hP).trans hevent) (hsw.trans hswitch)
  · rw [hends.kept k fun hP => hk' (h.still (air k hP)).1]
    exact h.others k hk hk'

/-- The forced ends of a boundary (R148). -/
theorem State.AtBoundary.forceEnds {s t : State} {armed : Bool} {calls : Nat → EndingCause → Prop}
    (h : s.AtBoundary armed calls t) (hs : s.OnAirApart) : s.AtBoundary armed (calls ⊔ s.forcedCalls) t.forceEnds := by
  refine h.end (h.onAirApart hs).forceEnds (fun k => State.pastForcedEnd_onAir) fun k hair hevent hswitch => ?_
  have past := State.pastForcedEnd_congr h.time hevent fun _ => hswitch
  exact ⟨fun hP => ⟨past ▸ hP, by rw [hevent]⟩, fun hP x hx => hP (past.trans hx.1)⟩

/-- The Emitter's change at a boundary (R77, R153). -/
theorem State.AtBoundary.emitterChange {s t : State} {armed : Bool} {calls : Nat → EndingCause → Prop}
    (h : s.AtBoundary armed calls t) (hs : s.OnAirApart) (hstate : t.emitter.state = s.emitter.state)
    (hchange : t.emitter.change = s.emitter.change) : s.AtBoundary armed (calls ⊔ s.changeCalls) t.emitterChange := by
  refine h.end (h.onAirApart hs).emitterChange (fun k hP => hP.2) fun k hair _ _ => ?_
  unfold State.changeCalls State.changeEnds
  rw [hstate, hchange, h.time.clock]
  exact ⟨fun hP => ⟨hP.1, rfl⟩, fun hP x hx => hP ⟨hx.1, hair⟩⟩

/-- Two tests that agree on a list take the same first elements of it. -/
theorem takeWhile_congr_mem {p q : Nat → Bool} {l : List Nat} (h : ∀ e ∈ l, p e = q e) : l.takeWhile p = l.takeWhile q := by
  induction l with
  | nil => rfl
  | cons e l ih =>
    rw [List.takeWhile_cons, List.takeWhile_cons, h e List.mem_cons_self, ih fun f hf => h f (List.mem_cons_of_mem e hf)]

/-- The events due are read from the pending order, from what its events were given and from nominal now (R128). -/
theorem State.dueForArming_congr {s t : State} (time : s.SameTime t) (horder : t.order = s.order)
    (hevents : ∀ e ∈ s.order, t.eventAt e = s.eventAt e) : t.dueForArming = s.dueForArming := by
  unfold State.dueForArming
  rw [horder, time.nominalNow]
  exact takeWhile_congr_mem fun e he => by rw [hevents e he]

theorem State.dueForArming_mem {s : State} {k : Nat} (h : k ∈ s.dueForArming) : k ∈ s.order :=
  (List.takeWhile_sublist _).subset h

/-- What the arming makes of an event is read from its record, the events due and the time. -/
theorem State.TakenUp.congr {s t : State} {k : Nat} {r : EventRecord} (h : t.TakenUp k r) (time : s.SameTime t)
    (hdue : t.dueForArming = s.dueForArming) (hevent : t.eventAt k = s.eventAt k) : s.TakenUp k r := by
  have late : t.missed k ↔ s.missed k := by
    unfold State.missed; rw [hevent, time.markerTime]
  cases h with
  | fails why hd => rw [time.failedRecord hevent]; exact .fails why (hdue ▸ hd)
  | arms hd hm => rw [hevent]; exact .arms (hdue ▸ hd) fun x => hm (late.2 x)
  | misses hd ha hm => rw [time.failedRecord hevent]; exact .misses (hdue ▸ hd) (hevent ▸ ha) (late.1 hm)
  | waits hd hm => rw [hevent]; exact .waits (hdue ▸ hd) fun x => hm ⟨hevent ▸ x.1, late.2 x.2⟩

/-- The arming leaves an event alone that is not due and not ARMED. -/
theorem State.TakenUp.eq_of_not_due {s : State} {k : Nat} {r : EventRecord} (h : s.TakenUp k r) (hdue : k ∉ s.dueForArming)
    (hk : (s.eventAt k).state ≠ .armed) : r = s.eventAt k := by
  cases h with
  | fails _ hd => exact absurd hd hdue
  | arms hd _ => exact absurd hd hdue
  | misses _ ha _ => exact absurd ha hk
  | waits => rfl

/-- The arming of a boundary, with the comparison of R131 behind it (R128, R131). -/
theorem State.AtBoundary.armAndMiss {s t : State} {calls : Nat → EndingCause → Prop} (h : s.AtBoundary false calls t)
    (hs : s.orderLaw) : s.AtBoundary true calls t.armAndMiss := by
  have horder : t.order = s.order := h.order
  have others : ∀ k < 32, (s.eventAt k).state ≠ .onAir → t.eventAt k = s.eventAt k := h.others
  have pending : ∀ e ∈ s.order, t.eventAt e = s.eventAt e ∧ (s.eventAt e).state = .pending := fun e he => by
    obtain ⟨hlt, hp⟩ := (hs.exact e).1 he
    exact ⟨others e hlt (by rw [hp]; exact EventState.noConfusion), hp⟩
  have once : t.order.Nodup := by rw [horder]; exact hs.once
  have due := State.dueForArming_congr h.time horder fun e he => (pending e he).1
  have switch : ∀ g, t.armAndMiss.switchAt g = t.switchAt g := fun g => by
    unfold State.switchAt State.armAndMiss; simp
  refine ⟨(h.time.trans (State.armDue_sameTime t)).trans (State.failMissed_sameTime _), ?_, fun k hk ha => ?_, fun k hk hk' => ?_⟩
  · rw [State.armAndMiss_order once, horder, due]
    · rfl
    · intro e he
      rw [horder] at he
      rw [(pending e he).1, (pending e he).2]
  · have notDue : k ∉ t.dueForArming := fun hd => by
      rw [due] at hd
      rw [(pending k (State.dueForArming_mem hd)).2] at ha
      cases ha
    have taken := State.armAndMiss_eventAt once hk
    cases h.onAir k hk ha with
    | stays hno hevent hswitch =>
      have same := taken.eq_of_not_due notDue (by rw [hevent, ha]; exact EventState.noConfusion)
      exact .stays hno (same.trans hevent) ((switch _).trans hswitch)
    | ends x n hcall hevent =>
      have same := taken.eq_of_not_due notDue (by rw [hevent]; exact EventState.noConfusion)
      exact .ends x n hcall (same.trans hevent)
  · exact (State.armAndMiss_eventAt once hk).congr h.time due (others k hk hk')

/-- The arming and the ends of a boundary, in any of the orders that the free values give (R130, R153). -/
theorem State.armingsAndEnds_atBoundary {s : State} (hs : s.orderLaw) (ha : s.OnAirApart) :
    s.AtBoundary true (s.forcedCalls ⊔ s.changeCalls) s.armingsAndEnds := by
  have start : s.AtBoundary false ⊥ ((s.draw s.armingMeets).draw (s.draw s.armingMeets).endsMeet) :=
    .start ⟨by simp, by simp, by simp⟩ (by simp) (by simp) (by simp)
  have state : ((s.draw s.armingMeets).draw (s.draw s.armingMeets).endsMeet).emitter = s.emitter := by simp
  unfold State.armingsAndEnds
  dsimp only
  generalize (s.draw s.armingMeets).draw (s.draw s.armingMeets).endsMeet = t at start state
  have forcedFirst : (⊥ ⊔ s.forcedCalls) ⊔ s.changeCalls = s.forcedCalls ⊔ s.changeCalls := by rw [bot_sup_eq]
  have changeFirst : (⊥ ⊔ s.changeCalls) ⊔ s.forcedCalls = s.forcedCalls ⊔ s.changeCalls := by rw [bot_sup_eq, sup_comm]
  split
  · exact forcedFirst ▸ ((start.armAndMiss hs).forceEnds ha).emitterChange ha (by simp [State.armAndMiss, state])
      (by simp [State.armAndMiss, state])
  · exact changeFirst ▸ ((start.armAndMiss hs).emitterChange ha (by simp [State.armAndMiss, state])
      (by simp [State.armAndMiss, state])).forceEnds ha
  · exact forcedFirst ▸ ((start.forceEnds ha).armAndMiss hs).emitterChange ha (by simp [State.armAndMiss, state])
      (by simp [State.armAndMiss, state])
  · exact changeFirst ▸ ((start.emitterChange ha (by rw [state]) (by rw [state])).armAndMiss hs).forceEnds ha
  · exact forcedFirst ▸ ((start.forceEnds ha).emitterChange ha (by simp [state]) (by simp [state])).armAndMiss hs
  · exact changeFirst ▸ ((start.emitterChange ha (by rw [state]) (by rw [state])).forceEnds ha).armAndMiss hs

end Sys2Proof.Machine

namespace Sys2Proof.Machine

/-! ### What the schedule is after a boundary -/

/-- The Emitter's change flushes the queue, and with it ends the IN events, exactly where it leaves MUTED or RUNNING for STOPPED or
RUNNING for MUTED (R77). -/
theorem resolveChange_flush_iff (st : EmitterState) (change : PendingChange) (inStep : Bool) :
    (resolveChange st change inStep).2.1 = true ↔
      (st ≠ .stopped ∧ (resolveChange st change inStep).1 = .stopped) ∨
        (st = .running ∧ (resolveChange st change inStep).1 = .muted) := by
  cases st <;> cases change <;> cases inStep <;> decide

/-- The two cases of the forced end, by whether the last switch-out is known (R148). -/
theorem State.pastForcedEnd_iff {s : State} {k : Nat} (h : (s.eventAt k).state = .onAir) :
    s.pastForcedEnd k = true ↔
      (∃ p, (s.switchAt (s.eventAt k).given.group).pOut = some p ∧ s.markerTime.noEarlier (p.addSeconds 2) = true) ∨
        ((s.switchAt (s.eventAt k).given.group).pOut = none ∧
          s.markerTime.noEarlier ((s.eventAt k).threshold.addSeconds 2) = true) := by
  unfold State.pastForcedEnd
  cases hp : (s.switchAt (s.eventAt k).given.group).pOut <;> simp [h, hp]

section
variable {s t : State} {calls : Nat → EndingCause → Prop} (h : s.AtBoundary true calls t)
include h

/-- What the arming makes of the events that are not IN. -/
theorem State.AtBoundary.takenUp {k : Nat} (hk : k < 32) (hair : (s.eventAt k).state ≠ .onAir) : s.TakenUp k (t.eventAt k) :=
  h.others k hk hair

/-- The events due are ARMED or FAILED at this boundary (R128, R129). -/
theorem State.AtBoundary.due_taken (hs : s.orderLaw) {k : Nat} (hdue : k ∈ s.dueForArming) :
    (t.eventAt k).state = .armed ∨ ∃ why, t.eventAt k = s.failedRecord k why := by
  obtain ⟨hk, pending⟩ := (hs.exact k).1 (State.dueForArming_mem hdue)
  have taken := h.takenUp hk (by rw [pending]; exact EventState.noConfusion)
  generalize t.eventAt k = r at taken ⊢
  cases taken with
  | fails why => exact .inr ⟨why, rfl⟩
  | arms => exact .inl rfl
  | misses hd | waits hd => exact absurd hdue hd

/-- The events that wait stay as they were. -/
theorem State.AtBoundary.waiting (hs : s.orderLaw) {k : Nat} (hk : k ∈ s.order) (hdue : k ∉ s.dueForArming) :
    t.eventAt k = s.eventAt k := by
  obtain ⟨hlt, pending⟩ := (hs.exact k).1 hk
  exact (h.takenUp hlt (by rw [pending]; exact EventState.noConfusion)).eq_of_not_due hdue
    (by rw [pending]; exact EventState.noConfusion)

/-- No event is left due (R128). -/
theorem State.AtBoundary.none_due (hs : s.orderLaw) : t.dueForArming = [] := by
  have horder : t.order = s.order.filter fun k => decide (k ∉ s.dueForArming) := h.order
  unfold State.dueForArming at horder ⊢
  rw [horder, h.time.nominalNow]
  refine (takeWhile_congr_mem fun e he => ?_).trans (takeWhile_filter_takeWhile _ _)
  rw [List.mem_filter, decide_eq_true_iff] at he
  rw [h.waiting hs he.1 he.2]

/-- An event that is ARMED has its out-time still to come (R131). -/
theorem State.AtBoundary.armed_in_time {k : Nat} (hk : k < 32) (harmed : (t.eventAt k).state = .armed) :
    (t.eventAt k).given.outTime.noLater s.markerTime = false := by
  have hair : (s.eventAt k).state ≠ .onAir := fun hair => by
    cases h.onAir k hk hair with
    | stays _ hevent _ => rw [hevent, hair] at harmed; cases harmed
    | ends x n _ hevent => rw [hevent] at harmed; cases harmed
  have taken := h.takenUp hk hair
  generalize t.eventAt k = r at taken harmed ⊢
  cases taken with
  | fails | misses => cases harmed
  | arms _ hm => exact Bool.eq_false_iff.2 hm
  | waits _ hm => exact Bool.eq_false_iff.2 fun late => hm ⟨harmed, late⟩

/-- An event that was ARMED and is past its out-time is FAILED, reason MISSED (R131). -/
theorem State.AtBoundary.armed_missed (hs : s.orderLaw) {k : Nat} (hk : k < 32) (harmed : (s.eventAt k).state = .armed)
    (hm : s.missed k) : t.eventAt k = s.failedRecord k .missed := by
  have notDue : k ∉ s.dueForArming := fun hd => by
    rw [((hs.exact k).1 (State.dueForArming_mem hd)).2] at harmed
    cases harmed
  have taken := h.takenUp hk (by rw [harmed]; exact EventState.noConfusion)
  generalize t.eventAt k = r at taken ⊢
  cases taken with
  | fails _ hd => exact absurd hd notDue
  | arms hd _ => exact absurd hd notDue
  | misses => rfl
  | waits _ hw => exact absurd ⟨harmed, hm⟩ hw

end

/-- What a row that takes a boundary hands to the schedule: the state with the new second's clock at slot 0, in which the events,
the order and the switch states are those before the row, and what comes of it (R2, R10). -/
theorem State.takesBoundary_schedule {s : State} {i : Instr} (hs : s.spliceLaw) (h : s.takesBoundary i) :
    ∃ b t : State, exec i s = .next t ∧ b.AtBoundary true (b.forcedCalls ⊔ b.changeCalls) t ∧ b.orderLaw ∧
      b.events = s.events ∧ b.order = s.order ∧ b.switch = s.switch ∧ b.nominalNow = b.markerTime ∧ b.emitter.slot = 0 ∧
      (b.changeEnds = true ↔ (s.emitter.state ≠ .stopped ∧ t.emitter.state = .stopped) ∨
        (s.emitter.state = .running ∧ t.emitter.state = .muted)) ∧
      (resolveChange b.emitter.state b.emitter.change b.clock.inStep).1 = t.emitter.state := by
  obtain ⟨c, hexec, hsub⟩ := State.takesBoundary_hands h
  have hclock : (s.handed c).planChange.emitterSecond.clock.subsecond = 0 := by simp [State.handed, hsub]
  have hevents : (s.handed c).planChange.emitterSecond.events = s.events := by simp [State.handed]
  have horder : (s.handed c).planChange.emitterSecond.order = s.order := by simp [State.handed]
  have hswitch : (s.handed c).planChange.emitterSecond.switch = s.switch := by simp [State.handed]
  have hstate : (s.handed c).planChange.emitterSecond.emitter.state = s.emitter.state := by
    simp [State.emitterSecond, State.handed]
  have hslot : (s.handed c).planChange.emitterSecond.emitter.slot = 0 := rfl
  unfold State.handBoundary at hexec
  generalize (s.handed c).planChange.emitterSecond = b at *
  have law : b.orderLaw := by
    obtain ⟨once, exact, group⟩ := hs.order
    unfold State.eventAt at exact group
    rw [← hevents, ← horder] at exact group
    exact ⟨horder ▸ once, exact, group⟩
  have result : b.armingsAndEnds.sendMarker.emitter.state =
      (resolveChange b.emitter.state b.emitter.change b.clock.inStep).1 := by
    simp [State.armingsAndEnds_result]
  refine ⟨b, b.armingsAndEnds.sendMarker, hexec, ?_, law, hevents, horder, hswitch, ?_, hslot, ?_, result.symm⟩
  · exact (State.armingsAndEnds_atBoundary law (hs.onAirApart.congr hevents horder)).congr ⟨by simp, by simp, by simp⟩
      (by simp) (by simp) (by simp)
  · unfold State.nominalNow State.markerTime State.siteTime
    rw [hclock]
  · rw [result, ← hstate]
    exact resolveChange_flush_iff _ _ _

/-- An IN event at a boundary: it stays where it is neither past its forced end nor ended by the Emitter's change, and otherwise
it is DONE with the cause of one of the two that calls for its end (R148, R153). -/
theorem State.AtBoundary.onAir_cases {s t : State} (h : s.AtBoundary true (s.forcedCalls ⊔ s.changeCalls) t) {k : Nat}
    (hk : k < 32) (hair : (s.eventAt k).state = .onAir) :
    (s.pastForcedEnd k = false ∧ s.changeEnds = false ∧ t.eventAt k = s.eventAt k) ∨
      ∃ x n, t.eventAt k = s.endedRecord k x n ∧ (s.forcedCalls k x ∨ s.changeCalls k x) := by
  cases h.onAir k hk hair with
  | stays hno hevent _ =>
    exact .inl ⟨Bool.eq_false_iff.2 fun hp => hno _ (.inl ⟨hp, rfl⟩), Bool.eq_false_iff.2 fun hc => hno _ (.inr ⟨hc, rfl⟩), hevent⟩
  | ends x n hcall hevent => exact .inr ⟨x, n, hevent, hcall⟩

end Sys2Proof.Machine

namespace Sys2Proof.Machine

/-- Settles O16: the schedule after a boundary stands as `State.AtBoundary` has it, in every order of the arming and the two ends. -/
theorem boundaryEndsEvents : Obligations.BoundaryEndsEvents := by
  intro s i hlaw hboundary
  obtain ⟨b, t, hexec, h, law, hevents, horder, hswitch, hnow, hslot, hchange, hresult⟩ :=
    State.takesBoundary_schedule hlaw hboundary
  have event : ∀ k, s.eventAt k = b.eventAt k := fun k => by unfold State.eventAt; rw [hevents]
  have switch : ∀ g, s.switchAt g = b.switchAt g := fun g => by unfold State.switchAt; rw [hswitch]
  have due : b.order.takeWhile (fun k =>
      Time.noLater ⟨(b.eventAt k).given.inTime.sec - 2, (b.eventAt k).given.inTime.sub⟩ b.markerTime) = b.dueForArming := by
    rw [← hnow]; rfl
  have kept (hrun : t.emitter.state = .running) : ¬b.changeEnds = true := by
    rw [hchange, hrun]
    exact fun x => x.elim (fun y => EmitterState.noConfusion y.2) fun y => EmitterState.noConfusion y.2
  have gone {e : Nat} (hends : b.changeEnds = true) : (t.eventAt e).state ≠ .onAir := fun hair =>
    (h.still hair).2.1 _ (.inr ⟨hends, rfl⟩)
  refine ⟨t, hexec, h.none_due law, ?_⟩
  simp only [event, switch, ← horder, h.time.markerTime, h.time.clock, ← hslot, due]
  refine ⟨⟨h.order, fun k hk => ?_, fun k hk hfail => ?_, fun k => h.waiting law⟩,
    fun e he => h.armed_in_time he, fun e he harmed hm => h.armed_missed law he harmed hm,
    ⟨fun e he hair past => ?_, fun e he hair past hrun hrun' => ?_, fun left hrun hleft e he hair => ?_⟩,
    fun hnot hstop e he => ⟨fun hair => ?_, fun hair => ?_⟩, fun hrun hmuted e he hair => ?_⟩
  · rcases h.due_taken law hk with armed | ⟨why, failed⟩
    · exact .inl armed
    · exact .inr (by rw [failed]; rfl)
  · rcases h.due_taken law hk with armed | ⟨why, failed⟩
    · rw [armed] at hfail; cases hfail
    · rw [failed]; rfl
  · rw [← State.pastForcedEnd_iff hair] at past
    rcases h.onAir_cases he hair with ⟨hpast, -, -⟩ | ⟨x, n, hevent, hcall⟩
    · exact absurd past (Bool.eq_false_iff.1 hpast)
    · rw [hevent]
      exact ⟨rfl, fun hrun => congrArg some (hcall.resolve_right fun hc => kept hrun hc.1).2⟩
  · rw [← State.pastForcedEnd_iff hair] at past
    rcases h.onAir_cases he hair with ⟨-, -, hevent⟩ | ⟨x, n, -, hf | hc⟩
    · exact hevent
    · exact absurd hf.1 past
    · exact absurd hc.1 (kept hrun')
  · have hends : b.changeEnds = true := hchange.2 (hleft.imp (fun x => ⟨by rw [hrun]; exact EmitterState.noConfusion, x.1⟩)
      fun x => ⟨hrun, x.1⟩)
    have hcause : t.emitter.state.endingCause = left := by
      rcases hleft with ⟨hstate, rfl⟩ | ⟨hstate, rfl⟩ <;> rw [hstate] <;> rfl
    rw [← State.pastForcedEnd_iff hair]
    rcases h.onAir_cases he hair with ⟨-, hkept, -⟩ | ⟨x, n, hevent, hcall⟩
    · exact absurd hends (Bool.eq_false_iff.1 hkept)
    · rw [hevent]
      have byChange (hc : b.changeCalls e x) : x = left := hc.2.trans ((congrArg _ hresult).trans hcause)
      exact ⟨rfl, fun hpast => congrArg some (byChange (hcall.resolve_left fun hf => hpast hf.1)),
        fun _ => hcall.symm.imp (fun hc => congrArg some (byChange hc)) fun hf => congrArg some hf.2⟩
  · exact gone (hchange.2 (.inl ⟨hnot, hstop⟩)) hair
  · rcases h.onAir_cases he hair with ⟨-, hkept, -⟩ | ⟨x, n, hevent, -⟩
    · exact absurd (hchange.2 (.inl ⟨hnot, hstop⟩)) (Bool.eq_false_iff.1 hkept)
    · rw [hevent]; rfl
  · exact gone (hchange.2 (.inr ⟨hrun, hmuted⟩)) hair

end Sys2Proof.Machine

namespace Sys2Proof.Machine

/-! ### The command queue and the monitor queue stay within their places (R157 to R159, R163, R164) -/

/-- The command queue and the monitor queue hold no more than their places, and no foreign command stands at the head. -/
structure ControlUnit.queueLaw (u : ControlUnit) : Prop where
  commands : u.queue.length ≤ 8
  monitor : u.monitor.length ≤ 16
  head : ∀ c, u.queue.head? = some c → u.foreign c = false

/-- Between two Control Units notices alone were created: the command queue is as it was, and the monitor queue, if it was within
its places, still is (R163). -/
structure ControlUnit.Noticed (u v : ControlUnit) : Prop where
  queue : v.queue = u.queue
  site : v.site = u.site
  monitor : u.monitor.length ≤ 16 → v.monitor.length ≤ 16

theorem ControlUnit.Noticed.refl (u : ControlUnit) : u.Noticed u := ⟨rfl, rfl, id⟩

theorem ControlUnit.Noticed.trans {u v w : ControlUnit} (h : u.Noticed v) (k : v.Noticed w) : u.Noticed w :=
  ⟨k.queue.trans h.queue, k.site.trans h.site, k.monitor ∘ h.monitor⟩

/-- A notice joins where a place is free and is dropped where none is (R163). -/
theorem ControlUnit.withNotice_noticed (u : ControlUnit) (c : SiteClock) (k : NoticeKind) (d : List Byte) :
    u.Noticed (u.withNotice c k d) := by
  unfold ControlUnit.withNotice
  split
  · rename_i free
    exact ⟨rfl, rfl, fun _ => by simpa using free⟩
  · exact ⟨rfl, rfl, id⟩

theorem ControlUnit.withNotices_noticed (u : ControlUnit) (c : SiteClock) (l : List (NoticeKind × List Byte)) :
    u.Noticed (u.withNotices c l) := by
  induction l generalizing u with
  | nil => exact .refl u
  | cons n l ih => exact (u.withNotice_noticed c n.1 n.2).trans (ih _)

theorem State.notify_noticed (s : State) (k : NoticeKind) (d : List Byte) : s.control.Noticed (s.notify k d).control := by
  rw [State.notify_eq]; exact ControlUnit.withNotice_noticed _ _ _ _

theorem State.splicesTo.noticed {s t : State} (h : s.splicesTo t) : s.control.Noticed t.control := by
  obtain ⟨l, -, h⟩ := h.notices
  rw [h]; exact ControlUnit.withNotices_noticed _ _ _

theorem State.notifyClock_noticed (s : State) (b : ClockState) (c : ClockCause) :
    s.control.Noticed (s.notifyClock b c).control := by
  rw [State.notifyClock_notices]; exact ControlUnit.withNotices_noticed _ _ _

theorem State.staleAdvance_noticed (s : State) : s.control.Noticed s.staleAdvance.control := by
  rw [State.staleAdvance_notices]; exact ControlUnit.withNotices_noticed _ _ _

theorem State.handBoundary_noticed (s : State) : s.control.Noticed s.handBoundary.control := by
  obtain ⟨l, -, h⟩ := s.handBoundary_others
  rw [h]; exact ControlUnit.withNotices_noticed _ _ _

theorem State.edgeBoundary_noticed (s : State) : s.control.Noticed s.edgeBoundary.control :=
  ((State.notifyClock_noticed { s with clock := s.clock.boundary } _ _).trans (State.staleAdvance_noticed _)).trans
    (State.handBoundary_noticed _)

theorem State.takeStep_noticed (s : State) (b : ClockState) (e : Int) : s.control.Noticed (s.takeStep b e).control := by
  rw [State.takeStep_eq]
  have noted := State.notifyClock_noticed { s with clock := s.clock.stepped e } b .bad
  dsimp only
  generalize ({ s with clock := s.clock.stepped e } : State).notifyClock b .bad = m at noted ⊢
  have passed : s.control.Noticed (if e < 0 then m.passSlots else m).control := by split <;> simpa using noted
  split
  · exact passed.trans (State.armDue_splicesTo _).noticed
  · exact noted.trans m.handBoundary_noticed

theorem State.restartStale_noticed (s : State) (b : Bool) : s.control.Noticed (s.restartStale b).control := by
  unfold State.restartStale
  dsimp only
  have cleared : s.control.Noticed
      (if s.plan.stale then ({ s with plan := { s.plan with staleTimer := 0, stale := false } } : State).notifyPlan .fresh
        else { s with plan := { s.plan with staleTimer := 0, stale := false } }).control := by
    split
    · exact State.notify_noticed { s with plan := { s.plan with staleTimer := 0, stale := false } } _ _
    · exact .refl _
  split
  · exact cleared.trans (State.notify_noticed _ _ _)
  · exact cleared

theorem State.takeTiming_noticed (s : State) (c : Cell) : s.control.Noticed (s.takeTiming c).control := by
  unfold State.takeTiming
  dsimp only
  split
  · split
    · exact State.notify_noticed { s with plan := { s.plan with current := some (readPlan c.payload), staleTimer := 0 } } _ _
    · split
      · split
        · exact s.restartStale_noticed _
        · exact .refl _
      · split
        · exact s.restartStale_noticed _
        · exact State.restartStale_noticed { s with plan := { s.plan with pending := some (readPlan c.payload) } } _
  · exact .refl _

/-- The slot's SPLICE notices: the Splice Switch creates no other (R137, R140). -/
theorem State.replaceRecord_control (s : State) (e m : Nat) : (s.replaceRecord e m).1.control = s.control := by
  unfold State.replaceRecord
  dsimp only
  (repeat' split) <;> simp

theorem State.switchIn_noticed (s : State) (g e : Nat) (r : Record) : s.control.Noticed (s.switchIn g e r).1.control := by
  unfold State.switchIn State.notifySplice
  dsimp only
  refine ControlUnit.Noticed.trans ?_ (State.notify_noticed _ _ _)
  rw [State.replaceRecord_control]
  simp [State.enterClip, ControlUnit.Noticed.refl]

theorem State.endIfBack_noticed (s : State) (g e : Nat) : s.control.Noticed (s.endIfBack g e).control := by
  unfold State.endIfBack
  dsimp only
  split
  · exact (State.endSplice_splicesTo s e _ _).noticed
  · exact .refl _

theorem State.onIdle_noticed (s : State) (g m : Nat) (r : Record) : s.control.Noticed (s.onIdle g m r).1.control := by
  unfold State.onIdle
  dsimp only
  split
  · exact .refl _
  · split
    · exact .refl _
    · split
      · exact .refl _
      · split
        · exact s.switchIn_noticed _ _ _
        · exact (State.finishEvent_splicesTo s _ _ _ _).noticed

/-- A switch-out changes the switch states and the owed lanes, and may end the splice (R145 to R147). -/
theorem State.enterBack_endIfBack_noticed (s : State) (g m lane e : Nat) :
    s.control.Noticed ((s.enterBack g m lane).endIfBack g e).control := by
  refine ControlUnit.Noticed.trans ?_ (State.endIfBack_noticed _ _ _)
  simp [State.enterBack, ControlUnit.Noticed.refl]

theorem State.replaceRecord_noticed (s : State) (e m : Nat) : s.control.Noticed (s.replaceRecord e m).1.control := by
  rw [State.replaceRecord_control]; exact .refl _

theorem State.onLeader_noticed (s : State) (g e : Nat) (r : Record) : s.control.Noticed (s.onLeader g e r).1.control := by
  unfold State.onLeader
  split
  · split
    · exact State.enterBack_endIfBack_noticed ((s.setEvent e _).setSwitch g _) _ _ _ _
    · exact s.replaceRecord_noticed _ _
  · exact .refl _
  · exact .refl _

theorem State.onMember_noticed (s : State) (g e m : Nat) (r : Record) : s.control.Noticed (s.onMember g e m r).1.control := by
  unfold State.onMember
  dsimp only
  split
  · split
    · split
      · exact State.replaceRecord_noticed (s.enterClip g m r.outLane) _ _
      · exact .refl _
    · exact .refl _
  · split
    · exact s.replaceRecord_noticed _ _
    · split
      · exact s.replaceRecord_noticed _ _
      · split
        · exact s.enterBack_endIfBack_noticed _ _ _ _
        · exact s.replaceRecord_noticed _ _
  · exact .refl _

/-- The Splice Switch creates notices alone. -/
theorem State.switchRecord_noticed (s : State) (r : Record) : s.control.Noticed (s.switchRecord r).1.control := by
  unfold State.switchRecord
  split
  · exact .refl _
  · split
    · exact s.onIdle_noticed _ _ _
    · split
      · exact .refl _
      · split
        · exact s.onLeader_noticed _ _ _
        · exact s.onMember_noticed _ _ _ _

theorem State.sendRecord_noticed (s : State) (r : Record) (n : Nat) : s.control.Noticed (s.sendRecord r n).control := by
  unfold State.sendRecord
  dsimp only
  simp only [State.sendOnAir_frame]
  refine ControlUnit.Noticed.trans ?_ (State.switchRecord_noticed _ _)
  split <;> simp [ControlUnit.Noticed.refl]

theorem State.fillSlot_noticed (s : State) : s.control.Noticed s.fillSlot.control := by
  unfold State.fillSlot
  dsimp only
  split
  · exact .refl _
  · split
    · exact s.sendRecord_noticed _ _
    · exact .refl _
    · exact .refl _

theorem State.muteAtSlot_noticed (s : State) : s.control.Noticed s.muteAtSlot.control := by
  unfold State.muteAtSlot State.notifyEmitter
  dsimp only
  refine ControlUnit.Noticed.trans ?_ (State.endAllOnAir_splicesTo _ _).noticed
  exact State.notify_noticed (({ s.flushQueue with emitter := { s.flushQueue.emitter with state := .muted } } : State).sendEm fillCell) _ _

theorem State.beginSlot_noticed (s : State) : s.control.Noticed s.beginSlot.control := by
  unfold State.beginSlot
  split
  · exact .refl _
  · exact .refl _
  · split
    · exact ControlUnit.Noticed.trans (by simp [State.examineHead, ControlUnit.Noticed.refl]) s.examineHead.fillSlot_noticed
    · exact s.muteAtSlot_noticed


/-! ### FIFOs within their places (R19, R27) -/

/-- No FIFO has grown. -/
def State.FifosShrink (s t : State) : Prop := ∀ p, (t.intake p).fifo.length ≤ (s.intake p).fifo.length

theorem State.FifosShrink.refl (s : State) : s.FifosShrink s := fun _ => le_rfl

theorem State.FifosShrink.trans {s t u : State} (h : s.FifosShrink t) (k : t.FifosShrink u) : s.FifosShrink u :=
  fun p => (k p).trans (h p)

theorem State.FifosShrink.of_eq {s t : State} (hn : t.nf.fifo = s.nf.fifo) (hl : t.lf.fifo = s.lf.fifo) : s.FifosShrink t := by
  intro p
  cases p
  · exact (congrArg List.length hn).le
  · exact (congrArg List.length hl).le

theorem State.popFifo_shrinks (s : State) (p : Port) : s.FifosShrink (s.popFifo p) := by
  intro q
  cases p <;> cases q <;> simp [State.popFifo, State.setIntake, State.intake]

theorem State.grantNf_shrinks (s : State) (r : Record) : s.FifosShrink (s.grantNf r) := by
  unfold State.grantNf
  dsimp only
  refine State.FifosShrink.trans (State.popFifo_shrinks { s with store := { s.store with nfWaiting := none } } .nf) ?_
  split
  · exact .of_eq rfl rfl
  · split
    · exact .of_eq rfl rfl
    · exact .of_eq (by simp) (by simp)

theorem State.grantLf_shrinks (s : State) (w : ClipWrite) : s.FifosShrink (s.grantLf w) := by
  unfold State.grantLf
  dsimp only
  refine State.FifosShrink.trans (State.popFifo_shrinks { s with store := { s.store with lfWaiting := none } } .lf) ?_
  split
  · split
    · exact .of_eq (by simp) (by simp)
    · exact .of_eq (by simp) (by simp)
  · exact .of_eq rfl rfl

theorem State.arbitrate_shrinks (s : State) : s.FifosShrink s.arbitrate := by
  cases ha : s.store.access with
  | some a => rw [State.arbitrate_busy ha]; exact .refl s
  | none =>
    cases hr : s.store.readWaiting with
    | some r => rw [State.arbitrate_read ha hr]; exact .of_eq rfl rfl
    | none =>
      cases hn : s.store.nfWaiting with
      | some r =>
        rw [State.arbitrate_nf ha hr hn]
        split
        · exact (s.grantNf_shrinks r).trans (State.grantLf_shrinks _ _)
        · exact s.grantNf_shrinks r
      | none =>
        cases hl : s.store.lfWaiting with
        | some w => rw [State.arbitrate_lf ha hr hn hl]; exact s.grantLf_shrinks w
        | none => rw [State.arbitrate_idle ha hr hn hl]; exact .refl s

theorem State.classify_shrinks (s : State) (c : Cell) (o : Nat) (p : Option GroupPlace) : s.FifosShrink (s.classify c o p) := by
  unfold State.classify
  dsimp only
  split
  · split
    · exact State.FifosShrink.trans (s.popFifo_shrinks .nf) (.of_eq rfl rfl)
    · exact State.arbitrate_shrinks { s with store := { s.store with nfWaiting := some _ } }
  · exact State.FifosShrink.trans (s.popFifo_shrinks .nf) (.of_eq rfl rfl)

theorem State.testContinuity_shrinks (s : State) (h : Header) : s.FifosShrink (s.testContinuity h) := by
  unfold State.testContinuity
  dsimp only
  split <;> exact .of_eq rfl rfl

theorem State.handData_shrinks (s : State) (c : Cell) : s.FifosShrink (s.handData c) := by
  unfold State.handData
  dsimp only
  refine State.FifosShrink.trans (s.testContinuity_shrinks c.header) ?_
  split
  · exact State.FifosShrink.trans (State.popFifo_shrinks _ .nf) (.of_eq rfl rfl)
  · exact State.classify_shrinks _ _ _ _
  · exact State.classify_shrinks _ _ _ _

theorem State.handClipCell_shrinks (s : State) (c : Cell) : s.FifosShrink (s.handClipCell c) := by
  unfold State.handClipCell
  dsimp only
  split
  · exact State.arbitrate_shrinks { s with store := { s.store with lfWaiting := some _ } }
  · exact State.FifosShrink.trans (s.popFifo_shrinks .lf) (.of_eq rfl rfl)

theorem State.takeTiming_fifo (s : State) (c : Cell) : (s.takeTiming c).nf.fifo = s.nf.fifo := by
  unfold State.takeTiming
  dsimp only
  (repeat' split) <;> simp [State.countNf]

/-- A delivery adds a cell to a FIFO that holds fewer than 32 (R27). -/
theorem Intake.deliver_fifo (x : Intake) (p : Port) (c : Cell) : (x.deliver p c).fifo.length ≤ max 32 x.fifo.length := by
  unfold Intake.deliver
  dsimp only
  have same : x.fifo.length ≤ max 32 x.fifo.length := le_max_right ..
  split
  · exact same
  · split
    · exact same
    · split
      · exact same
      · split
        · exact same
        · split
          · exact same
          · rename_i free
            have free : x.fifo.length < 32 := Nat.lt_of_not_le free
            show (x.fifo ++ [c]).length ≤ _
            rw [List.length_append, List.length_singleton]
            omega


/-! ### The lane map (R41) -/

theorem State.laneEntry_applyEntry (s : State) (index j : Nat) (e : LaneEntry) :
    (s.applyEntry index e).laneEntry j = if index = j ∧ j < 1022 then e else s.laneEntry j := rowAt_setRow _ _ _ _ _

/-- An item that no entry at another index shares (R40, checks 5 and 6). -/
theorem State.heldElsewhere_false {α : Type} [DecidableEq α] {s : State} {index : Nat} {item : LaneEntry → Option α}
    {x : Option α} (hdrop : item .drop = none) (h : s.heldElsewhere index item x = false) (hx : x ≠ none) {j : Nat}
    (hj : j ≠ index) : item (s.laneEntry j) ≠ x := by
  intro hsame
  by_cases hlt : j < 1022
  · have row : s.laneMap[j]? = some (s.laneEntry j) := by
      unfold State.laneEntry rowAt
      simp [hlt]
    have mem : (s.laneEntry j, j) ∈ s.laneMap.toList.zipIdx := by
      rw [List.mk_mem_zipIdx_iff_getElem?]
      simpa using row
    have held : s.heldElsewhere index item x = true := by
      unfold State.heldElsewhere
      rw [Bool.and_eq_true, List.any_eq_true]
      exact ⟨Option.isSome_iff_ne_none.2 hx, _, mem, by simp [hj, hsame]⟩
    rw [h] at held
    cases held
  · have beyond : s.laneEntry j = .drop := rowAt_of_le _ _ _ (Nat.le_of_not_lt hlt)
    rw [beyond, hdrop] at hsame
    exact hx hsame.symm

/-- An entry that passes the checks shares neither its output lane nor its member position with an entry at another index (R40). -/
theorem State.checkEntry_unshared {s : State} {index : Nat} {x : RawEntry} {e : LaneEntry} (h : s.checkEntry index x = .ok e) :
    s.heldElsewhere index LaneEntry.output e.output = false ∧ s.heldElsewhere index LaneEntry.place e.place = false := by
  unfold State.checkEntry at h
  (repeat' split at h) <;> simp_all

/-- No two entries of a lane map share a present item. -/
def unshared {α : Type} (item : LaneEntry → Option α) (entry : Nat → LaneEntry) : Prop :=
  ∀ i j, i ≠ j → item (entry i) ≠ none → item (entry i) ≠ item (entry j)

/-- An entry whose item no other index holds joins a lane map without shared items. -/
theorem unshared.applyEntry {α : Type} [DecidableEq α] {item : LaneEntry → Option α} {s : State} {index : Nat} {e : LaneEntry}
    (hdrop : item .drop = none) (hs : unshared item s.laneEntry) (h : s.heldElsewhere index item (item e) = false) :
    unshared item (s.applyEntry index e).laneEntry := by
  intro i j hij hi
  rw [State.laneEntry_applyEntry] at hi ⊢
  rw [State.laneEntry_applyEntry]
  by_cases hnew : index = i ∧ i < 1022
  · rw [if_pos hnew] at hi ⊢
    rw [if_neg fun hj => hij (hnew.1.symm.trans hj.1)]
    exact fun hx => State.heldElsewhere_false hdrop h hi (fun hj => hij (hnew.1.symm.trans hj.symm)) hx.symm
  · rw [if_neg hnew] at hi ⊢
    by_cases hother : index = j ∧ j < 1022
    · rw [if_pos hother]
      exact fun hx => State.heldElsewhere_false hdrop h (hx ▸ hi) (fun hj => hij (hj.trans hother.1)) hx
    · rw [if_neg hother]
      exact hs i j hij hi

theorem State.laneLaw.applyEntry {s : State} (hs : s.laneLaw) {index : Nat} {x : RawEntry} {e : LaneEntry}
    (h : s.checkEntry index x = .ok e) : (s.applyEntry index e).laneLaw :=
  ⟨unshared.applyEntry rfl hs.outputs (State.checkEntry_unshared h).1,
    unshared.applyEntry rfl hs.places (State.checkEntry_unshared h).2⟩

theorem State.laneLaw.congr {s t : State} (hs : s.laneLaw) (h : t.laneMap = s.laneMap) : t.laneLaw := by
  obtain ⟨outputs, places⟩ := hs
  unfold State.laneEntry at outputs places
  rw [← h] at outputs places
  exact ⟨outputs, places⟩

/-- A load applies entries that pass the checks alone (R39, R41). -/
theorem State.laneLaw.loadEntries {s : State} (hs : s.laneLaw) (index applied : Nat) (l : List RawEntry) :
    (s.loadEntries index applied l).1.laneLaw := by
  induction l generalizing s index applied with
  | nil => exact hs
  | cons x rest ih =>
    unfold State.loadEntries
    split
    · exact hs
    · rename_i e passed
      exact ih (hs.applyEntry passed) _ _

theorem State.laneLaw.laneMapLoadBody {s : State} (hs : s.laneLaw) (c : Command) : (laneMapLoadBody c s).laneLaw := by
  have loaded := hs.loadEntries c.firstIndex 0 c.rawEntries
  unfold Machine.laneMapLoadBody
  split
  · exact hs.congr rfl
  · split <;> rename_i h <;> rw [h] at loaded <;> exact loaded.congr rfl


/-! ### What the commands' own rules answer (R162) -/

/-- One reply joins the monitor queue and then notices alone; the command queue does not grow (R162, R163). -/
def State.Answers (u v : State) : Prop :=
  ∃ (t : State) (c : Command) (r : Result) (d : List Byte), t.control.queue.length ≤ u.control.queue.length ∧
    t.control.monitor = u.control.monitor ∧ (t.reply c r d).control.Noticed v.control

/-- A reply alone. -/
theorem State.Answers.reply {u t : State} (h : t.control = u.control) (c : Command) (r : Result) (d : List Byte) :
    u.Answers (t.reply c r d) := ⟨t, c, r, d, by rw [h], by rw [h], .refl _⟩

theorem State.Answers.noticed {u v w : State} (h : u.Answers v) (k : v.control.Noticed w.control) : u.Answers w := by
  obtain ⟨t, c, r, d, hqueue, hmonitor, hv⟩ := h
  exact ⟨t, c, r, d, hqueue, hmonitor, hv.trans k⟩

/-- A rule that answers a taken command leaves both queues within their places: the reply has the place that was free (R159). -/
theorem State.Answers.places {u v : State} (h : u.Answers v) (hfree : u.control.monitor.length < 16) :
    v.control.queue.length ≤ u.control.queue.length ∧ v.control.monitor.length ≤ 16 := by
  obtain ⟨t, c, r, d, hqueue, hmonitor, hv⟩ := h
  refine ⟨(congrArg List.length hv.queue).trans_le hqueue, hv.monitor ?_⟩
  show (t.control.monitor ++ [_]).length ≤ 16
  rw [hmonitor, List.length_append, List.length_singleton]
  exact hfree

section
variable (c : Command) (u : State)

theorem statusBody_answers : u.Answers (statusBody c u) :=
  (State.Answers.reply rfl c .ok u.statusData).noticed ⟨rfl, rfl, id⟩

theorem statsBody_answers : u.Answers (statsBody c u) := by
  unfold statsBody
  split
  · exact .reply rfl _ _ _
  · split
    · exact (State.Answers.reply rfl c .ok _).noticed ⟨rfl, rfl, id⟩
    · exact (State.Answers.reply rfl c .ok (u.watchData c.selector)).noticed (by simp [ControlUnit.Noticed.refl])

theorem State.restartEmitter_noticed (s : State) : s.control.Noticed s.restartEmitter.control := by
  unfold State.restartEmitter
  dsimp only
  split
  · exact .refl _
  · exact State.notify_noticed { s.flushQueue with emitter := { s.flushQueue.emitter with state := .stopped, change := .none } } _ _

theorem State.cancelAll_splicesTo (s : State) : s.splicesTo s.cancelAll := by
  refine .foldl (fun t e => ?_) _ _
  split
  · exact State.finishEvent_splicesTo _ _ _ _ _
  · exact State.finishEvent_splicesTo _ _ _ _ _
  · exact State.endSplice_splicesTo _ _ _ _
  all_goals exact .refl t

theorem restartBody_answers : u.Answers (restartBody c u) := by
  refine ⟨u.restartIntakes.restartControl, c, .ok, bytes1 u.control.queue.length, Nat.zero_le _, ?_, ?_⟩
  · simp [State.restartControl]
  · exact (State.cancelAll_splicesTo _).noticed.trans (State.restartEmitter_noticed _)

theorem laneMapLoadBody_answers : u.Answers (laneMapLoadBody c u) := by
  unfold laneMapLoadBody
  have loaded : (u.loadEntries c.firstIndex 0 c.rawEntries).1.control = u.control := by simp [State.loadEntries_frame]
  split
  · exact .reply rfl _ _ _
  · split <;> rename_i h <;> rw [h] at loaded <;> exact .reply loaded _ _ _

theorem laneMapReadBody_answers : u.Answers (laneMapReadBody c u) := by
  unfold laneMapReadBody
  split <;> exact .reply rfl _ _ _

theorem groupSetBody_answers : u.Answers (groupSetBody c u) := by
  unfold groupSetBody
  split <;> exact .reply rfl _ _ _

theorem watchSetBody_answers : u.Answers (watchSetBody c u) := by
  unfold watchSetBody
  (repeat' split) <;> exact .reply rfl _ _ _

theorem siteSetBody_answers : u.Answers (siteSetBody c u) := by
  unfold siteSetBody
  extract_lets _ _ t r
  have replied : u.Answers r := State.Answers.reply (t := t) rfl _ _ _
  split
  · exact replied
  · exact replied.noticed r.armDue_splicesTo.noticed

theorem clockSetBody_answers : u.Answers (clockSetBody c u) := by
  unfold clockSetBody
  extract_lets _ t r
  have replied : u.Answers r := State.Answers.reply (t := t) rfl _ _ _
  exact replied.noticed (State.notifyClock_noticed { r with clock := r.clock.checkHold } _ _)

theorem partitionBody_answers : u.Answers (partitionBody c u) := by
  unfold partitionBody
  (repeat' split) <;> exact .reply rfl _ _ _

theorem emitStartBody_answers : u.Answers (emitStartBody c u) := by
  unfold emitStartBody
  (repeat' split) <;> exact .reply rfl _ _ _

theorem emitStopBody_answers : u.Answers (emitStopBody c u) := by
  unfold emitStopBody
  (repeat' split) <;> exact .reply rfl _ _ _

theorem clipOpenBody_answers : u.Answers (clipOpenBody c u) := by
  unfold clipOpenBody
  dsimp only
  (repeat' split) <;> exact .reply rfl _ _ _

theorem clipCloseBody_answers : u.Answers (clipCloseBody c u) := by
  unfold clipCloseBody
  dsimp only
  (repeat' split) <;> exact .reply rfl _ _ _

theorem clipRemoveBody_answers : u.Answers (clipRemoveBody c u) := by
  unfold clipRemoveBody
  dsimp only
  (repeat' split) <;> exact .reply rfl _ _ _

theorem clipQueryBody_answers : u.Answers (clipQueryBody c u) := by
  unfold clipQueryBody
  (repeat' split) <;> exact .reply rfl _ _ _

theorem spliceAddBody_answers : u.Answers (spliceAddBody c u) := by
  unfold spliceAddBody
  dsimp only
  (repeat' split) <;> exact .reply rfl _ _ _

theorem spliceCancelBody_answers : u.Answers (spliceCancelBody c u) := by
  have finished : ∀ d e, u.Answers ((u.reply c .ok d).finishEvent e .cancelled (some .command) none) := fun d e =>
    (State.Answers.reply rfl c .ok d).noticed (State.finishEvent_splicesTo _ _ _ _ _).noticed
  unfold spliceCancelBody
  dsimp only
  split
  · exact .reply rfl _ _ _
  · split
    · exact .reply rfl _ _ _
    · split
      · exact finished _ _
      · exact finished _ _
      · exact .reply (by simp) _ _ _
      all_goals exact .reply rfl _ _ _

theorem spliceQueryBody_answers : u.Answers (spliceQueryBody c u) := by
  unfold spliceQueryBody
  (repeat' split) <;> exact .reply rfl _ _ _

end

/-! ### What a row keeps -/

/-- The laws of the lane map and the DRAM are kept, and no FIFO grows beyond its 32 places. -/
structure State.KeepsTables (s t : State) : Prop where
  lanes : s.laneLaw → t.laneLaw
  memory : Memory.wf s.store.dram = true → Memory.wf t.store.dram = true
  fifos : ∀ p, (t.intake p).fifo.length ≤ max 32 (s.intake p).fifo.length

/-- A change that leaves the lane map and the DRAM as they are and lets no FIFO grow. -/
theorem State.KeepsTables.of_same {s t : State} (hl : t.laneMap = s.laneMap) (hd : t.store.dram = s.store.dram)
    (hf : s.FifosShrink t) : s.KeepsTables t :=
  ⟨fun h => h.congr hl, fun h => by rwa [hd], fun p => (hf p).trans (le_max_right ..)⟩

theorem State.KeepsTables.trans {s t u : State} (h : s.KeepsTables t) (k : t.KeepsTables u) : s.KeepsTables u :=
  ⟨k.lanes ∘ h.lanes, k.memory ∘ h.memory, fun p => (k.fifos p).trans (max_le (le_max_left ..) (h.fifos p))⟩

theorem State.KeepsTables.refl (s : State) : s.KeepsTables s := .of_same rfl rfl (.refl s)

/-- What a row keeps of the three laws. -/
structure State.KeepsLaws (s t : State) : Prop where
  tables : s.KeepsTables t
  commands : s.control.queueLaw → t.control.queueLaw

theorem ControlUnit.Noticed.queueLaw {u v : ControlUnit} (h : u.Noticed v) (hu : u.queueLaw) : v.queueLaw := by
  obtain ⟨commands, monitor, head⟩ := hu
  refine ⟨by rw [h.queue]; exact commands, h.monitor monitor, ?_⟩
  rw [h.queue, ControlUnit.foreign_congr h.site]
  exact head

/-- A row that creates notices alone. -/
theorem State.KeepsLaws.of_noticed {s t : State} (h : s.KeepsTables t) (k : s.control.Noticed t.control) : s.KeepsLaws t :=
  ⟨h, k.queueLaw⟩

theorem State.KeepsLaws.refl (s : State) : s.KeepsLaws s := .of_noticed (.refl s) (.refl _)

/-- Once foreign commands have been discarded, none stands at the head (R158). -/
theorem State.discardForeign_queueLaw {s : State} (hq : s.control.queue.length ≤ 8) (hm : s.control.monitor.length ≤ 16) :
    s.discardForeign.control.queueLaw := by
  refine ⟨((List.dropWhile_sublist _).length_le).trans hq, hm, fun c hc => ?_⟩
  have kept := List.head?_dropWhile_not s.control.foreign s.control.queue
  rw [show (s.control.queue.dropWhile s.control.foreign).head? = some c from hc] at kept
  exact kept

/-- A rule behind a command's taking: the command has left the command queue, and its reply has the place that was free (R158,
R159, R162). -/
theorem State.KeepsLaws.taken {s v : State} (hv : s.popCommand.KeepsTables v) (ha : s.popCommand.Answers v)
    (hm : s.control.monitor.length < 16) : s.KeepsLaws v.discardForeign := by
  have popped : s.KeepsTables s.popCommand := .of_same rfl rfl (.of_eq rfl rfl)
  refine ⟨(popped.trans hv).trans (.of_same rfl rfl (.of_eq rfl rfl)), fun law => ?_⟩
  obtain ⟨hqueue, hmonitor⟩ := ha.places hm
  have shorter : s.popCommand.control.queue.length ≤ 8 := (List.length_tail ▸ Nat.sub_le _ _).trans law.commands
  exact State.discardForeign_queueLaw (hqueue.trans shorter) hmonitor

/-- A command refused before its own rule (R160). -/
theorem State.KeepsLaws.refused {s : State} (c : Command) (r : Result) (hm : s.control.monitor.length < 16) :
    s.KeepsLaws (s.popCommand.reply c r []).discardForeign :=
  .taken (.of_same rfl rfl (.of_eq rfl rfl)) (.reply rfl _ _ _) hm

theorem State.takeCommand_keepsLaws {s t : State} {name : CommandName} {body : Command → State → State}
    (tables : ∀ c u, State.KeepsTables u (body c u)) (answers : ∀ c u, State.Answers u (body c u))
    (h : s.takeCommand name body = .next t) : s.KeepsLaws t := by
  obtain rfl | ⟨c, rest, -, -, hm, -, rfl | rfl | rfl⟩ := State.takeCommand_cases h
  · exact .refl _
  · exact .refused c _ hm
  · exact .refused c _ hm
  · exact .taken (tables c _) (answers c _) hm

/-! ### Every row keeps the laws -/

theorem State.KeepsTables.setIntake {s : State} {p : Port} {x : Intake}
    (h : x.fifo.length ≤ max 32 (s.intake p).fifo.length) : s.KeepsTables (s.setIntake p x) := by
  refine ⟨fun law => law.congr (by simp), fun wf => by simpa using wf, fun q => ?_⟩
  cases p <;> cases q
  · exact h
  · exact le_max_right ..
  · exact le_max_right ..
  · exact h

/-- An intake whose FIFO does not grow beyond its places; nothing else changes. -/
theorem State.KeepsLaws.setIntake {s : State} {p : Port} {x : Intake}
    (h : x.fifo.length ≤ max 32 (s.intake p).fifo.length) : s.KeepsLaws (s.setIntake p x) :=
  .of_noticed (.setIntake h) (by simp [ControlUnit.Noticed.refl])

theorem State.KeepsLaws.notifySync {s : State} {p : Port} {x : Intake} (h : x.fifo = (s.intake p).fifo) (c : SyncCause) :
    s.KeepsLaws ((s.setIntake p x).notifySync p c) := by
  have room : x.fifo.length ≤ max 32 (s.intake p).fifo.length := by rw [h]; exact le_max_right ..
  refine .of_noticed ((State.KeepsTables.setIntake room).trans (.of_same (by simp) (by simp) (.of_eq (by simp) (by simp)))) ?_
  simpa [State.notifySync] using (s.setIntake p x).notify_noticed .sync ((s.setIntake p x).syncNoticeData p c)

theorem State.takeTiming_keepsTables (s : State) (c : Cell) : s.KeepsTables (s.takeTiming c) :=
  .of_same (by simp) (by simp) (.of_eq (State.takeTiming_fifo s c) (by simp))

/-- A command offered joins the queue in a free place, and none that is foreign stays at the head (R32, R158). -/
theorem State.offerCommand_keepsLaws (s : State) (o : Origin) (c : Cell) : s.KeepsLaws (s.offerCommand o c) := by
  refine ⟨.of_same (by simp) (by simp) (.of_eq (by simp) (by simp)), fun law => ?_⟩
  unfold State.offerCommand
  split
  · rename_i free
    refine State.discardForeign_queueLaw ?_ law.monitor
    show (s.control.queue ++ [_]).length ≤ 8
    rw [List.length_append, List.length_singleton]
    exact free
  · exact ⟨law.commands, law.monitor, law.head⟩

theorem State.KeepsLaws.trans {s t u : State} (h : s.KeepsLaws t) (k : t.KeepsLaws u) : s.KeepsLaws u :=
  ⟨h.tables.trans k.tables, k.commands ∘ h.commands⟩

/-- A block that takes no part in the laws hands on the head: the FIFO shortens, the commands stay. -/
theorem State.KeepsLaws.of_still {s t : State} (hl : t.laneMap = s.laneMap) (hd : t.store.dram = s.store.dram)
    (hf : s.FifosShrink t) (hc : t.control = s.control) : s.KeepsLaws t :=
  .of_noticed (.of_same hl hd hf) (hc ▸ .refl _)

theorem State.popFifo_keepsLaws (s : State) (p : Port) : s.KeepsLaws (s.popFifo p) :=
  .of_still (by simp) (by simp) (s.popFifo_shrinks p) (by simp)

/-- A hand-off writes nothing into the DRAM: the write it starts ends later (R103). -/
theorem State.handData_dram (s : State) (c : Cell) : (s.handData c).store.dram = s.store.dram := by
  unfold State.handData State.classify
  dsimp only
  (repeat' split) <;> simp

theorem State.handClipCell_dram (s : State) (c : Cell) : (s.handClipCell c).store.dram = s.store.dram := by
  unfold State.handClipCell
  dsimp only
  split <;> simp

theorem State.handHead_keepsLaws (s : State) (p : Port) (c : Cell) : s.KeepsLaws (s.handHead p c) := by
  unfold State.handHead
  split
  · exact .of_still (by simp) (s.handData_dram c) (s.handData_shrinks c) (by simp)
  · exact (s.popFifo_keepsLaws .nf).trans (.of_noticed (State.takeTiming_keepsTables _ _) (State.takeTiming_noticed _ _))
  · exact (s.popFifo_keepsLaws .nf).trans (State.offerCommand_keepsLaws _ _ _)
  · exact s.popFifo_keepsLaws .nf
  · exact .of_still (by simp) (s.handClipCell_dram c) (s.handClipCell_shrinks c) (by simp)
  · exact (s.popFifo_keepsLaws .lf).trans (State.offerCommand_keepsLaws _ _ _)
  · exact s.popFifo_keepsLaws .lf
  · exact s.popFifo_keepsLaws .lf

/-! The rows of the intakes. -/

section
variable {s t : State} {p : Port}

theorem execHuntCandidate_keepsLaws {b : Byte} (h : execHuntCandidate p b s = .next t) : s.KeepsLaws t := by
  unfold execHuntCandidate at h
  dsimp only at h
  (repeat' split at h) <;> (injection h with h; subst h)
  · exact .setIntake (le_max_right ..)
  · exact .setIntake (le_max_right ..)
  · exact .refl _

theorem execPresyncHeader_keepsLaws {b : List Byte} (h : execPresyncHeader p b s = .next t) : s.KeepsLaws t := by
  unfold execPresyncHeader at h
  dsimp only at h
  (repeat' split at h) <;> (injection h with h; subst h)
  · exact .refl _
  · exact .setIntake (le_max_right ..)
  · exact .setIntake (le_max_right ..)
  · exact .setIntake (le_max_right ..)
  · refine State.KeepsLaws.notifySync ?_ _; rfl
  · exact .refl _

theorem execSyncHeader_keepsLaws {b : List Byte} (h : execSyncHeader p b s = .next t) : s.KeepsLaws t := by
  unfold execSyncHeader at h
  dsimp only at h
  (repeat' split at h) <;> (injection h with h; subst h)
  · exact .refl _
  · exact .setIntake (le_max_right ..)
  · exact .setIntake (le_max_right ..)
  · exact .setIntake (le_max_right ..)
  · refine State.KeepsLaws.notifySync ?_ _; rfl
  · exact .refl _

theorem execCellDelivery_keepsLaws {b : List Byte} (h : execCellDelivery p b s = .next t) : s.KeepsLaws t := by
  unfold execCellDelivery at h
  dsimp only at h
  (repeat' split at h) <;> (injection h with h; subst h)
  · exact .setIntake (le_max_right ..)
  · exact .setIntake (Intake.deliver_fifo _ _ _)
  · exact .refl _
  · exact .refl _

theorem execIntakeHeadHandoff_keepsLaws (h : execIntakeHeadHandoff p s = .next t) : s.KeepsLaws t := by
  unfold execIntakeHeadHandoff at h
  (repeat' split at h) <;> (injection h with h; subst h)
  · exact .refl _
  · exact .refl _
  · exact s.handHead_keepsLaws _ _

/-! The rows of the store and the emitter. -/

theorem execCellStoreAccessEnd_keepsLaws (h : execCellStoreAccessEnd s = .next t) : s.KeepsLaws t := by
  unfold execCellStoreAccessEnd at h
  split at h
  · injection h with h; subst h; exact .refl _
  · rename_i a running
    split at h
    · rename_i present
      injection h with h; subst h
      refine .of_noticed ⟨fun law => law.congr (by simp), fun wf => ?_, fun q => ?_⟩ (by simp [ControlUnit.Noticed.refl])
      · rw [(State.arbitrate_store _).2.2]
        refine s.store.endAccess_wf wf fun b hb => ?_
        obtain rfl : a = b := Option.some.inj (running.symm.trans hb)
        exact present
      · exact (State.arbitrate_shrinks { s with store := s.store.endAccess } q).trans (le_max_right ..)
    · cases h

theorem execEmitterStagingRead_keepsLaws {c : StageChoice} (h : execEmitterStagingRead c s = .next t) : s.KeepsLaws t := by
  unfold execEmitterStagingRead at h
  (repeat' split at h) <;> (injection h with h; subst h)
  · exact .refl _
  · exact .refl _
  · rename_i r _
    exact .of_still (by simp) (by simp)
      (State.arbitrate_shrinks { s with store := { s.store with readWaiting := some r } }) (by simp)

theorem execSlotStart_keepsLaws (h : execSlotStart s = .next t) : s.KeepsLaws t := by
  unfold execSlotStart at h
  split at h <;> (injection h with h; subst h)
  · exact .of_noticed (.of_same (by simp) (by simp) (.of_eq (by simp) (by simp)))
      (State.beginSlot_noticed { s with emitter := { s.emitter with slot := s.emitter.slot + 1 } })
  · exact .refl _

theorem State.armDue_keepsLaws (s : State) : s.KeepsLaws s.armDue :=
  .of_noticed (.of_same (by simp) (by simp) (.of_eq (by simp) (by simp))) s.armDue_splicesTo.noticed

/-! The rows of the clock. -/

theorem State.edgeBoundary_keepsLaws (s : State) : s.KeepsLaws s.edgeBoundary :=
  .of_noticed (.of_same (by simp) (by simp) (.of_eq (by simp) (by simp))) s.edgeBoundary_noticed

theorem execCountedEdge_keepsLaws (h : execCountedEdge s = .next t) : s.KeepsLaws t := by
  unfold execCountedEdge at h
  split at h <;> (injection h with h; subst h)
  · exact .of_noticed (.of_same (by simp) (by simp) (.of_eq (by simp) (by simp)))
      (State.staleAdvance_noticed { s with clock := { s.clock with subsecond := s.clock.subsecond + 1 } })
  · exact s.edgeBoundary_keepsLaws

theorem execSecondBoundary_keepsLaws (h : execSecondBoundary s = .next t) : s.KeepsLaws t := by
  unfold execSecondBoundary at h
  split at h <;> (injection h with h; subst h)
  · exact .refl _
  · exact s.edgeBoundary_keepsLaws

theorem State.notifyClock_keepsLaws (s : State) (c : SiteClock) (b : ClockState) (k : ClockCause) :
    s.KeepsLaws (({ s with clock := c } : State).notifyClock b k) :=
  .of_noticed (.of_same (by simp) (by simp) (.of_eq (by simp) (by simp))) (State.notifyClock_noticed { s with clock := c } b k)

theorem State.takeStep_dram (s : State) (b : ClockState) (e : Int) : (s.takeStep b e).store.dram = s.store.dram := by
  rw [State.takeStep_eq]
  dsimp only
  (repeat' split) <;> simp

theorem State.takeStep_keepsLaws (s : State) (c : SiteClock) (b : ClockState) (e : Int) :
    s.KeepsLaws (({ s with clock := c } : State).takeStep b e) :=
  .of_noticed (.of_same (by simp) (State.takeStep_dram _ _ _) (.of_eq (by simp) (by simp)))
    (State.takeStep_noticed { s with clock := c } b e)

theorem execVerdict_keepsLaws (h : execVerdict s = .next t) : s.KeepsLaws t := by
  unfold execVerdict at h
  dsimp only at h
  (repeat' split at h) <;> (injection h with h; subst h)
  · exact s.notifyClock_keepsLaws _ _ _
  · exact s.takeStep_keepsLaws _ _ _
  · exact .refl _

/-! The rows of the Control Unit. -/

theorem execMonitorCellSent_keepsLaws (h : execMonitorCellSent s = .next t) : s.KeepsLaws t := by
  unfold execMonitorCellSent at h
  split at h <;> (injection h with h; subst h)
  · exact .refl _
  · rename_i cell rest sent
    refine ⟨.of_same rfl rfl (.of_eq rfl rfl), fun law => State.discardForeign_queueLaw law.commands ?_⟩
    have room := law.monitor
    rw [sent, List.length_cons] at room
    exact (Nat.le_succ _).trans room

/-- A command can be taken only where the monitor queue has a free place (R159). -/
theorem State.commandDue_room {c : Command} (h : s.commandDue = some c) : s.control.monitor.length < 16 := by
  unfold State.commandDue at h
  split at h
  · cases h
  · split at h
    · cases h
    · rename_i free
      simp only [Bool.or_eq_true, decide_eq_true_eq, not_or] at free
      exact Nat.lt_of_not_le free.2

theorem execUnknown_keepsLaws (h : execUnknown s = .next t) : s.KeepsLaws t := by
  unfold execUnknown at h
  split at h
  · injection h with h; subst h; exact .refl _
  · rename_i c due
    split at h <;> (injection h with h; subst h)
    · exact .refused c _ (State.commandDue_room due)
    · exact .refl _

theorem State.afterReset_keepsLaws (straps : BitVec 16) (epoch counter : Word32) (draws : Nat) (pending : List Instr) :
    s.KeepsLaws (.afterReset straps epoch counter draws pending) := by
  refine ⟨⟨fun _ => ⟨fun i j _ h => ?_, fun i j _ h => ?_⟩, fun _ => rfl, fun p => ?_⟩, fun _ => ⟨?_, ?_, nofun⟩⟩
  · simp [LaneEntry.output] at h
  · simp [LaneEntry.place] at h
  · cases p <;> exact Nat.zero_le _
  · exact Nat.zero_le _
  · exact Nat.zero_le _

/-- A command's rule that leaves the lane map, the DRAM and the FIFOs as they are. -/
theorem State.takeCommand_keepsLaws_of_same {name : CommandName} {body : Command → State → State}
    (same : ∀ c u, (body c u).laneMap = u.laneMap ∧ (body c u).store.dram = u.store.dram ∧ (body c u).nf.fifo = u.nf.fifo ∧
      (body c u).lf.fifo = u.lf.fifo)
    (answers : ∀ c u, State.Answers u (body c u)) (h : s.takeCommand name body = .next t) : s.KeepsLaws t :=
  State.takeCommand_keepsLaws (fun c u => by
    obtain ⟨lanes, dram, nf, lf⟩ := same c u
    exact .of_same lanes dram (.of_eq nf lf)) answers h

theorem State.KeepsTables.restartBody (c : Command) (u : State) : u.KeepsTables (restartBody c u) := by
  refine ⟨fun law => law.congr (by simp), fun wf => ?_, fun p => ?_⟩
  · simpa [Machine.restartBody] using wf
  · cases p <;> simp [Machine.restartBody, State.intake, State.restartIntakes]

theorem State.KeepsTables.laneMapLoadBody (c : Command) (u : State) : u.KeepsTables (laneMapLoadBody c u) :=
  ⟨fun law => law.laneMapLoadBody c, fun wf => by simpa using wf, fun p => by cases p <;> simp [State.intake]⟩

theorem statsBody_same (c : Command) (u : State) :
    (statsBody c u).laneMap = u.laneMap ∧ (statsBody c u).store.dram = u.store.dram ∧ (statsBody c u).nf.fifo = u.nf.fifo ∧
      (statsBody c u).lf.fifo = u.lf.fifo := by
  unfold statsBody
  (repeat' split) <;> simp [State.clearCounters]

theorem siteSetBody_same (c : Command) (u : State) :
    (siteSetBody c u).laneMap = u.laneMap ∧ (siteSetBody c u).store.dram = u.store.dram ∧
      (siteSetBody c u).nf.fifo = u.nf.fifo ∧ (siteSetBody c u).lf.fifo = u.lf.fifo := by
  unfold siteSetBody
  dsimp only
  split <;> simp

/-! The commands that move extents or end splices leave the DRAM as it is (R93). -/

theorem partitionBody_dram (c : Command) (u : State) : (partitionBody c u).store.dram = u.store.dram := by
  unfold partitionBody
  (repeat' split) <;> simp [State.repartition]

theorem clipCloseBody_dram (c : Command) (u : State) : (clipCloseBody c u).store.dram = u.store.dram := by
  unfold clipCloseBody
  dsimp only
  (repeat' split) <;> simp

theorem clipRemoveBody_dram (c : Command) (u : State) : (clipRemoveBody c u).store.dram = u.store.dram := by
  unfold clipRemoveBody
  dsimp only
  (repeat' split) <;> simp

theorem spliceCancelBody_dram (c : Command) (u : State) : (spliceCancelBody c u).store.dram = u.store.dram := by
  unfold spliceCancelBody
  dsimp only
  (repeat' split) <;> simp

end

/-- Every row keeps the laws of the queues, the lane map and the DRAM. -/
theorem exec_keepsLaws {i : Instr} {s t : State} (h : exec i s = .next t) : s.KeepsLaws t := by
  cases i with
  | fullReset cause straps => cases cause <;> (injection h with h; subst h; exact State.afterReset_keepsLaws _ _ _ _ _)
  | countedEdge => exact execCountedEdge_keepsLaws h
  | epochCounterTick => injection h with h; subst h; exact .of_noticed (.of_same rfl rfl (.of_eq rfl rfl)) ⟨rfl, rfl, id⟩
  | secondBoundary => exact execSecondBoundary_keepsLaws h
  | timeCodeMessage intact n => cases intact <;> (injection h with h; subst h; exact .of_still rfl rfl (.of_eq rfl rfl) rfl)
  | pulse => injection h with h; subst h; exact .of_still rfl rfl (.of_eq rfl rfl) rfl
  | verdict => exact execVerdict_keepsLaws h
  | frequencyLoss => injection h with h; subst h; exact s.notifyClock_keepsLaws _ _ _
  | frequencyReturn => injection h with h; subst h; exact .of_still rfl rfl (.of_eq rfl rfl) rfl
  | huntCandidate p b => exact execHuntCandidate_keepsLaws h
  | presyncHeader p b => exact execPresyncHeader_keepsLaws h
  | syncHeader p b => exact execSyncHeader_keepsLaws h
  | cellDelivery p b => exact execCellDelivery_keepsLaws h
  | intakeHeadHandoff p => exact execIntakeHeadHandoff_keepsLaws h
  | cellStoreAccessEnd => exact execCellStoreAccessEnd_keepsLaws h
  | emitterStagingRead c => exact execEmitterStagingRead_keepsLaws h
  | slotStart => exact execSlotStart_keepsLaws h
  | eventArming => injection h with h; subst h; exact s.armDue_keepsLaws
  | monitorCellSent => exact execMonitorCellSent_keepsLaws h
  | unknown => exact execUnknown_keepsLaws h
  | restart => exact State.takeCommand_keepsLaws State.KeepsTables.restartBody restartBody_answers h
  | laneMapLoad => exact State.takeCommand_keepsLaws State.KeepsTables.laneMapLoadBody laneMapLoadBody_answers h
  | stats => exact State.takeCommand_keepsLaws_of_same statsBody_same statsBody_answers h
  | status => exact State.takeCommand_keepsLaws_of_same (by simp) statusBody_answers h
  | laneMapRead => exact State.takeCommand_keepsLaws_of_same (by simp) laneMapReadBody_answers h
  | groupSet => exact State.takeCommand_keepsLaws_of_same (by simp) groupSetBody_answers h
  | watchSet => exact State.takeCommand_keepsLaws_of_same (by simp) watchSetBody_answers h
  | siteSet => exact State.takeCommand_keepsLaws_of_same siteSetBody_same siteSetBody_answers h
  | clockSet => exact State.takeCommand_keepsLaws_of_same (by simp) clockSetBody_answers h
  | partition => exact State.takeCommand_keepsLaws_of_same (by simp [partitionBody_dram]) partitionBody_answers h
  | emitStart => exact State.takeCommand_keepsLaws_of_same (by simp) emitStartBody_answers h
  | emitStop => exact State.takeCommand_keepsLaws_of_same (by simp) emitStopBody_answers h
  | clipOpen => exact State.takeCommand_keepsLaws_of_same (by simp) clipOpenBody_answers h
  | clipClose => exact State.takeCommand_keepsLaws_of_same (by simp [clipCloseBody_dram]) clipCloseBody_answers h
  | clipRemove => exact State.takeCommand_keepsLaws_of_same (by simp [clipRemoveBody_dram]) clipRemoveBody_answers h
  | clipQuery => exact State.takeCommand_keepsLaws_of_same (by simp) clipQueryBody_answers h
  | spliceAdd => exact State.takeCommand_keepsLaws_of_same (by simp) spliceAddBody_answers h
  | spliceCancel => exact State.takeCommand_keepsLaws_of_same (by simp [spliceCancelBody_dram]) spliceCancelBody_answers h
  | spliceQuery => exact State.takeCommand_keepsLaws_of_same (by simp) spliceQueryBody_answers h

theorem step_keepsLaws {s t : State} (h : step s = .next t) : s.KeepsLaws t := by
  unfold step at h
  split at h
  · injection h with h; subst h; exact .refl _
  · rename_i i rest _
    have taken : s.KeepsLaws { s with pending := rest } := .of_still rfl rfl (.of_eq rfl rfl) rfl
    exact taken.trans (exec_keepsLaws h)

/-- Settles O57: a step runs one row, and every row keeps the three laws. -/
theorem queueLaneAndMemoryLawsAreKept : Obligations.QueueLaneAndMemoryLawsAreKept := by
  refine ⟨fun s t law h => ?_, fun s t law h => (step_keepsLaws h).tables.lanes law,
    fun s t wf h => (step_keepsLaws h).tables.memory wf⟩
  obtain ⟨nf, lf, commands, monitor, head⟩ := law
  obtain ⟨tables, control⟩ := step_keepsLaws h
  obtain ⟨commands, monitor, head⟩ := control ⟨commands, monitor, head⟩
  exact ⟨(tables.fifos .nf).trans (max_le le_rfl nf), (tables.fifos .lf).trans (max_le le_rfl lf), commands, monitor, head⟩

end Sys2Proof.Machine

namespace Sys2Proof.Machine

/-! ### The bits of a header (R20, R168) -/

/-- The field that ends a row of bits. -/
theorem extractLsb'_append_low {a n : Nat} (x : BitVec a) (y : BitVec n) : (x ++ y).extractLsb' 0 n = y := by
  ext i hi
  rw [BitVec.getElem_extractLsb', Nat.zero_add, BitVec.getLsbD_append, if_pos hi, BitVec.getLsbD_eq_getElem]

/-- A field before the last of a row of bits. -/
theorem extractLsb'_append_high {a n : Nat} (x : BitVec a) (y : BitVec n) {k : Nat} (h : n ≤ k) (m : Nat) :
    (x ++ y).extractLsb' k m = x.extractLsb' (k - n) m := by
  ext i hi
  simp [BitVec.getLsbD_append, show ¬k + i < n by omega, show k + i - n = k - n + i by omega]

theorem getLsbD_append_high {a n : Nat} (x : BitVec a) (y : BitVec n) {k : Nat} (h : n ≤ k) :
    (x ++ y).getLsbD k = x.getLsbD (k - n) := by
  simp [BitVec.getLsbD_append, show ¬k < n by omega]

/-- A flag that ends a row of bits. -/
theorem getLsbD_append_ofBool {a : Nat} (x : BitVec a) (b : Bool) : (x ++ BitVec.ofBool b).getLsbD 0 = b := by
  rw [BitVec.getLsbD_append, if_pos Nat.one_pos]
  cases b <;> rfl

theorem kindOfCode_code (k : Kind) : kindOfCode k.code = k := by cases k <;> rfl

theorem code_kindOfCode (c : BitVec 2) : (kindOfCode c).code = c := by revert c; decide

/-- The six bytes of a number joined again. -/
theorem append_extractLsb'_bytes (w : BitVec 48) :
    w.extractLsb' 40 8 ++ w.extractLsb' 32 8 ++ w.extractLsb' 24 8 ++ w.extractLsb' 16 8 ++ w.extractLsb' 8 8 ++
      w.extractLsb' 0 8 = w := by
  ext i hi
  simp only [BitVec.getElem_append, BitVec.getElem_extractLsb']
  grind

theorem headerOfFields_fields (h : Header) : headerOfFields h.fields = h := by
  obtain ⟨lane, kind, start, safe, disc, zero, count, tag, sub⟩ := h
  simp only [headerOfFields, Header.fields, flagBit, extractLsb'_append_low, extractLsb'_append_high, getLsbD_append_high,
    getLsbD_append_ofBool, Nat.reduceLeDiff, Nat.reduceSub, BitVec.extractLsb'_eq_self, kindOfCode_code]

theorem fields_headerOfFields (w : BitVec 48) : (headerOfFields w).fields = w := by
  unfold Header.fields headerOfFields
  simp only [code_kindOfCode]
  ext i hi
  simp only [BitVec.getElem_append, BitVec.getElem_extractLsb', flagBit]
  grind

theorem readHeader_bytes (h : Header) : readHeader h.bytes = some h := by
  have read : readHeader h.bytes = some (headerOfFields (h.fields.extractLsb' 40 8 ++ h.fields.extractLsb' 32 8 ++
      h.fields.extractLsb' 24 8 ++ h.fields.extractLsb' 16 8 ++ h.fields.extractLsb' 8 8 ++ h.fields.extractLsb' 0 8)) :=
    if_pos ⟨rfl, rfl⟩
  rw [read, append_extractLsb'_bytes, headerOfFields_fields]

/-- Bytes that are a good header carry the fields of the header they read as. -/
theorem readHeader_cases {bytes : List Byte} {h : Header} (hread : readHeader bytes = some h) :
    ∃ b1 b2 b3 b4 b5 b6 : Byte, bytes = [markerByte, b1, b2, b3, b4, b5, b6,
      headerCheck [markerByte, b1, b2, b3, b4, b5, b6]] ∧ h = headerOfFields (b1 ++ b2 ++ b3 ++ b4 ++ b5 ++ b6) := by
  unfold readHeader at hread
  split at hread
  · split at hread
    · rename_i good
      obtain ⟨rfl, rfl⟩ := good
      exact ⟨_, _, _, _, _, _, rfl, (Option.some.inj hread).symm⟩
    · cases hread
  · cases hread

theorem bytes_of_readHeader {bytes : List Byte} {h : Header} (hread : readHeader bytes = some h) : h.bytes = bytes := by
  obtain ⟨b1, b2, b3, b4, b5, b6, rfl, rfl⟩ := readHeader_cases hread
  have seven : (headerOfFields (b1 ++ b2 ++ b3 ++ b4 ++ b5 ++ b6)).firstSeven = [markerByte, b1, b2, b3, b4, b5, b6] := by
    unfold Header.firstSeven
    rw [fields_headerOfFields]
    simp only [extractLsb'_append_low, extractLsb'_append_high, Nat.reduceLeDiff, Nat.reduceSub, BitVec.extractLsb'_eq_self]
  unfold Header.bytes
  rw [seven]
  rfl

/-- A good header is one that reads as a header (R20). -/
theorem goodHeader_iff_readHeader (w : List Byte) : goodHeader w ↔ ∃ h, readHeader w = some h := by
  refine ⟨fun ⟨hlength, hmarker, hcheck⟩ => ?_, fun ⟨h, hread⟩ => ?_⟩
  · match w, hlength with
    | [b0, b1, b2, b3, b4, b5, b6, b7], _ =>
      exact ⟨_, if_pos ⟨Option.some.inj hmarker, Option.some.inj hcheck⟩⟩
  · obtain ⟨b1, b2, b3, b4, b5, b6, rfl, -⟩ := readHeader_cases hread
    exact ⟨rfl, rfl, rfl⟩

/-- Settles O51: a header's fields, joined and split at the same bits, are what its bytes carry. -/
theorem headersRoundTrip : Obligations.HeadersRoundTrip :=
  ⟨readHeader_bytes, fun _ _ => bytes_of_readHeader, goodHeader_iff_readHeader⟩

end Sys2Proof.Machine

namespace Sys2Proof.Machine

/-! ### Bytes taken and headers judged (R19 to R24) -/

/-- Bytes that are no good header read as none. -/
theorem readHeader_eq_none {w : List Byte} (h : ¬goodHeader w) : readHeader w = none :=
  Option.eq_none_iff_forall_ne_some.2 fun x hx => h ((goodHeader_iff_readHeader w).2 ⟨x, hx⟩)

theorem Intake.takeBytes_eq (x : Intake) (bytes : List Byte) :
    x.takeBytes bytes = { x with window := lastEight (x.window ++ bytes), taken := x.taken + bytes.length } := rfl

section
variable {x : Intake} {bytes : List Byte} {e : Nat}

theorem Intake.headerReach_short (he : x.expected = some e) (h : x.taken + bytes.length < e + 8) :
    x.headerReach bytes = some false := by
  simp [Intake.headerReach, he, h.le, h.ne]

theorem Intake.headerReach_whole (he : x.expected = some e) (h : x.taken + bytes.length = e + 8) :
    x.headerReach bytes = some true := by
  simp [Intake.headerReach, he, h]

end

/-- A SYNC notice behind a change of an intake: the intake has its new value, and the notice reports it (R24). -/
theorem State.notifySync_setIntake (s : State) (p : Port) (x : Intake) (c : SyncCause) :
    let t := (s.setIntake p x).notifySync p c
    t.intake p = x ∧
    t = { s.setIntake p (t.intake p) with
      control := s.control.withNotice s.clock .sync (t.syncNoticeData p c) } := by
  unfold State.notifySync
  rw [State.notify_eq]
  cases p <;> exact ⟨rfl, rfl⟩

/-- Settles O17, by whether the candidate reads as a header. -/
theorem huntJudgesEveryPosition : Obligations.HuntJudgesEveryPosition := by
  intro s p b hunt
  refine ⟨fun good => ?_, fun bad => ?_⟩ <;> show execHuntCandidate p b s = _ <;> unfold execHuntCandidate <;> rw [if_pos hunt]
  · obtain ⟨h, hread⟩ := (goodHeader_iff_readHeader _).1 good
    simp only [Intake.takeBytes_eq, hread, List.length_singleton]
  · simp only [Intake.takeBytes_eq, readHeader_eq_none bad, List.length_singleton]

section
variable {s : State} {p : Port} {bytes : List Byte} {e : Nat}

/-! What PRESYNC_HEADER does once the bytes taken reach the end of the expected header (R22). -/

section
variable (hpre : (s.intake p).delineation = .presync) (he : (s.intake p).expected = some e)
  (h : (s.intake p).taken + bytes.length = e + 8)
include hpre he h

theorem execPresyncHeader_bad (hread : readHeader (lastEight ((s.intake p).window ++ bytes)) = none) :
    execPresyncHeader p bytes s = .next (s.setIntake p ((s.intake p).takeBytes bytes).toHunt) := by
  unfold execPresyncHeader
  rw [if_pos hpre, Intake.headerReach_whole he h]
  simp only [Intake.takeBytes_eq, hread]

theorem execPresyncHeader_good {header : Header}
    (hread : readHeader (lastEight ((s.intake p).window ++ bytes)) = some header) :
    execPresyncHeader p bytes s =
      if (s.intake p).presyncCount = some 1 then
        .next (s.setIntake p { (s.intake p).takeBytes bytes with presyncCount := some 2, expected := some (e + 136) })
      else
        .next ((s.setIntake p { (s.intake p).takeBytes bytes with
          delineation := .sync
          presyncCount := none
          badRun := 0
          expected := some (e + 136)
          inProgress := some ⟨header, []⟩ }).notifySync p .gained) := by
  unfold execPresyncHeader
  rw [if_pos hpre, Intake.headerReach_whole he h]
  simp only [Intake.takeBytes_eq, hread, h, Nat.add_assoc, Nat.reduceAdd]

end

/-! What SYNC_HEADER does once the bytes taken reach the end of the expected header (R23). -/

section
variable (hsync : (s.intake p).delineation = .sync) (hnone : (s.intake p).inProgress = none)
  (he : (s.intake p).expected = some e) (h : (s.intake p).taken + bytes.length = e + 8)
include hsync hnone he h

theorem execSyncHeader_good {header : Header}
    (hread : readHeader (lastEight ((s.intake p).window ++ bytes)) = some header) :
    execSyncHeader p bytes s = .next (s.setIntake p { (s.intake p).takeBytes bytes with
      badRun := 0, inProgress := some ⟨header, []⟩, expected := some (e + 136) }) := by
  unfold execSyncHeader
  rw [if_pos ⟨hsync, hnone⟩, Intake.headerReach_whole he h]
  simp only [Intake.takeBytes_eq, hread, h, Nat.add_assoc, Nat.reduceAdd]

theorem execSyncHeader_bad (hread : readHeader (lastEight ((s.intake p).window ++ bytes)) = none) :
    let counted := ((s.intake p).takeBytes bytes).count (fun c => { c with headerErrors := satAdd c.headerErrors 1 })
    execSyncHeader p bytes s =
      if (s.intake p).badRun < 2 then
        .next (s.setIntake p { counted with badRun := (s.intake p).badRun + 1, expected := some (e + 136) })
      else
        .next ((s.setIntake p
          (counted.count (fun c => { c with syncLosses := satAdd c.syncLosses 1 })).toHunt).notifySync p .lost) := by
  unfold execSyncHeader
  rw [if_pos ⟨hsync, hnone⟩, Intake.headerReach_whole he h]
  simp only [Intake.takeBytes_eq, hread, h, Nat.add_assoc, Nat.reduceAdd]

end

end

/-- Settles O18, by how far the bytes reach and how the header reads. -/
theorem presyncConfirmsOrReturnsToHunt : Obligations.PresyncConfirmsOrReturnsToHunt := by
  intro s p bytes e hpre he w x
  refine ⟨fun short => ?_, fun whole => ⟨fun bad => ?_, fun good one => ?_, fun good two => ?_⟩⟩
  · show execPresyncHeader p bytes s = _
    unfold execPresyncHeader
    rw [if_pos hpre, Intake.headerReach_short he short, Intake.takeBytes_eq]
  · exact execPresyncHeader_bad hpre he whole (readHeader_eq_none bad)
  · obtain ⟨h, hread⟩ := (goodHeader_iff_readHeader _).1 good
    exact (execPresyncHeader_good hpre he whole hread).trans (if_pos one)
  · obtain ⟨h, hread⟩ := (goodHeader_iff_readHeader _).1 good
    exact ⟨_, h, (execPresyncHeader_good hpre he whole hread).trans (if_neg (by rw [two]; decide)), hread,
      s.notifySync_setIntake p _ .gained⟩

/-- Settles O19, by how far the bytes reach, how the header reads and the bad headers before it. -/
theorem syncJudgesExpectedHeaders : Obligations.SyncJudgesExpectedHeaders := by
  intro s p bytes e hsync hnone he w x c
  refine ⟨fun short => ?_, fun whole => ⟨fun good => ?_, fun bad few => ?_, fun bad third => ?_⟩⟩
  · show execSyncHeader p bytes s = _
    unfold execSyncHeader
    rw [if_pos ⟨hsync, hnone⟩, Intake.headerReach_short he short, Intake.takeBytes_eq]
  · obtain ⟨h, hread⟩ := (goodHeader_iff_readHeader _).1 good
    exact ⟨h, hread, execSyncHeader_good hsync hnone he whole hread⟩
  · exact (execSyncHeader_bad hsync hnone he whole (readHeader_eq_none bad)).trans (if_pos (Nat.lt_succ_of_le few))
  · exact ⟨_, (execSyncHeader_bad hsync hnone he whole (readHeader_eq_none bad)).trans (if_neg (by rw [third]; decide)),
      s.notifySync_setIntake p _ .lost⟩

/-- A delivered cell meets the checks of R25 in their order, then FILL and the FIFO's places (R26, R27). -/
theorem Intake.deliver_eq (x : Intake) (p : Port) (cell : Cell) :
    let h := cell.header
    let c : PortCounters := { x.counters with goodCells := satAdd x.counters.goodCells 1 }
    x.deliver p cell =
      if (h.kind = .data ∧ (h.lane = 1022 ∨ h.lane = 1023)) ∨ (h.kind = .control ∧ h.lane ≠ 1023) ∨
          (h.kind = .timing ∧ h.lane ≠ 1022) then
        { x with counters := { c with kindLane := satAdd c.kindLane 1 } }
      else if p = .lf ∧ h.kind = .timing then
        { x with counters := { c with kindNotPermitted := satAdd c.kindNotPermitted 1 } }
      else if (h.kind = .data ∨ h.kind = .timing) ∧ 10000000 ≤ h.sub.toNat then
        { x with counters := { c with badStamps := satAdd c.badStamps 1 } }
      else if h.kind = .fill then { x with counters := c }
      else if 32 ≤ x.fifo.length then { x with counters := { c with overflows := satAdd c.overflows 1 } }
      else { x with counters := c, fifo := x.fifo ++ [cell] } := by
  intro h c
  have mismatch : h.kindLaneMismatch = true ↔ (h.kind = .data ∧ (h.lane = 1022 ∨ h.lane = 1023)) ∨
      (h.kind = .control ∧ h.lane ≠ 1023) ∨ (h.kind = .timing ∧ h.lane ≠ 1022) := by
    unfold Header.kindLaneMismatch
    cases h.kind <;> simp
  have stamp : h.badStamp = true ↔ (h.kind = .data ∨ h.kind = .timing) ∧ 10000000 ≤ h.sub.toNat := by
    unfold Header.badStamp
    cases h.kind <;> simp
  simp only [← mismatch, ← stamp]
  rfl

/-- What CELL_DELIVERY does with a cell in progress, by the length its payload reaches (R23). -/
theorem execCellDelivery_inProgress {s : State} {p : Port} {cell : Cell} (bytes : List Byte)
    (hsync : (s.intake p).delineation = .sync) (hcell : (s.intake p).inProgress = some cell) :
    let whole : Cell := { cell with payload := cell.payload ++ bytes }
    let x := (s.intake p).takeBytes bytes
    execCellDelivery p bytes s =
      if whole.payload.length < 128 then .next (s.setIntake p { x with inProgress := some whole })
      else if whole.payload.length = 128 then .next (s.setIntake p (({ x with inProgress := none } : Intake).deliver p whole))
      else .next s := by
  unfold execCellDelivery
  rw [hsync, hcell]

/-- Settles O20: the last payload byte delivers the cell. -/
theorem deliveryChecksInOrder : Obligations.DeliveryChecksInOrder := by
  intro s p bytes cell hsync hcell x whole h c
  have row : exec (.cellDelivery p bytes) s = _ := execCellDelivery_inProgress bytes hsync hcell
  refine ⟨fun short => row.trans (if_pos short), fun full => ?_⟩
  rw [row, if_neg full.not_lt, if_pos full, Intake.deliver_eq]
  rfl

end Sys2Proof.Machine

namespace Sys2Proof.Machine

/-! ### Heads that are handed on (R28 to R32) -/

section
variable {s : State} {p : Port} {cell : Cell} {rest : List Cell}

/-- The cell at the head is handed to its block, unless it waits for its grant (R28). -/
theorem execIntakeHeadHandoff_head (h : (s.intake p).fifo = cell :: rest) (hw : s.headWaits p = false) :
    execIntakeHeadHandoff p s = .next (s.handHead p cell) := by
  simp [execIntakeHeadHandoff, h, hw]

theorem State.popFifo_head (h : (s.intake p).fifo = cell :: rest) :
    s.popFifo p = s.setIntake p { s.intake p with fifo := rest } := by
  simp [State.popFifo, h]

/-- A CONTROL cell goes to the command queue, on either port (R30, R31). -/
theorem State.handHead_control (hk : cell.header.kind = .control) :
    s.handHead p cell = (s.popFifo p).offerCommand (if p = .nf then .network else .localFeed) cell := by
  cases p <;> simp [State.handHead, hk]

theorem State.handHead_networkData (hk : cell.header.kind = .data) : s.handHead .nf cell = s.handData cell := by
  simp [State.handHead, hk]

theorem State.handHead_localData (hk : cell.header.kind = .data) : s.handHead .lf cell = s.handClipCell cell := by
  simp [State.handHead, hk]

end

/-- A command that finds a free place joins the queue; what is foreign then leaves the head (R32, R158). -/
theorem State.offerCommand_free {s : State} (h : s.control.queue.length < 8) (o : Origin) (cell : Cell) :
    s.offerCommand o cell = { s with control := { s.control with
      queue := (s.control.queue ++ [({ origin := o, payload := cell.payload } : Command)]).dropWhile s.control.foreign } } :=
  if_pos h

/-- A command that finds no place is dropped and counted (R32). -/
theorem State.offerCommand_full {s : State} (h : 8 ≤ s.control.queue.length) (o : Origin) (cell : Cell) :
    s.offerCommand o cell =
      { s with control := { s.control with controlDrops := satAdd s.control.controlDrops 1 } } :=
  if_neg (Nat.not_lt.2 h)

theorem controlHead_offered {s : State} {p : Port} {cell : Cell} {rest : List Cell} (hfifo : (s.intake p).fifo = cell :: rest)
    (hk : cell.header.kind = .control) (hw : s.headWaits p = false) :
    exec (.intakeHeadHandoff p) s = .next ((s.setIntake p { s.intake p with fifo := rest }).offerCommand
      (if p = .nf then .network else .localFeed) cell) :=
  (execIntakeHeadHandoff_head hfifo hw).trans (by rw [State.handHead_control hk, State.popFifo_head hfifo])

/-- A local DATA cell whose lane names clip and member waits with its write while the store is busy (R106, R108). -/
theorem State.handClipCell_inRange {s : State} {cell : Cell} (h : cell.header.lane.toNat < 256) {a : Access}
    (hbusy : s.store.access = some a) :
    s.handClipCell cell = { s with store := { s.store with
      lfWaiting := some ⟨cell.header.lane.toNat % 64, cell.header.lane.toNat / 64, cell⟩ } } := by
  unfold State.handClipCell
  rw [if_pos h]
  exact State.arbitrate_busy (a := a) hbusy

/-- Settles O24, by the room of the command queue and by the lane of a local DATA cell. -/
theorem otherHeadsAreHandedOn : Obligations.OtherHeadsAreHandedOn := by
  refine ⟨fun s p cell rest hfifo hk hnf hlf => ?_, fun s cell rest hfifo hk hlf => ?_⟩
  · have free : s.headWaits p = false := by cases p <;> simp [State.headWaits, hnf, hlf]
    refine ⟨_, controlHead_offered hfifo hk free, ?_⟩
    have control : (s.setIntake p { s.intake p with fifo := rest }).control = s.control := by simp
    by_cases room : s.control.queue.length < 8
    · rw [State.offerCommand_free (control ▸ room), control]
      exact ⟨rfl, fun _ => rfl, fun full => absurd room (Nat.not_lt.2 full)⟩
    · rw [State.offerCommand_full (control ▸ Nat.le_of_not_lt room), control]
      exact ⟨rfl, fun free => absurd free room, fun _ => rfl⟩
  · have free : s.headWaits .lf = false := by simp [State.headWaits, hlf]
    have handed : exec (.intakeHeadHandoff .lf) s = .next (s.handClipCell cell) :=
      (execIntakeHeadHandoff_head (p := .lf) hfifo free).trans (by rw [State.handHead_localData hk])
    refine ⟨fun beyond => handed.trans (congrArg _ ?_), fun clip member hclip hlane hmember hbusy => handed.trans (congrArg _ ?_)⟩
    · unfold State.handClipCell
      rw [if_neg (Nat.not_lt.2 beyond), State.popFifo_head (p := .lf) hfifo]
      rfl
    · obtain ⟨a, ha⟩ := Option.ne_none_iff_exists'.1 hbusy
      have position : cell.header.lane.toNat % 64 = clip ∧ cell.header.lane.toNat / 64 = member := by omega
      rw [State.handClipCell_inRange (by omega) ha, position.1, position.2]

end Sys2Proof.Machine

namespace Sys2Proof.Machine

/-! ### A network DATA cell at the head (R29, R37, R50) -/

/-- A table changed row by row reads as the changed row, where the change leaves the default as it is. -/
theorem rowAt_map {α : Type} {n : Nat} (v : Vector α n) (f : α → α) (i : Nat) {d : α} (hd : f d = d) :
    rowAt (v.map f) i d = f (rowAt v i d) := by
  unfold rowAt
  by_cases hi : i < n <;> simp [hi, hd]

/-- What the watch list counts for one lane (R48, R50). -/
theorem State.watchAt_watchLane (s : State) (lane : Nat) (f : WatchEntry → WatchEntry) (n : Nat) :
    (s.watchLane lane f).watchAt n = if (s.watchAt n).lane = some lane then f (s.watchAt n) else s.watchAt n :=
  rowAt_map s.watch (fun w : WatchEntry => if w.lane = some lane then f w else w) n (if_neg fun h => nomatch h)

@[simp] theorem WatchEntry.afterCell_lane (w : WatchEntry) (lane : Nat) (e d : Bool) : (w.afterCell lane e d).lane = w.lane := by
  unfold WatchEntry.afterCell; split <;> rfl

/-- A discard behind the arrival and the continuity test (R50). -/
theorem WatchEntry.afterCell_addDiscarded (w : WatchEntry) (lane : Nat) (e : Bool) :
    (if (w.afterCell lane e false).lane = some lane then (w.afterCell lane e false).addDiscarded else w.afterCell lane e false) =
      w.afterCell lane e true := by
  rw [WatchEntry.afterCell_lane]
  unfold WatchEntry.afterCell
  by_cases h : w.lane = some lane <;> simp [h, WatchEntry.addDiscarded]

/-- The state once the continuity test of a DATA cell at the head has been made, with its outcome, and the watch list has heard of
the cell. -/
def State.tested (s : State) (h : Header) (error : Bool) : State :=
  { s with
    nf := { s.nf with counters := { s.nf.counters with
      continuityErrors := if error then satAdd s.nf.counters.continuityErrors 1 else s.nf.counters.continuityErrors } }
    continuity := setRow s.continuity h.lane.toNat (some h.count)
    watch := s.watch.map (fun w => w.afterCell h.lane.toNat error false) }

theorem State.watchAt_tested (s : State) (h : Header) (error : Bool) (n : Nat) :
    (s.tested h error).watchAt n = (s.watchAt n).afterCell h.lane.toNat error false :=
  rowAt_map _ _ n (if_neg nofun)

theorem continuityError_iff (entry : Option (BitVec 6)) (h : Header) :
    continuityError entry h = true ↔ ∃ c, entry = some c ∧ h.disc = false ∧ h.count ≠ c + 1 := by
  cases entry <;> simp [continuityError]

theorem State.testContinuity_eq (s : State) (h : Header) {error : Bool}
    (he : error = true ↔ ∃ c, rowAt s.continuity h.lane.toNat none = some c ∧ h.disc = false ∧ h.count ≠ c + 1) :
    s.testContinuity h = s.tested h error := by
  obtain rfl : error = continuityError (rowAt s.continuity h.lane.toNat none) h :=
    Bool.eq_iff_iff.2 (he.trans (continuityError_iff _ _).symm)
  unfold State.testContinuity State.tested State.watchLane State.countNf
  dsimp only
  split <;> rename_i hcase <;> simp only [hcase, Vector.map_map, State.mk.injEq, true_and, and_true]
  · refine congrArg (Vector.map · s.watch) (funext fun w => ?_)
    simp only [Function.comp_apply, WatchEntry.afterCell]
    by_cases hw : w.lane = some h.lane.toNat <;> simp [hw, WatchEntry.addArrived, WatchEntry.addContError]
  · refine congrArg (Vector.map · s.watch) (funext fun w => ?_)
    simp [WatchEntry.afterCell, WatchEntry.addArrived]

/-- The state once a tested cell has left the head and has been reported as discarded. -/
theorem State.watchAt_discarded {s u : State} {h : Header} {error : Bool} (hu : u.watch = (s.tested h error).watch) (n : Nat) :
    (u.watchLane h.lane.toNat WatchEntry.addDiscarded).watchAt n = (s.watchAt n).afterCell h.lane.toNat error true := by
  have heard : u.watchAt n = (s.watchAt n).afterCell h.lane.toNat error false := by
    rw [← State.watchAt_tested]
    unfold State.watchAt
    rw [hu]
  rw [State.watchAt_watchLane, heard, WatchEntry.afterCell_addDiscarded]

theorem State.classify_notRunning {s : State} (h : s.emitter.state ≠ .running) (cell : Cell) (o : Nat) (p : Option GroupPlace) :
    s.classify cell o p = ((s.popFifo .nf).countEm (fun c => { c with notRunning := satAdd c.notRunning 1 })).watchLane
      cell.header.lane.toNat WatchEntry.addDiscarded := if_neg h

section
variable {s : State} {cell : Cell}

theorem State.handData_drop (h : s.laneEntry cell.header.lane.toNat = .drop) :
    s.handData cell = (((s.testContinuity cell.header).popFifo .nf).countNf
      (fun c => { c with notMapped := satAdd c.notMapped 1 })).watchLane cell.header.lane.toNat WatchEntry.addDiscarded := by
  simp [State.handData, h]

/-- A PASS or MEMBER lane classifies the cell with its output lane and place (R37). -/
theorem State.handData_mapped {output : Nat} (h : (s.laneEntry cell.header.lane.toNat).output = some output) :
    s.handData cell =
      (s.testContinuity cell.header).classify cell output (s.laneEntry cell.header.lane.toNat).place := by
  unfold State.handData
  dsimp only
  split <;> rename_i he <;> rw [he] at h ⊢ <;> cases h <;> rfl

theorem LaneEntry.output_of_ne_drop {e : LaneEntry} (h : e ≠ .drop) : ∃ o, e.output = some o := by
  cases e with
  | drop => exact absurd rfl h
  | pass o => exact ⟨o, rfl⟩
  | member o g m => exact ⟨o, rfl⟩

/-- The hand-off of a network DATA cell, once the continuity test has an outcome (R28, R29). -/
theorem networkData_handed {rest : List Cell} (hfifo : s.nf.fifo = cell :: rest) (hk : cell.header.kind = .data)
    (hw : s.store.nfWaiting = none) : exec (.intakeHeadHandoff .nf) s = .next (s.handData cell) :=
  (execIntakeHeadHandoff_head (p := .nf) hfifo (by simp [State.headWaits, hw])).trans
    (congrArg _ (State.handHead_networkData hk))

end

/-- Settles O21, by whether the lane is mapped. -/
theorem networkDataNotQueued : Obligations.NetworkDataNotQueued := by
  intro s cell rest entry error hfifo hk hw hentry herror hnot
  refine ⟨_, networkData_handed hfifo hk hw, ?_⟩
  obtain rfl : rest = s.nf.fifo.tail := by rw [hfifo]; rfl
  have tested := s.testContinuity_eq cell.header herror
  by_cases hdrop : entry = .drop
  · rw [State.handData_drop (hentry.trans hdrop), tested]
    refine ⟨?_, State.watchAt_discarded (by simp)⟩
    simp only [if_pos hdrop]
    rfl
  · obtain ⟨output, mapped⟩ := LaneEntry.output_of_ne_drop hdrop
    rw [State.handData_mapped (hentry ▸ mapped), tested,
      State.classify_notRunning (s := s.tested cell.header error) (hnot.resolve_left hdrop)]
    refine ⟨?_, State.watchAt_discarded (by simp)⟩
    simp only [if_neg hdrop]
    rfl

/-! ### A network DATA cell forms its record (R38, R64 to R69, R72, R73) -/

/-- The nominal time and the target, with the plans in force for the release second and the emission second (R64 to R69). -/
theorem State.emissionArithmetic_inForce {s : State} {tag : BitVec 2} {sub : Nat} {p q : Plan}
    (hp : s.plan.inForce (releaseSecond tag s.clock.second) = some p)
    (hq : s.plan.inForce ((nominalTime (releaseSecond tag s.clock.second) sub p.hold).shift s.plan.trim).sec = some q) :
    s.emissionArithmetic tag sub =
      some (nominalTime (releaseSecond tag s.clock.second) sub p.hold,
        targetSlot ((nominalTime (releaseSecond tag s.clock.second) sub p.hold).shift s.plan.trim) q.slots) := by
  unfold State.emissionArithmetic
  simp only [hp, hq]

/-- The record a cell forms with its nominal time and target (R38, R72). -/
def Cell.record (cell : Cell) (output : Nat) (place : Option GroupPlace) (n : Time) (t : SlotTime) : Record :=
  { inLane := cell.header.lane.toNat, outLane := output, place := place, nominal := n, target := t,
    start := cell.header.start, safe := cell.header.safe, disc := cell.header.disc, payload := cell.payload }

/-- The state with the write of a record waiting for the store (R102). -/
def State.requestNf (s : State) (r : Record) : State := { s with store := { s.store with nfWaiting := some r } }

theorem State.classify_running {s : State} (h : s.emitter.state = .running) {cell : Cell} {n : Time} {t : SlotTime}
    (ha : s.emissionArithmetic cell.header.tag cell.header.sub.toNat = some (n, t)) (o : Nat) (p : Option GroupPlace) :
    s.classify cell o p = (s.requestNf (cell.record o p n t)).arbitrate := by
  unfold State.classify
  dsimp only
  rw [if_pos h, ha]
  rfl

theorem State.arbitrate_requestNf_busy {s : State} (h : s.store.access ≠ none) (r : Record) :
    (s.requestNf r).arbitrate = s.requestNf r := by
  obtain ⟨a, ha⟩ := Option.ne_none_iff_exists'.1 h
  exact State.arbitrate_busy (a := a) ha

/-- With the store idle and nothing else waiting the Network Intake's write is granted as it is requested (R102). -/
theorem State.arbitrate_requestNf_idle {s : State} (hidle : s.store.access = none) (hr : s.store.readWaiting = none)
    (hl : s.store.lfWaiting = none) (r : Record) : (s.requestNf r).arbitrate = s.grantNf r := by
  rw [State.arbitrate_nf (s := s.requestNf r) hidle hr rfl, show (s.requestNf r).store.lfWaiting = none from hl]
  cases ((s.requestNf r).grantNf r).store.access <;> rfl

theorem CellStore.withdraw_eq {c : CellStore} (h : c.nfWaiting = none) : { c with nfWaiting := none } = c := by
  cases c
  cases h
  rfl

section
variable {s : State} (hw : s.store.nfWaiting = none) (hrun : s.emitter.state = .running) (r : Record)
include hw hrun

/-- A full queue discards the record (R73). -/
theorem State.grantNf_full (hfull : s.store.capacity ≤ s.queue.length) :
    s.grantNf r = ((s.popFifo .nf).countEm (fun c => { c with queueFull := satAdd c.queueFull 1 })).watchLane r.inLane
      WatchEntry.addDiscarded := by
  unfold State.grantNf
  dsimp only
  rw [if_neg (not_not_intro hrun), if_pos hfull, CellStore.withdraw_eq hw]

/-- A queue with a free place takes the record (R73). -/
theorem State.grantNf_joins (hroom : s.queue.length < s.store.capacity) : s.grantNf r = (s.popFifo .nf).joinQueue r := by
  unfold State.grantNf
  dsimp only
  rw [if_neg (not_not_intro hrun), if_neg (Nat.not_le.2 hroom), CellStore.withdraw_eq hw]

end

/-- A record whose target is earlier than the tail's takes the tail's, and is counted (R73). -/
theorem State.joinQueue_clamped {s : State} {r last : Record} (hlast : s.queue.getLast? = some last)
    (h : r.target.earlier last.target = true) :
    clampTo s.queue r = { r with target := last.target } ∧
    (s.joinQueue r).emitter = { s.emitter with counters := { s.emitter.counters with
      orderClamps := satAdd s.emitter.counters.orderClamps 1 } } := by
  have needed : clampNeeded s.queue r = true := by simp [clampNeeded, hlast, h]
  refine ⟨by simp [clampTo, hlast, h], ?_⟩
  unfold State.joinQueue
  dsimp only
  rw [if_pos needed]
  rfl

/-- Any other record keeps its target (R73). -/
theorem State.joinQueue_kept {s : State} {r : Record}
    (h : ∀ last, s.queue.getLast? = some last → r.target.earlier last.target = false) :
    clampTo s.queue r = r ∧ (s.joinQueue r).emitter = s.emitter := by
  unfold State.joinQueue clampTo clampNeeded
  cases hlast : s.queue.getLast? with
  | none => exact ⟨rfl, rfl⟩
  | some last => simp [h last hlast, State.watchLane]

theorem State.watchAt_joinQueue (s : State) (r : Record) (n : Nat) :
    (s.joinQueue r).watchAt n =
      if (s.watchAt n).lane = some r.inLane then (s.watchAt n).addQueued else s.watchAt n := by
  have heard : (s.joinQueue r).watch = (s.watchLane r.inLane WatchEntry.addQueued).watch := by
    unfold State.joinQueue State.watchLane
    dsimp only
    split <;> rfl
  rw [← State.watchAt_watchLane]
  unfold State.watchAt
  rw [heard]

theorem State.grantNf_counters (s : State) (r : Record) : (s.grantNf r).nf.counters = s.nf.counters := by
  unfold State.grantNf
  (repeat' split) <;> simp [State.popFifo, State.setIntake, State.intake]

theorem State.grantLf_counters (s : State) (w : ClipWrite) : (s.grantLf w).nf.counters = s.nf.counters := by
  unfold State.grantLf
  dsimp only
  (repeat' split) <;> simp [State.popFifo, State.setIntake]

/-- No grant changes what the Network Intake counted (R33). -/
theorem State.arbitrate_counters (s : State) : s.arbitrate.nf.counters = s.nf.counters := by
  cases ha : s.store.access with
  | some a => rw [State.arbitrate_busy ha]
  | none =>
    cases hr : s.store.readWaiting with
    | some r => rw [State.arbitrate_read ha hr]
    | none =>
      cases hn : s.store.nfWaiting with
      | some r =>
        rw [State.arbitrate_nf ha hr hn]
        split
        · rw [State.grantLf_counters, State.grantNf_counters]
        · rw [State.grantNf_counters]
      | none =>
        cases hl : s.store.lfWaiting with
        | some w => rw [State.arbitrate_lf ha hr hn hl, State.grantLf_counters]
        | none => rw [State.arbitrate_idle ha hr hn hl]

theorem State.grantNf_fifo (s : State) (r : Record) : (s.grantNf r).nf.fifo = s.nf.fifo.tail := by
  unfold State.grantNf
  (repeat' split) <;> simp [State.popFifo, State.setIntake, State.intake]

/-- The watch list hears of a tested cell whose record joins the queue (R50). -/
theorem State.watchAt_queued (s : State) (h : Header) (error : Bool) (r : Record) (hr : r.inLane = h.lane.toNat) (n : Nat) :
    (((s.tested h error).popFifo .nf).joinQueue r).watchAt n =
      if (s.watchAt n).lane = some r.inLane then
        { (s.watchAt n).afterCell r.inLane error false with queued := satAdd (s.watchAt n).queued 1 }
      else s.watchAt n := by
  have heard : ((s.tested h error).popFifo .nf).watchAt n = (s.watchAt n).afterCell r.inLane error false :=
    hr ▸ s.watchAt_tested h error n
  rw [State.watchAt_joinQueue, heard, WatchEntry.afterCell_lane]
  unfold WatchEntry.afterCell
  split <;> rfl

/-- Settles O22, by whether the store is busy and whether the queue is full. -/
theorem networkDataFormsARecord : Obligations.NetworkDataFormsARecord := by
  intro s cell rest output place p q error hfifo hk hw hrun hout hplace herror hp n e hq r
  have handed : exec (.intakeHeadHandoff .nf) s = .next ((s.tested cell.header error).requestNf r).arbitrate := by
    rw [networkData_handed hfifo hk hw, State.handData_mapped hout, hplace, s.testContinuity_eq cell.header herror,
      State.classify_running (s := s.tested cell.header error) hrun (State.emissionArithmetic_inForce hp hq)]
    rfl
  refine ⟨_, handed, (State.arbitrate_frame _).2.2.1, State.arbitrate_counters _, fun hbusy => ?_, fun hidle hread hlocal => ?_⟩
  · rw [State.arbitrate_requestNf_busy (s := s.tested cell.header error) hbusy]
    exact ⟨hfifo, rfl, rfl, rfl, s.watchAt_tested cell.header error⟩
  · rw [State.arbitrate_requestNf_idle (s := s.tested cell.header error) hidle hread hlocal]
    refine ⟨(State.grantNf_fifo _ r).trans (congrArg List.tail hfifo), fun full => ?_, fun room => ?_⟩
    · rw [State.grantNf_full (s := s.tested cell.header error) hw hrun r full]
      exact ⟨rfl, rfl, rfl, State.watchAt_discarded (h := cell.header) (by simp)⟩
    · rw [State.grantNf_joins (s := s.tested cell.header error) hw hrun r room]
      exact ⟨clampTo s.queue r, fun last => State.joinQueue_clamped (s := (s.tested cell.header error).popFifo .nf),
        State.joinQueue_kept (s := (s.tested cell.header error).popFifo .nf), rfl, rfl, fun few => if_pos few,
        fun many => if_neg (Nat.not_lt.2 many), s.watchAt_queued cell.header error r rfl⟩

end Sys2Proof.Machine

namespace Sys2Proof.Machine

/-! ### The report and clearing of counters (R51, R166) -/

/-- A table some of whose rows are cleared reads as cleared there and as it was elsewhere. -/
theorem rowAt_foldl_cleared (l : List Nat) (v : Vector WatchEntry 16) {n : Nat} (hn : n < 16) :
    rowAt (l.foldl (fun v i => setRow v i (rowAt v i .afterReset).cleared) v) n .afterReset =
      if n ∈ l then (rowAt v n .afterReset).cleared else rowAt v n .afterReset := by
  induction l generalizing v with
  | nil => simp
  | cons i l ih =>
    rw [List.foldl_cons, ih, rowAt_setRow]
    by_cases hi : i = n
    · subst hi
      simp [hn, WatchEntry.cleared]
    · simp [hi, Ne.symm hi]

theorem mem_statsEntries {k n : Nat} : n ∈ statsEntries (k + 1) ↔ 4 * k ≤ n ∧ n < 4 * k + 4 := by
  unfold statsEntries
  simp only [List.mem_map, List.mem_range, Nat.add_sub_cancel]
  exact ⟨fun ⟨i, hi, hn⟩ => by omega, fun h => ⟨n - 4 * k, by omega, by omega⟩⟩

theorem statsEntries_eq (k : Nat) : statsEntries (k + 1) = [4 * k, 4 * k + 1, 4 * k + 2, 4 * k + 3] := rfl

/-- The entries that a selector names are cleared, the others stay (R51). -/
theorem State.watchAt_clearWatch (s : State) (k : Nat) {n : Nat} (hn : n < 16) :
    (s.clearWatch (k + 1)).watchAt n = if 4 * k ≤ n ∧ n < 4 * k + 4 then (s.watchAt n).cleared else s.watchAt n := by
  refine (rowAt_foldl_cleared (statsEntries (k + 1)) s.watch hn).trans ?_
  simp only [mem_statsEntries]
  rfl

/-- The 28 counters are reported in the order of R33, R90 and R112 (R169). -/
theorem State.countersData_eq (s : State) :
    let n := s.nf.counters
    let l := s.lf.counters
    let e := s.emitter.counters
    s.countersData =
      [n.goodCells, n.headerErrors, n.syncLosses, n.kindLane, n.badStamps, n.overflows, n.continuityErrors, n.notMapped,
        n.badTiming, n.lateTiming, l.goodCells, l.headerErrors, l.syncLosses, l.kindLane, l.kindNotPermitted, l.badStamps,
        l.overflows, e.fillEmitted, e.lateEmitted, e.tooLate, e.orderClamps, e.queueFull, e.notRunning, e.clipShort,
        e.clipTruncated, s.clipLanesOut, s.clipUnexpected, s.control.controlDrops].flatMap bytes4 := by
  simp only [State.countersData, PortCounters.nfBytes, PortCounters.lfBytes, EmitterCounters.bytes, List.flatMap_cons,
    List.flatMap_nil, List.append_assoc, List.append_nil]

/-- A reply behind which watch entries are cleared (R51). -/
theorem State.clearWatch_answered (s : State) (c : Command) (r : Result) (d : List Byte) (k : Nat) :
    ((s.popCommand.reply c r d).clearWatch k).discardForeign = { s.answered c r d with watch := (s.clearWatch k).watch } := rfl

theorem State.clearCounters_answered (s : State) (c : Command) (r : Result) (d : List Byte) :
    ((s.popCommand.reply c r d).clearCounters).discardForeign = (s.answered c r d).clearCounters := rfl

/-- Settles O42, by the selector. -/
theorem statsReportsAndClears : Obligations.StatsReportsAndClears := by
  intro s c h
  have granted : exec .stats s = .next (statsBody c s.popCommand).discardForeign := State.takeCommand_granted statsBody h
  refine ⟨fun hbad => ?_, fun hzero => ?_, fun k hsel hk => ?_⟩
  · rw [granted, statsBody, if_pos hbad, State.reply_answered]
  · have data : s.popCommand.countersData = _ := s.countersData_eq
    rw [granted, statsBody, if_neg (by omega), if_pos hzero, data, State.clearCounters_answered]
    rfl
  · have data : s.popCommand.watchData (k + 1) = s.watchData (k + 1) := rfl
    have body : exec .stats s =
        .next { s.answered c .ok (s.watchData (k + 1)) with watch := (s.clearWatch (k + 1)).watch } := by
      rw [granted, statsBody, if_neg (by omega), if_neg (by omega), hsel, data, State.clearWatch_answered]
    refine ⟨{ s.answered c .ok (s.watchData (k + 1)) with watch := (s.clearWatch (k + 1)).watch }, ?_,
      fun n hn => s.watchAt_clearWatch k hn, body⟩
    refine congrArg (fun d => (s.answered c .ok d).control) ?_
    rw [State.watchData, statsEntries_eq]
    refine List.flatMap_congr fun n _ => ?_
    cases hlane : (s.watchAt n).lane <;> simp [WatchEntry.bytes, bytesOption, hlane]

end Sys2Proof.Machine

namespace Sys2Proof.Machine

/-! ### The events a RESTART cancels (R138, R154) -/

theorem EventState.live_iff (x : EventState) : x.live = true ↔ x = .pending ∨ x = .armed ∨ x = .onAir := by
  cases x <;> decide

/-- One event of the fold by which a RESTART cancels: an IN event ends its splice, a PENDING or ARMED one is finished. -/
def State.cancelEvent (t : State) (e : Nat) : State :=
  if (t.eventAt e).state = .onAir then t.endSplice e .cancelled .restart
  else if (t.eventAt e).state = .pending ∨ (t.eventAt e).state = .armed then t.finishEvent e .cancelled (some .restart) none
  else t

theorem State.cancelAll_eq (s : State) : s.cancelAll = eventNumbers.foldl State.cancelEvent s := by
  unfold State.cancelAll
  congr 1
  funext t e
  unfold State.cancelEvent
  cases (t.eventAt e).state <;> rfl

section
variable {t : State} {e : Nat}

theorem State.cancelEvent_onAir (h : (t.eventAt e).state = .onAir) : t.cancelEvent e = t.endSplice e .cancelled .restart :=
  if_pos h

theorem State.cancelEvent_waiting (h : (t.eventAt e).state = .pending ∨ (t.eventAt e).state = .armed) :
    t.cancelEvent e = t.finishEvent e .cancelled (some .restart) none := by
  unfold State.cancelEvent
  rw [if_neg (by rcases h with h | h <;> rw [h] <;> decide), if_pos h]

theorem State.cancelEvent_final (h : ¬(t.eventAt e).state.live) : t.cancelEvent e = t := by
  rw [EventState.live_iff] at h
  push Not at h
  simp [State.cancelEvent, h.1, h.2.1, h.2.2]

/-- The three outcomes for one event. -/
theorem State.cancelEvent_cases (t : State) (e : Nat) :
    ((t.eventAt e).state = .onAir ∧ t.cancelEvent e = t.endSplice e .cancelled .restart) ∨
    (((t.eventAt e).state = .pending ∨ (t.eventAt e).state = .armed) ∧
      t.cancelEvent e = t.finishEvent e .cancelled (some .restart) none) ∨
    (¬(t.eventAt e).state.live ∧ t.cancelEvent e = t) := by
  by_cases hair : (t.eventAt e).state = .onAir
  · exact .inl ⟨hair, State.cancelEvent_onAir hair⟩
  · by_cases hwait : (t.eventAt e).state = .pending ∨ (t.eventAt e).state = .armed
    · exact .inr (.inl ⟨hwait, State.cancelEvent_waiting hwait⟩)
    · have hfinal : ¬(t.eventAt e).state.live := fun h => hwait (by
        rcases (EventState.live_iff _).1 h with h | h | h
        · exact .inl h
        · exact .inr h
        · exact absurd h hair)
      exact .inr (.inr ⟨hfinal, State.cancelEvent_final hfinal⟩)

end

theorem State.cancelEvent_sameTime (t : State) (e : Nat) : t.SameTime (t.cancelEvent e) := by
  obtain ⟨-, h⟩ | ⟨-, h⟩ | ⟨-, h⟩ := t.cancelEvent_cases e <;> rw [h]
  · exact ⟨by simp, by simp, by simp⟩
  · exact ⟨by simp, by simp, by simp⟩
  · exact .refl t

theorem State.cancelEvent_eventAt_other (t : State) (e k : Nat) (hk : k ≠ e) : (t.cancelEvent e).eventAt k = t.eventAt k := by
  obtain ⟨-, h⟩ | ⟨-, h⟩ | ⟨-, h⟩ := t.cancelEvent_cases e <;> rw [h]
  · rw [State.endSplice_eventAt, if_neg fun x => hk x.1.symm]
  · rw [State.finishEvent_eventAt, if_neg fun x => hk x.1.symm]

/-- The record of an event a RESTART cancels, with the cells its splice left unplayed (R132, R138, R154). -/
def State.restartedRecord (s : State) (k n : Nat) : EventRecord :=
  { s.eventAt k with
    state := .cancelled, cause := some .restart, reason := none, truncated := n, finish := some ⟨s.clock.second, s.emitter.slot⟩ }

theorem State.cancelEvent_eventAt_own {t : State} {e : Nat} (he : e < 32) (hlive : (t.eventAt e).state.live) :
    ∃ n, (t.cancelEvent e).eventAt e = t.restartedRecord e n := by
  obtain ⟨-, h⟩ | ⟨-, h⟩ | ⟨hfinal, -⟩ := t.cancelEvent_cases e
  · rw [h, State.endSplice_eventAt, if_pos ⟨rfl, he⟩]
    exact ⟨_, rfl⟩
  · rw [h, State.finishEvent_eventAt, if_pos ⟨rfl, he⟩]
    exact ⟨_, rfl⟩
  · exact absurd hlive hfinal

theorem State.cancelEvent_notice {t : State} {e : Nat} (hlive : (t.eventAt e).state.live) :
    (t.cancelEvent e).control =
      t.control.withNotice t.clock .splice ((t.cancelEvent e).spliceNoticeData e (t.eventAt e).state) := by
  obtain ⟨-, h⟩ | ⟨-, h⟩ | ⟨hfinal, -⟩ := t.cancelEvent_cases e
  · rw [h]; exact State.endSplice_notice ..
  · rw [h]; exact State.finishEvent_notice ..
  · exact absurd hlive hfinal

theorem State.cancelEvent_order (t : State) (e : Nat) :
    (t.cancelEvent e).order = if (t.eventAt e).state = .onAir ∨ (t.eventAt e).state = .pending ∨ (t.eventAt e).state = .armed then
      t.order.filter (fun f => decide (f ≠ e)) else t.order := by
  obtain ⟨hs, h⟩ | ⟨hs, h⟩ | ⟨hs, h⟩ := t.cancelEvent_cases e <;> rw [h]
  · rw [State.endSplice_order, if_pos (.inl hs)]
  · rw [State.finishEvent_order, if_pos (.inr hs)]
  · rw [if_neg fun x => hs ((EventState.live_iff _).2 (by tauto))]

/-- The clip of an ARMED or IN event returns to READY (R119, R132, R152). -/
theorem State.cancelEvent_clipAt (t : State) (e d : Nat) :
    (t.cancelEvent e).clipAt d =
      if ((t.eventAt e).state = .armed ∨ (t.eventAt e).state = .onAir) ∧ (t.eventAt e).given.clip = d ∧
          ((t.clipAt d).state = .cued ∨ (t.clipAt d).state = .playing) then (t.clipAt d).returned
      else t.clipAt d := by
  obtain ⟨hs, h⟩ | ⟨hs, h⟩ | ⟨hs, h⟩ := t.cancelEvent_cases e <;> rw [h]
  · rw [State.endSplice_clipAt]
    simp [hs]
  · rw [State.finishEvent_clipAt]
    rcases hs with hs | hs <;> simp [hs]
  · rw [EventState.live_iff] at hs
    push Not at hs
    simp [hs.2.1, hs.2.2]

theorem State.cancelEvent_groupAt_other {t : State} {e g : Nat}
    (hgroup : (t.eventAt e).state.held → (t.eventAt e).given.group ≠ g) (hactive : (t.groupAt g).active ≠ some e) :
    (t.cancelEvent e).groupAt g = t.groupAt g := by
  obtain ⟨hs, h⟩ | ⟨hs, h⟩ | ⟨hs, h⟩ := t.cancelEvent_cases e <;> rw [h]
  · rw [State.endSplice_groupAt, if_neg fun x => hgroup (.inr hs) x.1]
  · rw [State.finishEvent_groupAt, if_neg fun x => hactive x.2.2]

/-- The group of an ARMED or IN event is left without an active event, and IDLE if it was IN (R132, R152). -/
theorem State.cancelEvent_groupAt_own {t : State} {e g : Nat} (hg : g < 16) (hheld : (t.eventAt e).state.held)
    (hgroup : (t.eventAt e).given.group = g) (hactive : (t.groupAt g).active = some e) :
    (t.cancelEvent e).groupAt g =
      { t.groupAt g with
        state := if (t.eventAt e).state = .onAir then .idle else (t.groupAt g).state, active := none } := by
  rcases hheld with hs | hs
  · rw [State.cancelEvent_waiting (.inr hs), State.finishEvent_groupAt, if_pos ⟨hgroup, hg, hactive⟩]
    simp [hs]
  · rw [State.cancelEvent_onAir hs, State.endSplice_groupAt, if_pos ⟨hgroup, hg⟩]
    simp [hs, hactive]

theorem State.cancelEvent_switchAt (t : State) (e g : Nat) :
    (t.cancelEvent e).switchAt g =
      if (t.eventAt e).state = .onAir ∧ (t.eventAt e).given.group = g ∧ g < 16 then .clear else t.switchAt g := by
  obtain ⟨hs, h⟩ | ⟨hs, h⟩ | ⟨hs, h⟩ := t.cancelEvent_cases e <;> rw [h]
  · rw [State.endSplice_switchAt]
    simp [hs]
  · rw [if_neg fun x => by rcases hs with hs | hs <;> rw [hs] at x <;> exact absurd x.1 (by decide)]
    unfold State.switchAt
    simp
  · rw [if_neg fun x => hs ((EventState.live_iff _).2 (.inr (.inr x.1)))]

/-! ### Reads of dropped items (R104) -/

/-- An access in progress once items have been dropped: a write runs on, a read of a dropped item is no longer wanted. -/
def Access.dropped (gone : StagedItem → Bool) : Access → Access
  | .read r wanted => .read r (wanted && !gone r.item)
  | .write b d => .write b d

theorem CellStore.dropStaged_access (c : CellStore) (gone : StagedItem → Bool) :
    (c.dropStaged gone).access = c.access.map (Access.dropped gone) := by
  unfold CellStore.dropStaged
  cases c.access with
  | none => rfl
  | some a => cases a <;> rfl

theorem State.returnClip_access (s : State) (c : Nat) :
    (s.returnClip c).store.access =
      if (s.clipAt c).state = .cued ∨ (s.clipAt c).state = .playing then s.store.access.map (Access.dropped (StagedItem.ofClip c))
      else s.store.access := by
  unfold State.returnClip
  dsimp only
  split
  · exact CellStore.dropStaged_access _ _
  · rfl

theorem State.finishEvent_access (s : State) (e : Nat) (x : EventState) (c : Option EndingCause) (r : Option FailReason) :
    (s.finishEvent e x c r).store.access =
      if (s.eventAt e).state = .armed then (s.returnClip (s.eventAt e).given.clip).store.access else s.store.access := by
  unfold State.finishEvent
  dsimp only
  split
  · have clip : ∀ u : State, u.clips = s.clips → u.store = s.store →
        ∀ d, (u.returnClip d).store.access = (s.returnClip d).store.access := by
      intro u hclips hstore d
      rw [State.returnClip_access, State.returnClip_access, hstore, show u.clipAt d = s.clipAt d by unfold State.clipAt; rw [hclips]]
    simp only [State.notifySplice, State.notify_frame]
    exact clip _ (by simp) (by simp) _
  · simp [State.notifySplice, State.setEvent]

theorem State.endSplice_access (s : State) (e : Nat) (x : EventState) (c : EndingCause) (h : (s.eventAt e).state = .onAir) :
    (s.endSplice e x c).store.access = (s.returnClip (s.eventAt e).given.clip).store.access := by
  have notArmed : ((s.truncatedEnd e).eventAt e).state ≠ .armed := by
    rw [(State.truncatedEnd_given s e e).2, h]; decide
  have clips : ((s.truncatedEnd e).finishEvent e x (some c) none).clipAt (s.eventAt e).given.clip =
      s.clipAt (s.eventAt e).given.clip := by
    rw [State.finishEvent_clipAt, if_neg fun y => notArmed y.1]
    unfold State.clipAt
    simp [State.truncatedEnd, State.setEvent]
  have store : (s.truncatedEnd e).store = s.store := by simp [State.truncatedEnd, State.setEvent]
  have access : ((s.truncatedEnd e).finishEvent e x (some c) none).store.access = s.store.access := by
    rw [State.finishEvent_access, if_neg notArmed, store]
  have last : (s.endSplice e x c).store =
      (((s.truncatedEnd e).finishEvent e x (some c) none).returnClip (s.eventAt e).given.clip).store := by
    rw [State.endSplice_eq]; rfl
  rw [last, State.returnClip_access, clips, access, ← State.returnClip_access]

theorem State.cancelEvent_access (t : State) (e : Nat) :
    (t.cancelEvent e).store.access =
      if ((t.eventAt e).state = .armed ∨ (t.eventAt e).state = .onAir) ∧
          ((t.clipAt (t.eventAt e).given.clip).state = .cued ∨ (t.clipAt (t.eventAt e).given.clip).state = .playing) then
        t.store.access.map (Access.dropped (StagedItem.ofClip (t.eventAt e).given.clip))
      else t.store.access := by
  obtain ⟨hs, h⟩ | ⟨hs, h⟩ | ⟨hs, h⟩ := t.cancelEvent_cases e <;> rw [h]
  · rw [State.endSplice_access _ _ _ _ hs, State.returnClip_access]
    simp [hs]
  · rw [State.finishEvent_access, State.returnClip_access]
    rcases hs with hs | hs <;> simp [hs]
  · rw [if_neg fun x => hs ((EventState.live_iff _).2 (.inr x.1))]

end Sys2Proof.Machine

namespace Sys2Proof.Machine

/-! ### One observation of the state through the cancelling of events -/

section
variable {β : Type} {s : State} {l : List Nat} (obs : State → β)

/-- Cancelling other events leaves an event's record. -/
theorem foldl_cancelEvent_eventAt (k : Nat) (hk : k ∉ l) (s : State) : (l.foldl State.cancelEvent s).eventAt k = s.eventAt k := by
  induction l generalizing s with
  | nil => rfl
  | cons e l ih =>
    rw [List.foldl_cons, ih (fun h => hk (List.mem_cons_of_mem e h)),
      State.cancelEvent_eventAt_other s e k (List.ne_of_not_mem_cons hk)]

/-- What no event of a list disturbs is as it was once all have been cancelled. -/
theorem cancel_undisturbed (hl : l.Nodup)
    (h : ∀ e ∈ l, ∀ t : State, t.eventAt e = s.eventAt e → obs t = obs s → obs (t.cancelEvent e) = obs s) :
    obs (l.foldl State.cancelEvent s) = obs s := by
  induction l using List.reverseRecOn with
  | nil => rfl
  | append_singleton l e ih =>
    obtain ⟨hl, -, apart⟩ := List.nodup_append.1 hl
    rw [List.foldl_append, List.foldl_cons, List.foldl_nil]
    refine h e (by simp) _ (foldl_cancelEvent_eventAt e (fun he => apart e he e (List.mem_singleton_self e) rfl) s) ?_
    exact ih hl fun k hk => h k (List.mem_append_left _ hk)

/-- What one event of a list changes, and no other before or after it disturbs, has changed once all have been cancelled. -/
theorem cancel_meets (hl : l.Nodup) {e : Nat} (he : e ∈ l) {v : β}
    (own : ∀ t : State, t.eventAt e = s.eventAt e → obs t = obs s → obs (t.cancelEvent e) = v)
    (others : ∀ k, k ≠ e → ∀ t : State, t.eventAt k = s.eventAt k → obs t = obs s ∨ obs t = v →
      obs (t.cancelEvent k) = obs t) :
    obs (l.foldl State.cancelEvent s) = v := by
  obtain ⟨before, after, rfl⟩ := List.append_of_mem he
  obtain ⟨hbefore, hafter, apart⟩ := List.nodup_append.1 hl
  obtain ⟨heafter, hafter⟩ := List.nodup_cons.1 hafter
  have hebefore : e ∉ before := fun h => apart e h e (List.mem_cons_self ..) rfl
  rw [List.foldl_append, List.foldl_cons]
  have reached : obs (before.foldl State.cancelEvent s) = obs s :=
    cancel_undisturbed obs hbefore fun k hk t hevent hobs =>
      (others k (fun h => hebefore (h ▸ hk)) t hevent (.inl hobs)).trans hobs
  have met := own _ (foldl_cancelEvent_eventAt e hebefore s) reached
  refine (cancel_undisturbed obs hafter fun k hk t hevent hobs => ?_).trans met
  have hke : k ≠ e := fun h => heafter (h ▸ hk)
  have hkbefore : k ∉ before := fun h => apart k h k (List.mem_cons_of_mem e hk) rfl
  rw [State.cancelEvent_eventAt_other _ _ _ hke, foldl_cancelEvent_eventAt k hkbefore] at hevent
  exact (others k hke t hevent (.inr (hobs.trans met))).trans hobs

end

theorem mem_eventNumbers {e : Nat} : e ∈ eventNumbers ↔ e < 32 := List.mem_range

theorem eventNumbers_nodup : eventNumbers.Nodup := List.nodup_range

theorem State.cancelAll_undisturbed {β : Type} {s : State} (obs : State → β)
    (h : ∀ e < 32, ∀ t : State, t.eventAt e = s.eventAt e → obs t = obs s → obs (t.cancelEvent e) = obs s) :
    obs s.cancelAll = obs s := by
  rw [State.cancelAll_eq]
  exact cancel_undisturbed obs eventNumbers_nodup fun e he => h e (mem_eventNumbers.1 he)

theorem State.cancelAll_meets {β : Type} {s : State} (obs : State → β) {e : Nat} (he : e < 32) {v : β}
    (own : ∀ t : State, t.eventAt e = s.eventAt e → obs t = obs s → obs (t.cancelEvent e) = v)
    (others : ∀ k, k ≠ e → ∀ t : State, t.eventAt k = s.eventAt k → obs t = obs s ∨ obs t = v →
      obs (t.cancelEvent k) = obs t) :
    obs s.cancelAll = v := by
  rw [State.cancelAll_eq]
  exact cancel_meets obs eventNumbers_nodup (mem_eventNumbers.2 he) own others

/-- What every cancelled event keeps, all of them keep. -/
theorem State.cancelAll_keeps {P : State → Prop} (h : ∀ t e, P t → P (t.cancelEvent e)) {s : State} (hs : P s) : P s.cancelAll := by
  rw [State.cancelAll_eq]
  exact List.foldlRecOn eventNumbers State.cancelEvent hs fun t ht e _ => h t e ht

/-! ### The events, the order and the notices of a RESTART -/

theorem State.cancelAll_sameTime (s : State) : s.SameTime s.cancelAll := ⟨by simp, by simp, by simp⟩

/-- Every PENDING, ARMED or IN event is CANCELLED with cause RESTART, and no other event changes (R138). -/
theorem State.cancelAll_eventAt (s : State) {e : Nat} (he : e < 32) :
    ((s.eventAt e).state.live = true → ∃ n, s.cancelAll.eventAt e = s.restartedRecord e n) ∧
    ((s.eventAt e).state.live = false → s.cancelAll.eventAt e = s.eventAt e) := by
  rw [State.cancelAll_eq]
  obtain ⟨t, time, same, last⟩ := (foldl_eventAt State.cancelEvent_sameTime (fun t e k => State.cancelEvent_eventAt_other t e k)
    eventNumbers_nodup s e).2 (mem_eventNumbers.2 he)
  refine ⟨fun hlive => ?_, fun hfinal => ?_⟩
  · obtain ⟨n, hn⟩ := State.cancelEvent_eventAt_own he (same ▸ hlive)
    refine ⟨n, last.trans (hn.trans ?_)⟩
    unfold State.restartedRecord
    rw [same, time.clock, time.slot]
  · rw [last, State.cancelEvent_final (by rw [same, hfinal]; exact Bool.false_ne_true), same]

/-- With the schedule in agreement no event is left pending (R125). -/
theorem State.cancelAll_order {s : State} (h : s.orderLaw) : s.cancelAll.order = [] := by
  refine List.eq_nil_iff_forall_not_mem.2 fun x hx => ?_
  have left : ∀ (k : Nat) (t : State), k ≠ x → ((x ∈ (t.cancelEvent k).order) = (x ∈ t.order)) := by
    intro k t hk
    rw [State.cancelEvent_order]
    split
    · simp [hk.symm]
    · rfl
  by_cases hin : x ∈ s.order
  · obtain ⟨hlt, hpending⟩ := (h.exact x).1 hin
    refine (State.cancelAll_meets (s := s) (fun t => x ∈ t.order) hlt (v := False) (fun t hevent _ => ?_)
      fun k hk t _ _ => left k t hk).mp hx
    rw [State.cancelEvent_order, if_pos (.inr (.inl (hevent ▸ hpending)))]
    simp
  · refine hin ((State.cancelAll_undisturbed (s := s) (fun t => x ∈ t.order) fun k _ t _ hobs => ?_).mp hx)
    refine propext ⟨fun hmem => ?_, fun hmem => absurd hmem hin⟩
    rw [State.cancelEvent_order] at hmem
    split at hmem
    · exact hobs.mp (List.mem_filter.1 hmem).1
    · exact hobs.mp hmem

/-- What a SPLICE notice reports is read from the event's record and the clock (R137). -/
theorem State.spliceNoticeData_congr {s t : State} {e : Nat} (hevent : t.eventAt e = s.eventAt e) (hclock : t.clock = s.clock)
    (x : EventState) : t.spliceNoticeData e x = s.spliceNoticeData e x := by
  unfold State.spliceNoticeData State.stampBytes
  rw [hevent, hclock]

/-- The SPLICE notices of the events of a list that are PENDING, ARMED or IN, read from a state after them (R137). -/
def State.cancelNotices (s t : State) (l : List Nat) : List (NoticeKind × List Byte) :=
  (l.filter fun e => (s.eventAt e).state.live).map fun e => (.splice, t.spliceNoticeData e (s.eventAt e).state)

theorem State.cancelNotices_congr {s u : State} (t : State) {l : List Nat} (h : ∀ e ∈ l, u.eventAt e = s.eventAt e) :
    u.cancelNotices t l = s.cancelNotices t l := by
  unfold State.cancelNotices
  rw [List.filter_congr fun e he => by rw [h e he]]
  exact List.map_congr_left fun e he => by rw [h e (List.mem_filter.1 he).1]

theorem State.cancelNotices_live {s t : State} {e : Nat} {l : List Nat} (h : (s.eventAt e).state.live = true) :
    s.cancelNotices t (e :: l) = (.splice, t.spliceNoticeData e (s.eventAt e).state) :: s.cancelNotices t l := by
  simp [State.cancelNotices, h]

theorem State.cancelNotices_final {s t : State} {e : Nat} {l : List Nat} (h : ¬(s.eventAt e).state.live = true) :
    s.cancelNotices t (e :: l) = s.cancelNotices t l := by
  simp [State.cancelNotices, h]

/-- Each cancelled event has its SPLICE notice, in the order of the list (R137, R138). -/
theorem foldl_cancelEvent_control {l : List Nat} (hl : l.Nodup) (s : State) {t : State} (hclock : t.clock = s.clock)
    (hevents : ∀ e ∈ l, t.eventAt e = (l.foldl State.cancelEvent s).eventAt e) :
    (l.foldl State.cancelEvent s).control = s.control.withNotices s.clock (s.cancelNotices t l) := by
  induction l generalizing s with
  | nil => rfl
  | cons e l ih =>
    obtain ⟨hel, hl⟩ := List.nodup_cons.1 hl
    have time := (s.cancelEvent_sameTime e).clock
    have rest := ih hl (s.cancelEvent e) (hclock.trans time.symm) fun k hk => hevents k (List.mem_cons_of_mem e hk)
    have same : ∀ k ∈ l, (s.cancelEvent e).eventAt k = s.eventAt k := fun k hk =>
      State.cancelEvent_eventAt_other s e k fun h => hel (h ▸ hk)
    rw [State.cancelNotices_congr t same, time] at rest
    rw [List.foldl_cons, rest]
    have own : t.eventAt e = (s.cancelEvent e).eventAt e :=
      (hevents e (List.mem_cons_self ..)).trans (foldl_cancelEvent_eventAt e hel _)
    by_cases hlive : (s.eventAt e).state.live = true
    · rw [State.cancelNotices_live hlive, State.cancelEvent_notice hlive,
        State.spliceNoticeData_congr own (hclock.trans time.symm)]
      rfl
    · rw [State.cancelNotices_final hlive, State.cancelEvent_final hlive]

theorem State.cancelAll_control_notices (s : State) {t : State} (hclock : t.clock = s.clock)
    (hevents : ∀ e < 32, t.eventAt e = s.cancelAll.eventAt e) :
    s.cancelAll.control = s.control.withNotices s.clock (s.cancelNotices t eventNumbers) := by
  rw [State.cancelAll_eq] at hevents ⊢
  exact foldl_cancelEvent_control eventNumbers_nodup s hclock fun e he => hevents e (mem_eventNumbers.1 he)

end Sys2Proof.Machine

namespace Sys2Proof.Machine

/-! ### Groups, switches and clips after a RESTART (R45, R107, R119, R154) -/

section
variable {s : State}

/-- With the groups in agreement every group is IDLE and without an active event, its flag kept (R45, R154). -/
theorem State.cancelAll_groupAt (h : s.groupLaw) {g : Nat} (hg : g < 16) :
    s.cancelAll.groupAt g = ⟨(s.groupAt g).localAllowed, .idle, none⟩ := by
  obtain ⟨held, active, spliced⟩ := h
  have single : ∀ e < 32, (s.eventAt e).state.held → (s.eventAt e).given.group = g → (s.groupAt g).active = some e :=
    fun e he hheld hgroup => hgroup ▸ (held e he hheld).2
  have beyond : ∀ e, (s.eventAt e).state.held → e < 32 := fun e hheld => by
    by_contra hlt
    rw [State.eventAt_beyond s (Nat.le_of_not_lt hlt)] at hheld
    rcases hheld with x | x <;> cases x
  cases hactive : (s.groupAt g).active with
  | none =>
    refine (State.cancelAll_undisturbed (s := s) (·.groupAt g) fun e he t hevent hobs => ?_).trans ?_
    · refine (State.cancelEvent_groupAt_other (fun hheld hgroup => ?_) ?_).trans hobs
      · rw [hevent] at hheld hgroup
        rw [single e he hheld hgroup] at hactive
        cases hactive
      · rw [hobs, hactive]; exact nofun
    · have idle : (s.groupAt g).state = .idle := by
        cases hstate : (s.groupAt g).state with
        | idle => rfl
        | spliced =>
          obtain ⟨e, he, -⟩ := (spliced g hg).1 hstate
          rw [hactive] at he
          cases he
      rw [← hactive, ← idle]
  | some e =>
    obtain ⟨he, hheld, hgroup⟩ := active g hg e hactive
    refine State.cancelAll_meets (s := s) (·.groupAt g) he (fun t hevent hobs => ?_) fun k hk t hevent hobs => ?_
    · rw [State.cancelEvent_groupAt_own hg (hevent ▸ hheld) (hevent ▸ hgroup) (by rw [hobs, hactive]), hobs, hevent]
      have idle : (if (s.eventAt e).state = .onAir then GroupState.idle else (s.groupAt g).state) = .idle := by
        split
        · rfl
        · rename_i hair
          cases hstate : (s.groupAt g).state with
          | idle => rfl
          | spliced =>
            obtain ⟨f, hf, hfair⟩ := (spliced g hg).1 hstate
            obtain rfl : e = f := Option.some.inj (hactive.symm.trans hf)
            exact absurd hfair hair
      rw [idle]
    · refine State.cancelEvent_groupAt_other (fun hkheld hkgroup => ?_) ?_
      · rw [hevent] at hkheld hkgroup
        have other := single k (beyond k hkheld) hkheld hkgroup
        rw [hactive] at other
        exact hk (Option.some.inj other).symm
      · rcases hobs with hobs | hobs <;> rw [hobs]
        · rw [hactive]; exact fun x => hk (Option.some.inj x).symm
        · exact nofun

/-- With the groups in agreement the switch state of every SPLICED group is cleared (R152, R154). -/
theorem State.cancelAll_switchAt (h : s.groupLaw) {g : Nat} (hg : g < 16) (hspliced : (s.groupAt g).state = .spliced) :
    s.cancelAll.switchAt g = .clear := by
  obtain ⟨e, hactive, hair⟩ := (h.spliced g hg).1 hspliced
  obtain ⟨he, -, hgroup⟩ := h.active g hg e hactive
  refine State.cancelAll_meets (s := s) (·.switchAt g) he (fun t hevent _ => ?_) fun k hk t hevent hobs => ?_
  · rw [State.cancelEvent_switchAt, if_pos ⟨hevent ▸ hair, hevent ▸ hgroup, hg⟩]
  · rw [State.cancelEvent_switchAt, if_neg]
    rintro ⟨hkair, hkgroup, -⟩
    rw [hevent] at hkair hkgroup
    have other := (h.held k (State.onAir_lt hkair) (.inr hkair)).2
    rw [hkgroup, hactive] at other
    exact hk (Option.some.inj other).symm

/-- A read of another clip's cell stays wanted when a clip's items are dropped (R104). -/
theorem Access.dropped_ofClip_other {r : ReadRequest} {k m x c : Nat} (hitem : r.item = .clipCell k m x) (hc : c ≠ k) (w : Bool) :
    Access.dropped (StagedItem.ofClip c) (.read r w) = .read r w := by
  simp [Access.dropped, hitem, StagedItem.ofClip, Ne.symm hc]

theorem Access.dropped_ofClip_own {r : ReadRequest} {k m x : Nat} (hitem : r.item = .clipCell k m x) (w : Bool) :
    Access.dropped (StagedItem.ofClip k) (.read r w) = .read r false := by
  simp [Access.dropped, hitem, StagedItem.ofClip]

/-- A clip that is neither CUED nor PLAYING stays (R119). -/
theorem State.cancelAll_clipAt_other {k : Nat} (hcued : (s.clipAt k).state ≠ .cued) (hplaying : (s.clipAt k).state ≠ .playing) :
    s.cancelAll.clipAt k = s.clipAt k :=
  State.cancelAll_undisturbed (s := s) (·.clipAt k) fun e _ t _ hobs => by
    rw [← hobs] at hcued hplaying
    rw [State.cancelEvent_clipAt, if_neg fun x => x.2.2.elim hcued hplaying, hobs]

/-- A running read of a cell of a clip that is neither CUED nor PLAYING stays as wanted as it was (R104). -/
theorem State.cancelAll_access_other {k m x : Nat} {r : ReadRequest} {w : Bool} (hcued : (s.clipAt k).state ≠ .cued)
    (hplaying : (s.clipAt k).state ≠ .playing) (hitem : r.item = .clipCell k m x) (ha : s.store.access = some (.read r w)) :
    s.cancelAll.store.access = some (.read r w) := by
  have both : (s.cancelAll.clipAt k, s.cancelAll.store.access) = (s.clipAt k, s.store.access) :=
    State.cancelAll_undisturbed (s := s) (fun t => (t.clipAt k, t.store.access)) fun e _ t hevent hobs => by
      obtain ⟨hclip, haccess⟩ := Prod.mk.inj hobs
      refine Prod.ext ?_ ?_ <;> dsimp only
      · rw [State.cancelEvent_clipAt, if_neg fun y => y.2.2.elim (hclip ▸ hcued) (hclip ▸ hplaying), hclip]
      · rw [State.cancelEvent_access, haccess, ha]
        split
        · rename_i hreturned
          have other : (t.eventAt e).given.clip ≠ k := fun h => by
            rw [h, hclip] at hreturned
            exact hreturned.2.elim hcued hplaying
          rw [Option.map_some, Access.dropped_ofClip_other hitem other]
        · rfl
  exact (Prod.mk.inj both).2.trans ha

/-- With the clips in agreement a CUED or PLAYING clip is named by one ARMED or IN event (R107). -/
theorem State.playLaw.names (h : s.playLaw) {k : Nat} (hk : k < 64)
    (hstate : (s.clipAt k).state = .cued ∨ (s.clipAt k).state = .playing) :
    ∃ e < 32, ((s.eventAt e).state = .armed ∨ (s.eventAt e).state = .onAir) ∧ (s.eventAt e).given.clip = k := by
  rcases hstate with hcued | hplaying
  · obtain ⟨e, he, harmed, hclip⟩ := (h.cued k hk).1 hcued
    exact ⟨e, he, .inl harmed, hclip⟩
  · obtain ⟨e, he, hair, hclip⟩ := (h.playing k hk).1 hplaying
    exact ⟨e, he, .inr hair, hclip⟩

/-- No other event names a clip that an ARMED or IN event names (R107). -/
theorem State.playLaw.others (h : s.playLaw) {e : Nat} (he : e < 32)
    (hheld : (s.eventAt e).state = .armed ∨ (s.eventAt e).state = .onAir) {j : Nat} (hj : j ≠ e)
    (hjheld : (s.eventAt j).state = .armed ∨ (s.eventAt j).state = .onAir) : (s.eventAt j).given.clip ≠ (s.eventAt e).given.clip := by
  intro hclip
  have hlt : j < 32 := by
    by_contra hlt
    rw [State.eventAt_beyond s (Nat.le_of_not_lt hlt)] at hjheld
    rcases hjheld with x | x <;> cases x
  exact hj (h.single j hlt e he hjheld hheld hclip)

/-- With the clips in agreement a CUED or PLAYING clip returns to READY (R119). -/
theorem State.cancelAll_clipAt (h : s.playLaw) {k : Nat} (hk : k < 64)
    (hstate : (s.clipAt k).state = .cued ∨ (s.clipAt k).state = .playing) : s.cancelAll.clipAt k = (s.clipAt k).returned := by
  obtain ⟨e, he, hheld, hclip⟩ := h.names hk hstate
  refine State.cancelAll_meets (s := s) (·.clipAt k) he (fun t hevent hobs => ?_) fun j hj t hevent hobs => ?_
  · rw [State.cancelEvent_clipAt, hevent, hobs, if_pos ⟨hheld, hclip, hstate⟩]
  · rw [State.cancelEvent_clipAt, hevent, if_neg fun y => h.others he hheld hj y.1 (y.2.1.trans hclip.symm)]

/-- With the clips in agreement a running read of a cell of a CUED or PLAYING clip is no longer wanted (R104). -/
theorem State.cancelAll_access (h : s.playLaw) {k m x : Nat} (hk : k < 64) {r : ReadRequest} {w : Bool}
    (hstate : (s.clipAt k).state = .cued ∨ (s.clipAt k).state = .playing) (hitem : r.item = .clipCell k m x)
    (ha : s.store.access = some (.read r w)) : s.cancelAll.store.access = some (.read r false) := by
  obtain ⟨e, he, hheld, hclip⟩ := h.names hk hstate
  have both : (s.cancelAll.clipAt k, s.cancelAll.store.access) = ((s.clipAt k).returned, some (.read r false)) := by
    refine State.cancelAll_meets (s := s) (fun t => (t.clipAt k, t.store.access)) he (fun t hevent hobs => ?_)
      fun j hj t hevent hobs => ?_
    · obtain ⟨hcell, haccess⟩ := Prod.mk.inj hobs
      refine Prod.ext ?_ ?_ <;> dsimp only
      · rw [State.cancelEvent_clipAt, hevent, hcell, if_pos ⟨hheld, hclip, hstate⟩]
      · rw [State.cancelEvent_access, hevent, hclip, hcell, if_pos ⟨hheld, hstate⟩, haccess, ha, Option.map_some,
          Access.dropped_ofClip_own hitem]
    · have running : ∃ v, t.store.access = some (.read r v) := by
        rcases hobs with hobs | hobs
        · exact ⟨w, (Prod.mk.inj hobs).2.trans ha⟩
        · exact ⟨false, (Prod.mk.inj hobs).2⟩
      obtain ⟨v, hv⟩ := running
      refine Prod.ext ?_ ?_ <;> dsimp only
      · rw [State.cancelEvent_clipAt, hevent, if_neg fun y => h.others he hheld hj y.1 (y.2.1.trans hclip.symm)]
      · rw [State.cancelEvent_access, hevent, hv]
        split
        · rename_i hreturned
          have other : (s.eventAt j).given.clip ≠ k := hclip ▸ h.others he hheld hj hreturned.1
          rw [Option.map_some, Access.dropped_ofClip_other hitem other]
        · rfl
  exact (Prod.mk.inj both).2

/-! What is kept of the access in progress, whatever the clips. -/

theorem State.cancelAll_access_none (h : s.store.access = none) : s.cancelAll.store.access = none :=
  State.cancelAll_keeps (P := fun t => t.store.access = none) (fun t e ht => by
    rw [State.cancelEvent_access, ht]
    split <;> rfl) h

theorem State.cancelAll_access_write {b : Nat} {d : BlockData} (h : s.store.access = some (.write b d)) :
    s.cancelAll.store.access = some (.write b d) :=
  State.cancelAll_keeps (P := fun t => t.store.access = some (.write b d)) (fun t e ht => by
    rw [State.cancelEvent_access, ht]
    split <;> rfl) h

theorem State.cancelAll_access_read {r : ReadRequest} {w : Bool} (h : s.store.access = some (.read r w)) :
    ∃ v, s.cancelAll.store.access = some (.read r v) :=
  State.cancelAll_keeps (P := fun t => ∃ v, t.store.access = some (.read r v)) (fun t e ⟨v, hv⟩ => by
    rw [State.cancelEvent_access, hv]
    split
    · exact ⟨_, rfl⟩
    · exact ⟨v, rfl⟩) ⟨w, h⟩

/-! ### The emitter's counters and the lanes owed (R90, R150, R152) -/

theorem State.endSplice_counters (t : State) (e : Nat) (x : EventState) (c : EndingCause) :
    { (t.endSplice e x c).emitter.counters with clipTruncated := 0 } = { t.emitter.counters with clipTruncated := 0 } := by
  rw [State.endSplice_eq]
  simp [State.truncatedEnd, State.countEm, State.setGroup, State.setSwitch]

/-- Of the emitter's counters a RESTART can change the truncated cells alone (R90, R152). -/
theorem State.cancelAll_counters (s : State) :
    s.cancelAll.emitter.counters =
      { s.emitter.counters with clipTruncated := s.cancelAll.emitter.counters.clipTruncated } := by
  have kept : { s.cancelAll.emitter.counters with clipTruncated := 0 } = { s.emitter.counters with clipTruncated := 0 } :=
    State.cancelAll_keeps (P := fun t => { t.emitter.counters with clipTruncated := 0 } = { s.emitter.counters with clipTruncated := 0 })
      (fun t e ht => by
        obtain ⟨-, h⟩ | ⟨-, h⟩ | ⟨-, h⟩ := t.cancelEvent_cases e <;> rw [h]
        · exact (State.endSplice_counters ..).trans ht
        · simpa using ht
        · exact ht) rfl
  have fields := EmitterCounters.mk.inj kept
  cases hc : s.cancelAll.emitter.counters
  simp_all

/-- One member of a switch state: its lane is owed where it is in CLIP (R152, step 2). -/
def State.oweMember (w : SwitchState) (t : State) (m : Nat) : State :=
  if w.phaseAt m = .clip then
    match w.laneAt m with
    | some lane => t.owe lane
    | none => t
  else t

theorem State.oweClipLanes_eq (s : State) (w : SwitchState) : s.oweClipLanes w = (List.range 4).foldl (State.oweMember w) s := rfl

theorem State.owes_oweMember (w : SwitchState) (t : State) (m : Nat) {lane : Nat} (hlane : lane < 1024) :
    (t.oweMember w m).owes lane = true ↔ t.owes lane = true ∨ w.phaseAt m = .clip ∧ w.laneAt m = some lane := by
  unfold State.oweMember
  by_cases hp : w.phaseAt m = .clip
  · cases hm : w.laneAt m with
    | none => simp [hp]
    | some x => by_cases hx : x = lane <;> simp [hp, hx, State.owes_owe, hlane]
  · simp [hp]

theorem foldl_oweMember_owes (w : SwitchState) (l : List Nat) {lane : Nat} (hlane : lane < 1024) (s : State) :
    (l.foldl (State.oweMember w) s).owes lane = true ↔
      s.owes lane = true ∨ ∃ m ∈ l, w.phaseAt m = .clip ∧ w.laneAt m = some lane := by
  induction l generalizing s with
  | nil => simp
  | cons m l ih => rw [List.foldl_cons, ih, State.owes_oweMember w s m hlane, List.exists_mem_cons_iff, or_assoc]

/-- The lanes of members in CLIP join the lanes owed (R150, R152). -/
theorem State.owes_oweClipLanes (s : State) (w : SwitchState) {lane : Nat} (hlane : lane < 1024) :
    (s.oweClipLanes w).owes lane = true ↔
      s.owes lane = true ∨ ∃ m < 4, w.phaseAt m = .clip ∧ w.laneAt m = some lane := by
  rw [State.oweClipLanes_eq, foldl_oweMember_owes w _ hlane]
  simp only [List.mem_range]

theorem State.endSplice_owes (t : State) (e : Nat) (x : EventState) (c : EndingCause) {lane : Nat} (hlane : lane < 1024) :
    (t.endSplice e x c).owes lane = true ↔ t.owes lane = true ∨
      ∃ m < 4, (t.switchAt (t.eventAt e).given.group).phaseAt m = .clip ∧
        (t.switchAt (t.eventAt e).given.group).laneAt m = some lane := by
  have owed : (t.endSplice e x c).owed = (t.truncatedEnd e).owed := by
    rw [State.endSplice_eq]
    simp [State.setGroup, State.setSwitch]
  have owes : (t.endSplice e x c).owes lane = (t.truncatedEnd e).owes lane := by unfold State.owes; rw [owed]
  rw [owes]
  exact State.owes_oweClipLanes _ _ hlane

theorem State.cancelEvent_owes (t : State) (e : Nat) {lane : Nat} (hlane : lane < 1024) :
    (t.cancelEvent e).owes lane = true ↔ t.owes lane = true ∨ (t.eventAt e).state = .onAir ∧
      ∃ m < 4, (t.switchAt (t.eventAt e).given.group).phaseAt m = .clip ∧
        (t.switchAt (t.eventAt e).given.group).laneAt m = some lane := by
  obtain ⟨hs, h⟩ | ⟨hs, h⟩ | ⟨hs, h⟩ := t.cancelEvent_cases e <;> rw [h]
  · rw [State.endSplice_owes t e _ _ hlane]
    simp [hs]
  · have notAir : (t.eventAt e).state ≠ .onAir := by rcases hs with hs | hs <;> rw [hs] <;> decide
    simp [State.owes, notAir]
  · have notAir : (t.eventAt e).state ≠ .onAir := fun x => hs ((EventState.live_iff _).2 (.inr (.inr x)))
    simp [notAir]

/-- The lanes of a list's IN events join the lanes owed, each group's as its switch state stands before the list (R152, R154). -/
theorem foldl_cancelEvent_owes {l : List Nat} (hl : l.Nodup) {lane : Nat} (hlane : lane < 1024) (s : State)
    (apart : ∀ e ∈ l, ∀ f ∈ l, (s.eventAt e).state = .onAir → (s.eventAt f).state = .onAir →
      (s.eventAt e).given.group = (s.eventAt f).given.group → e = f) :
    (l.foldl State.cancelEvent s).owes lane = true ↔ s.owes lane = true ∨ ∃ e ∈ l, (s.eventAt e).state = .onAir ∧
      ∃ m < 4, (s.switchAt (s.eventAt e).given.group).phaseAt m = .clip ∧
        (s.switchAt (s.eventAt e).given.group).laneAt m = some lane := by
  induction l generalizing s with
  | nil => simp
  | cons e l ih =>
    obtain ⟨hel, hl⟩ := List.nodup_cons.1 hl
    have event : ∀ f ∈ l, (s.cancelEvent e).eventAt f = s.eventAt f := fun f hf =>
      State.cancelEvent_eventAt_other s e f fun h => hel (h ▸ hf)
    have switch : ∀ f ∈ l, (s.eventAt f).state = .onAir →
        (s.cancelEvent e).switchAt (s.eventAt f).given.group = s.switchAt (s.eventAt f).given.group := fun f hf hair => by
      rw [State.cancelEvent_switchAt, if_neg]
      rintro ⟨heair, hgroup, -⟩
      exact hel (apart e (by simp) f (by simp [hf]) heair hair hgroup ▸ hf)
    rw [List.foldl_cons, ih hl (s.cancelEvent e) fun f hf k hk => by
      rw [event f hf, event k hk]
      exact apart f (by simp [hf]) k (by simp [hk]), State.cancelEvent_owes s e hlane, List.exists_mem_cons_iff, or_assoc]
    refine or_congr_right (or_congr_right ⟨?_, ?_⟩)
    · rintro ⟨f, hf, hair, hm⟩
      rw [event f hf] at hair hm
      rw [switch f hf hair] at hm
      exact ⟨f, hf, hair, hm⟩
    · rintro ⟨f, hf, hair, hm⟩
      refine ⟨f, hf, ?_⟩
      rw [event f hf, switch f hf hair]
      exact ⟨hair, hm⟩

/-- With the groups in agreement the lanes owed behind a RESTART are those owed before it and those of the SPLICED groups' members in
CLIP (R154). -/
theorem State.cancelAll_owes (h : s.groupLaw) {lane : Nat} (hlane : lane < 1024) :
    s.cancelAll.owes lane = true ↔ s.owes lane = true ∨ ∃ g < 16, (s.groupAt g).state = .spliced ∧
      ∃ m < 4, (s.switchAt g).phaseAt m = .clip ∧ (s.switchAt g).laneAt m = some lane := by
  rw [State.cancelAll_eq, foldl_cancelEvent_owes eventNumbers_nodup hlane]
  · refine or_congr_right ⟨?_, ?_⟩
    · rintro ⟨e, he, hair, hm⟩
      obtain ⟨hg, hactive⟩ := h.held e (mem_eventNumbers.1 he) (.inr hair)
      exact ⟨_, hg, (h.spliced _ hg).2 ⟨e, hactive, hair⟩, hm⟩
    · rintro ⟨g, hg, hspliced, hm⟩
      obtain ⟨e, hactive, hair⟩ := (h.spliced g hg).1 hspliced
      obtain ⟨he, -, rfl⟩ := h.active g hg e hactive
      exact ⟨e, mem_eventNumbers.2 he, hair, hm⟩
  · intro e he f hf heair hfair hgroup
    have active := (h.held e (mem_eventNumbers.1 he) (.inr heair)).2
    rw [hgroup, (h.held f (mem_eventNumbers.1 hf) (.inr hfair)).2] at active
    exact (Option.some.inj active).symm

end

end Sys2Proof.Machine

namespace Sys2Proof.Machine

/-! ### RESTART (R34, R91, R92, R105, R161, R167) -/

theorem satAdd_satAdd (c a b : Nat) : satAdd (satAdd c a) b = satAdd c (a + b) := by
  unfold satAdd; omega

/-- The Emitter at a RESTART before its notice: STOPPED, nothing pending, its queue flushed (R92). -/
def State.stopEmitter (s : State) : State :=
  { s.flushQueue with emitter := { s.flushQueue.emitter with state := .stopped, change := .none } }

/-- The EMITTER notice of a RESTART: none from STOPPED (R91, R92). -/
def State.stopNotices (s : State) : List (NoticeKind × List Byte) :=
  if s.emitter.state = .stopped then []
  else [(.emitter, s.stopEmitter.emitterNoticeData s.emitter.state .restart s.queue.length)]

theorem State.restartEmitter_eq (s : State) :
    s.restartEmitter = { s.stopEmitter with control := s.control.withNotices s.clock s.stopNotices } := by
  unfold State.restartEmitter State.stopNotices
  dsimp only
  split
  · rfl
  · exact State.notify_eq s.stopEmitter _ _

theorem State.stopEmitter_access (s : State) :
    s.stopEmitter.store.access = s.store.access.map (Access.dropped StagedItem.isRecord) :=
  CellStore.dropStaged_access s.store StagedItem.isRecord

/-- The watch list hears of every record that a flush discards (R50, R75). -/
theorem State.stopEmitter_watchAt (s : State) (n : Nat) :
    s.stopEmitter.watchAt n = { s.watchAt n with
      discarded := satAdd (s.watchAt n).discarded (s.queue.countP (fun r => decide ((s.watchAt n).lane = some r.inLane))) } :=
  rowAt_map s.watch (fun w : WatchEntry =>
    { w with discarded := satAdd w.discarded (s.queue.countP (fun r => decide (w.lane = some r.inLane))) }) n (by
      simp [WatchEntry.afterReset, satAdd, counterMax])

/-- The state in which a RESTART cancels the events: the intakes and the command queue emptied, the epoch drawn, the reply queued. -/
def State.restartReplied (s : State) (c : Command) : State :=
  s.popCommand.restartIntakes.restartControl.reply c .ok (bytes1 (s.control.queue.length - 1))

section
variable (s : State) (c : Command)

theorem State.restartReplied_frame :
    (s.restartReplied c).clock = s.clock ∧ (s.restartReplied c).laneMap = s.laneMap ∧
    (s.restartReplied c).continuity = s.continuity ∧ (s.restartReplied c).groups = s.groups ∧ (s.restartReplied c).plan = s.plan ∧
    (s.restartReplied c).queue = s.queue ∧ (s.restartReplied c).emitter = s.emitter ∧ (s.restartReplied c).switch = s.switch ∧
    (s.restartReplied c).owed = s.owed ∧ (s.restartReplied c).clips = s.clips ∧
    (s.restartReplied c).clipLanesOut = s.clipLanesOut ∧ (s.restartReplied c).clipUnexpected = s.clipUnexpected ∧
    (s.restartReplied c).events = s.events ∧ (s.restartReplied c).order = s.order := by
  simp [State.restartReplied]

theorem State.restartReplied_intakes :
    (s.restartReplied c).nf = { s.nf with fifo := [] } ∧ (s.restartReplied c).lf = { s.lf with fifo := [] } ∧
    (s.restartReplied c).store = { s.store with nfWaiting := none, lfWaiting := none } := by
  unfold State.restartReplied State.restartIntakes
  cases h : s.popCommand.store.nfWaiting <;> exact ⟨rfl, rfl, rfl⟩

theorem State.restartReplied_control :
    (s.restartReplied c).control = { s.control with
      epoch := drawEpoch s.control.epochCounter (some s.control.epoch)
      queue := []
      monitor := s.control.monitor ++
        [{ disc := s.control.gapOwed, tag := BitVec.ofNat 2 s.clock.second.toNat, sub := BitVec.ofNat 24 s.clock.subsecond,
           payload := replyPayload c .ok (drawEpoch s.control.epochCounter (some s.control.epoch)) s.control.site
             (bytes1 (s.control.queue.length - 1)) }]
      gapOwed := false } := by
  unfold State.restartReplied State.restartIntakes
  cases h : s.popCommand.store.nfWaiting <;> rfl

/-- The watch list hears of a waiting network cell as discarded, before `k` records of the queue (R50, R105). -/
theorem State.restartReplied_watchAt (n k : Nat) :
    ((s.restartReplied c).watchAt n).lane = (s.watchAt n).lane ∧
    { (s.restartReplied c).watchAt n with discarded := satAdd ((s.restartReplied c).watchAt n).discarded k } =
      { s.watchAt n with
        discarded := satAdd (s.watchAt n).discarded
          (s.store.nfWaiting.toList.countP (fun r => decide ((s.watchAt n).lane = some r.inLane)) + k) } := by
  cases h : s.store.nfWaiting with
  | none =>
    have told : (s.restartReplied c).watchAt n = s.watchAt n := by
      unfold State.restartReplied State.restartIntakes
      rw [show s.popCommand.store.nfWaiting = none from h]
      rfl
    rw [told]
    simp
  | some r =>
    have told : (s.restartReplied c).watchAt n = (s.watchLane r.inLane WatchEntry.addDiscarded).watchAt n := by
      unfold State.restartReplied State.restartIntakes
      rw [show s.popCommand.store.nfWaiting = some r from h]
      rfl
    rw [told, State.watchAt_watchLane]
    by_cases hlane : (s.watchAt n).lane = some r.inLane <;> simp [hlane, WatchEntry.addDiscarded, satAdd_satAdd]

end

end Sys2Proof.Machine

namespace Sys2Proof.Machine

/-! What the Emitter's part of a RESTART makes of the Emitter, the store, the queue and the watch list (R92). -/

theorem State.restartEmitter_stopped (s : State) :
    s.restartEmitter.emitter = { s.emitter with state := .stopped, change := .none } := by
  rw [State.restartEmitter_eq]; rfl

theorem State.restartEmitter_flushed (s : State) : s.restartEmitter.store = s.stopEmitter.store := by
  rw [State.restartEmitter_eq]

theorem State.restartEmitter_queue (s : State) : s.restartEmitter.queue = [] := by
  rw [State.restartEmitter_eq]; rfl

theorem State.restartEmitter_watchAt (s : State) (n : Nat) : s.restartEmitter.watchAt n = s.stopEmitter.watchAt n := by
  rw [State.restartEmitter_eq]; rfl

theorem State.stopEmitter_ringHead (s : State) : s.stopEmitter.store.ringHead = s.store.ringTail := rfl

theorem State.restartEmitter_emitterNotice (s : State) (b : EmitterState) (k : EmitterCause) (n : Nat) :
    s.restartEmitter.emitterNoticeData b k n = s.stopEmitter.emitterNoticeData b k n := by
  rw [State.restartEmitter_eq]
  rfl

/-- What a granted RESTART leaves. -/
def State.restarted (s : State) (c : Command) : State := (s.restartReplied c).cancelAll.restartEmitter

section
variable (s : State) (c : Command)

theorem State.restarted_queue : (s.restarted c).control.queue = [] := by
  simp [State.restarted, State.restartReplied_control]

/-- A granted RESTART leaves no command behind, foreign or not (R167). -/
theorem exec_restart (h : s.grants .restart c) : exec .restart s = .next (s.restarted c) := by
  have granted : exec .restart s = .next (restartBody c s.popCommand).discardForeign :=
    State.takeCommand_granted restartBody h
  have body : restartBody c s.popCommand = s.restarted c := by
    unfold restartBody State.restarted State.restartReplied
    rw [show s.popCommand.control.queue.length = s.control.queue.length - 1 from List.length_tail]
  have same : (s.restarted c).discardForeign = s.restarted c := by
    unfold State.discardForeign
    rw [State.restarted_queue, List.dropWhile_nil, ← State.restarted_queue s c]
  rw [granted, body, same]

/-- What a RESTART keeps (R167). -/
theorem State.restarted_frame :
    (s.restarted c).clock = s.clock ∧ (s.restarted c).plan = s.plan ∧ (s.restarted c).laneMap = s.laneMap ∧
    (s.restarted c).continuity = s.continuity ∧ (s.restarted c).clipLanesOut = s.clipLanesOut ∧
    (s.restarted c).clipUnexpected = s.clipUnexpected ∧ (s.restarted c).nf = { s.nf with fifo := [] } ∧
    (s.restarted c).lf = { s.lf with fifo := [] } := by
  simp [State.restarted, State.restartReplied_frame, State.restartReplied_intakes]

/-- What the Emitter's part of a RESTART leaves of the schedule, the groups and the clips. -/
theorem State.restarted_schedule :
    (s.restarted c).events = (s.restartReplied c).cancelAll.events ∧ (s.restarted c).order = (s.restartReplied c).cancelAll.order ∧
    (s.restarted c).groups = (s.restartReplied c).cancelAll.groups ∧ (s.restarted c).switch = (s.restartReplied c).cancelAll.switch ∧
    (s.restarted c).owed = (s.restartReplied c).cancelAll.owed ∧ (s.restarted c).clips = (s.restartReplied c).cancelAll.clips := by
  simp [State.restarted]

theorem State.restarted_eventAt (e : Nat) : (s.restarted c).eventAt e = (s.restartReplied c).cancelAll.eventAt e := by
  unfold State.eventAt; rw [(s.restarted_schedule c).1]

theorem State.restartReplied_eventAt (e : Nat) : (s.restartReplied c).eventAt e = s.eventAt e := by
  unfold State.eventAt; simp [State.restartReplied_frame]

theorem State.restartReplied_groupAt (g : Nat) : (s.restartReplied c).groupAt g = s.groupAt g := by
  unfold State.groupAt; simp [State.restartReplied_frame]

theorem State.restartReplied_clipAt (k : Nat) : (s.restartReplied c).clipAt k = s.clipAt k := by
  unfold State.clipAt; simp [State.restartReplied_frame]

theorem State.restartReplied_switchAt (g : Nat) : (s.restartReplied c).switchAt g = s.switchAt g := by
  unfold State.switchAt; simp [State.restartReplied_frame]

theorem State.restartReplied_owes (lane : Nat) : (s.restartReplied c).owes lane = s.owes lane := by
  unfold State.owes; simp [State.restartReplied_frame]

/-- The reply, then the SPLICE notices in ascending order of event number, then the EMITTER notice (R138, R167). -/
theorem State.restarted_control :
    (s.restarted c).control = (s.restartReplied c).control.withNotices s.clock
      (((List.range 32).filter (fun e => decide ((s.eventAt e).state = .pending ∨ (s.eventAt e).state = .armed ∨
          (s.eventAt e).state = .onAir))).map (fun e => (.splice, (s.restarted c).spliceNoticeData e (s.eventAt e).state)) ++
        if s.emitter.state = .stopped then []
        else [(.emitter, (s.restarted c).emitterNoticeData s.emitter.state .restart s.queue.length)]) := by
  have clock : (s.restartReplied c).clock = s.clock := (s.restartReplied_frame c).1
  have cancelled := (s.restartReplied c).cancelAll_control_notices (t := s.restarted c)
    ((s.restarted_frame c).1.trans clock.symm) fun e _ => s.restarted_eventAt c e
  have live : (fun e => decide ((s.eventAt e).state = .pending ∨ (s.eventAt e).state = .armed ∨ (s.eventAt e).state = .onAir)) =
      fun e => (s.eventAt e).state.live := by
    funext e
    rw [Bool.eq_iff_iff, decide_eq_true_iff, EventState.live_iff]
  have stopped : (s.restartReplied c).cancelAll.stopNotices =
      if s.emitter.state = .stopped then []
      else [(.emitter, (s.restarted c).emitterNoticeData s.emitter.state .restart s.queue.length)] := by
    have state : (s.restartReplied c).cancelAll.emitter.state = s.emitter.state := by simp [State.restartReplied_frame]
    have queue : (s.restartReplied c).cancelAll.queue = s.queue := by simp [State.restartReplied_frame]
    rw [State.stopNotices, state, queue, ← State.restartEmitter_emitterNotice, State.restarted]
  have last : (s.restarted c).control = (s.restartReplied c).cancelAll.control.withNotices (s.restartReplied c).cancelAll.clock
      (s.restartReplied c).cancelAll.stopNotices := by
    unfold State.restarted
    rw [State.restartEmitter_eq]
  rw [last, stopped, (State.cancelAll_sameTime _).clock, clock, cancelled, clock, ← ControlUnit.withNotices_append,
    State.cancelNotices_congr (s := s) _ fun e _ => s.restartReplied_eventAt c e, live]
  rfl

theorem State.restarted_emitter :
    (s.restarted c).emitter = { s.emitter with
      state := .stopped
      change := .none
      counters := { s.emitter.counters with clipTruncated := (s.restarted c).emitter.counters.clipTruncated } } := by
  have emitter : (s.restartReplied c).emitter = s.emitter := by simp [State.restartReplied_frame]
  have stopped : (s.restarted c).emitter =
      { (s.restartReplied c).cancelAll.emitter with state := .stopped, change := .none } := State.restartEmitter_stopped _
  have counters := (s.restartReplied c).cancelAll_counters
  rw [emitter] at counters
  rw [stopped]
  dsimp only
  rw [← counters]
  simp [emitter]

theorem State.restarted_store :
    (s.restarted c).store.setting = s.store.setting ∧ (s.restarted c).store.free = s.store.free ∧
    (s.restarted c).store.dram = s.store.dram ∧ (s.restarted c).store.nfWaiting = none ∧
    (s.restarted c).store.lfWaiting = none ∧ (s.restarted c).store.ringHead = s.store.ringTail ∧
    (s.restarted c).store.ringTail = s.store.ringTail := by
  have head : (s.restarted c).store.ringHead = (s.restartReplied c).cancelAll.store.ringTail := by
    rw [State.restarted, State.restartEmitter_flushed, State.stopEmitter_ringHead]
  rw [head]
  simp [State.restarted, State.restartReplied_intakes]

theorem State.restarted_records : (s.restarted c).queue = [] := State.restartEmitter_queue _

/-- The flush of a RESTART drops the queue's records from the staging buffer (R104). -/
theorem State.restarted_access :
    (s.restarted c).store.access = (s.restartReplied c).cancelAll.store.access.map (Access.dropped StagedItem.isRecord) := by
  rw [State.restarted, State.restartEmitter_flushed, State.stopEmitter_access]

theorem State.restartReplied_access : (s.restartReplied c).store.access = s.store.access := by
  rw [(s.restartReplied_intakes c).2.2]

theorem State.restarted_watchAt (n : Nat) :
    (s.restarted c).watchAt n = { s.watchAt n with
      discarded := satAdd (s.watchAt n).discarded
        ((s.store.nfWaiting.toList ++ s.queue).countP (fun r => decide ((s.watchAt n).lane = some r.inLane))) } := by
  have cancelled : (s.restartReplied c).cancelAll.watchAt n = (s.restartReplied c).watchAt n := by
    unfold State.watchAt; simp
  have queue : (s.restartReplied c).cancelAll.queue = s.queue := by simp [State.restartReplied_frame]
  have told : (s.restarted c).watchAt n = (s.restartReplied c).cancelAll.stopEmitter.watchAt n := State.restartEmitter_watchAt _ n
  obtain ⟨lane, counted⟩ := s.restartReplied_watchAt c n
    (s.queue.countP (fun r => decide ((s.watchAt n).lane = some r.inLane)))
  rw [told, State.stopEmitter_watchAt, cancelled, queue, lane, counted, List.countP_append]

end

end Sys2Proof.Machine

namespace Sys2Proof.Machine

/-- The splice law speaks of the events, the order, the groups and the clips alone. -/
theorem State.spliceLaw.congr {s t : State} (h : s.spliceLaw) (hevents : t.events = s.events) (horder : t.order = s.order)
    (hgroups : t.groups = s.groups) (hclips : t.clips = s.clips) : t.spliceLaw := by
  have event : ∀ e, t.eventAt e = s.eventAt e := fun e => by unfold State.eventAt; rw [hevents]
  have group : ∀ g, t.groupAt g = s.groupAt g := fun g => by unfold State.groupAt; rw [hgroups]
  have clip : ∀ c, t.clipAt c = s.clipAt c := fun c => by unfold State.clipAt; rw [hclips]
  obtain ⟨⟨once, exact', inTable⟩, ⟨held, active, spliced⟩, ⟨cued, playing, single, known⟩⟩ := h
  refine ⟨⟨horder ▸ once, ?_, ?_⟩, ⟨?_, ?_, ?_⟩, ⟨?_, ?_, ?_, ?_⟩⟩ <;>
    simp only [event, group, clip, horder] <;> assumption

section
variable (s : State) (c : Command)

theorem State.restartReplied_spliceLaw (h : s.spliceLaw) : (s.restartReplied c).spliceLaw :=
  h.congr (by simp [State.restartReplied_frame]) (by simp [State.restartReplied_frame]) (by simp [State.restartReplied_frame])
    (by simp [State.restartReplied_frame])

theorem State.restarted_groupAt (g : Nat) : (s.restarted c).groupAt g = (s.restartReplied c).cancelAll.groupAt g := by
  unfold State.groupAt State.restarted; simp

theorem State.restarted_switchAt (g : Nat) : (s.restarted c).switchAt g = (s.restartReplied c).cancelAll.switchAt g := by
  unfold State.switchAt State.restarted; simp

theorem State.restarted_clipAt (k : Nat) : (s.restarted c).clipAt k = (s.restartReplied c).cancelAll.clipAt k := by
  unfold State.clipAt State.restarted; simp

theorem State.restarted_owes (lane : Nat) : (s.restarted c).owes lane = (s.restartReplied c).cancelAll.owes lane := by
  unfold State.owes State.restarted; simp

theorem State.restarted_order : (s.restarted c).order = (s.restartReplied c).cancelAll.order := by
  simp [State.restarted]

/-- A PENDING, ARMED or IN event is CANCELLED with cause RESTART (R138). -/
theorem State.restarted_cancelled {e : Nat} (he : e < 32) (hlive : (s.eventAt e).state.live = true) :
    ∃ n, (s.restarted c).eventAt e = s.restartedRecord e n := by
  obtain ⟨n, hn⟩ := ((s.restartReplied c).cancelAll_eventAt he).1 (by rwa [State.restartReplied_eventAt])
  refine ⟨n, (s.restarted_eventAt c e).trans (hn.trans ?_)⟩
  unfold State.restartedRecord
  simp only [State.restartReplied_eventAt, State.restartReplied_frame]

/-- Any other event stays (R138). -/
theorem State.restarted_kept {e : Nat} (he : e < 32) (hfinal : (s.eventAt e).state.live = false) :
    (s.restarted c).eventAt e = s.eventAt e := by
  rw [State.restarted_eventAt, ((s.restartReplied c).cancelAll_eventAt he).2 (by rwa [State.restartReplied_eventAt]),
    State.restartReplied_eventAt]

/-! ### The access in progress at a RESTART (R104, R167) -/

variable {s}

theorem State.restarted_access_none (h : s.store.access = none) : (s.restarted c).store.access = none := by
  rw [State.restarted_access, State.cancelAll_access_none ((s.restartReplied_access c).trans h)]
  rfl

theorem State.restarted_access_write {b : Nat} {d : BlockData} (h : s.store.access = some (.write b d)) :
    (s.restarted c).store.access = some (.write b d) := by
  rw [State.restarted_access, State.cancelAll_access_write ((s.restartReplied_access c).trans h)]
  rfl

theorem Access.dropped_isRecord_clipCell {r : ReadRequest} {k m x : Nat} (hitem : r.item = .clipCell k m x) (w : Bool) :
    Access.dropped StagedItem.isRecord (.read r w) = .read r w := by
  simp [Access.dropped, hitem, StagedItem.isRecord]

/-- A running read stays; that of a record is no longer wanted, and that of a cell of a clip neither CUED nor PLAYING stays as wanted
as it was. -/
theorem State.restarted_access_read {r : ReadRequest} {wanted : Bool} (h : s.store.access = some (.read r wanted)) :
    ∃ still, (s.restarted c).store.access = some (.read r still) ∧ (∀ b, r.item = .record b → still = false) ∧
      (∀ k m x, r.item = .clipCell k m x → (s.clipAt k).state ≠ .cued → (s.clipAt k).state ≠ .playing → still = wanted) := by
  have before := (s.restartReplied_access c).trans h
  obtain ⟨v, hv⟩ := State.cancelAll_access_read before
  refine ⟨v && !r.item.isRecord, ?_, fun b hitem => ?_, fun k m x hitem hcued hplaying => ?_⟩
  · rw [State.restarted_access, hv]
    rfl
  · simp [hitem, StagedItem.isRecord]
  · rw [← State.restartReplied_clipAt s c] at hcued hplaying
    have same := State.cancelAll_access_other hcued hplaying hitem before
    rw [hv] at same
    cases same
    simp [hitem, StagedItem.isRecord]

/-- With the clips in agreement a running read of a cell of a CUED or PLAYING clip is no longer wanted. -/
theorem State.restarted_access_clip (law : s.spliceLaw) {r : ReadRequest} {wanted : Bool} {k m x : Nat}
    (h : s.store.access = some (.read r wanted)) (hitem : r.item = .clipCell k m x) (hk : k < 64)
    (hstate : (s.clipAt k).state = .cued ∨ (s.clipAt k).state = .playing) :
    (s.restarted c).store.access = some (.read r false) := by
  rw [← State.restartReplied_clipAt s c] at hstate
  rw [State.restarted_access, State.cancelAll_access (s.restartReplied_spliceLaw c law).clips hk hstate hitem
    ((s.restartReplied_access c).trans h), Option.map_some, Access.dropped_isRecord_clipCell hitem]

/-- With the groups in agreement the lanes owed are those owed before and those of the SPLICED groups' members in CLIP (R154). -/
theorem State.restarted_owes_iff (law : s.spliceLaw) {lane : Nat} (hlane : lane < 1024) :
    (s.restarted c).owes lane = true ↔ s.owes lane = true ∨ ∃ g < 16, (s.groupAt g).state = .spliced ∧
      ∃ m < 4, (s.switchAt g).phaseAt m = .clip ∧ (s.switchAt g).laneAt m = some lane := by
  rw [State.restarted_owes, State.cancelAll_owes (s.restartReplied_spliceLaw c law).groups hlane]
  simp only [State.restartReplied_owes, State.restartReplied_groupAt, State.restartReplied_switchAt]

theorem State.restarted_clips (law : s.spliceLaw) {k : Nat} (hk : k < 64) :
    ((s.clipAt k).state = .cued ∨ (s.clipAt k).state = .playing → (s.restarted c).clipAt k = (s.clipAt k).returned) ∧
    ((s.clipAt k).state ≠ .cued → (s.clipAt k).state ≠ .playing → (s.restarted c).clipAt k = s.clipAt k) := by
  rw [State.restarted_clipAt]
  refine ⟨fun hstate => ?_, fun hcued hplaying => ?_⟩
  · rw [State.cancelAll_clipAt (s.restartReplied_spliceLaw c law).clips hk (by rwa [State.restartReplied_clipAt]),
      State.restartReplied_clipAt]
  · rw [State.cancelAll_clipAt_other (by rwa [State.restartReplied_clipAt]) (by rwa [State.restartReplied_clipAt]),
      State.restartReplied_clipAt]

end

/-- Settles O43: intakes, command queue and reply first, then the events in their order, then the Emitter. -/
theorem restartKeepsAndClears : Obligations.RestartKeepsAndClears := by
  intro s c h
  obtain ⟨k, hk, drawn, hzero, hheld, skipped⟩ := drawEpoch_first s.control.epochCounter (some s.control.epoch)
  obtain ⟨clock, plan, laneMap, continuity, lanesOut, unexpected, nf, lf⟩ := s.restarted_frame c
  obtain ⟨setting, free, dram, nfWaiting, lfWaiting, head, tail⟩ := s.restarted_store c
  refine ⟨s.restarted c, drawEpoch s.control.epochCounter (some s.control.epoch), exec_restart s c h, hzero,
    fun hsame => hheld (congrArg some hsame), ⟨k, hk, drawn, fun j hj => (skipped j hj).imp_right Option.some.inj⟩, ?_,
    nf, lf, clock, plan, laneMap, continuity, s.restarted_records c, s.restarted_emitter c, setting, free, dram, nfWaiting,
    lfWaiting, head, tail, lanesOut, unexpected, State.restarted_access_none c, fun _ _ => State.restarted_access_write c,
    fun _ _ => State.restarted_access_read c, fun n _ => s.restarted_watchAt c n, fun e he => ⟨fun hlive => ?_, fun hp ha ho => ?_⟩,
    fun law => ?_⟩
  · exact (s.restarted_control c).trans (by rw [State.restartReplied_control])
  · obtain ⟨n, record⟩ := s.restarted_cancelled c he ((EventState.live_iff _).2 hlive)
    rw [record]
    exact ⟨rfl, rfl, rfl, rfl, rfl⟩
  · refine s.restarted_kept c he (Bool.eq_false_iff.2 fun hlive => ?_)
    rcases (EventState.live_iff _).1 hlive with x | x | x
    · exact hp x
    · exact ha x
    · exact ho x
  · have replied := s.restartReplied_spliceLaw c law
    refine ⟨?_, fun g hg => ?_, fun g hg hspliced => ?_, fun lane hlane => State.restarted_owes_iff c law hlane,
      fun r wanted k m x haccess hitem hk hstate => State.restarted_access_clip c law haccess hitem hk hstate,
      fun k hk => State.restarted_clips c law hk⟩
    · rw [State.restarted_order, State.cancelAll_order replied.order]
    · rw [State.restarted_groupAt, State.cancelAll_groupAt replied.groups hg, State.restartReplied_groupAt]
    · rw [State.restarted_switchAt, State.cancelAll_switchAt replied.groups hg (by rwa [State.restartReplied_groupAt])]

end Sys2Proof.Machine

namespace Sys2Proof.Machine

/-! ### What keeps the schedule, the groups and the clips in agreement (R45, R107, R125) -/

/-- Two states have the same schedule, groups and clips as far as the splice law reads them. -/
structure State.SameSchedule (s t : State) : Prop where
  order : t.order = s.order
  state : ∀ e, (t.eventAt e).state = (s.eventAt e).state
  given : ∀ e, (t.eventAt e).given = (s.eventAt e).given
  active : ∀ g, (t.groupAt g).active = (s.groupAt g).active
  spliced : ∀ g, (t.groupAt g).state = (s.groupAt g).state
  cued : ∀ c < 64, (t.clipAt c).state = .cued ↔ (s.clipAt c).state = .cued
  playing : ∀ c < 64, (t.clipAt c).state = .playing ↔ (s.clipAt c).state = .playing

theorem State.spliceLaw.same {s t : State} (h : s.spliceLaw) (k : s.SameSchedule t) : t.spliceLaw := by
  obtain ⟨⟨once, exact', inTable⟩, ⟨held, active, spliced⟩, ⟨cued, playing, single, known⟩⟩ := h
  refine ⟨⟨?_, ?_, ?_⟩, ⟨?_, ?_, ?_⟩, ⟨fun c hc => ?_, fun c hc => ?_, ?_, ?_⟩⟩
  case refine_7 => rw [k.cued c hc, cued c hc]; simp only [k.state, k.given]
  case refine_8 => rw [k.playing c hc, playing c hc]; simp only [k.state, k.given]
  all_goals simp only [k.order, k.state, k.given, k.active, k.spliced]; assumption

/-- The event `e` is not, or no longer, ARMED or IN, and the group and the clip it held are released. -/
structure State.Releases (s : State) (e : Nat) (t : State) : Prop where
  inTable : e < 32
  idle : ¬(t.eventAt e).state.held
  state : ∀ k, k ≠ e → (t.eventAt k).state = (s.eventAt k).state
  given : ∀ k, k ≠ e → (t.eventAt k).given = (s.eventAt k).given
  once : t.order.Nodup
  order : ∀ k, k ∈ t.order ↔ (k = e ∧ (t.eventAt e).state = .pending) ∨ (k ≠ e ∧ k ∈ s.order)
  group : (t.eventAt e).state = .pending → (t.eventAt e).given.group < 16
  active : ∀ g < 16, (t.groupAt g).active = if (s.groupAt g).active = some e then none else (s.groupAt g).active
  spliced : ∀ g < 16, (t.groupAt g).state = .spliced ↔ (s.groupAt g).active ≠ some e ∧ (s.groupAt g).state = .spliced
  cued : ∀ c < 64, (t.clipAt c).state = .cued ↔
    (s.clipAt c).state = .cued ∧ ¬((s.eventAt e).state = .armed ∧ (s.eventAt e).given.clip = c)
  playing : ∀ c < 64, (t.clipAt c).state = .playing ↔
    (s.clipAt c).state = .playing ∧ ¬((s.eventAt e).state = .onAir ∧ (s.eventAt e).given.clip = c)

/-- An event that is held after another was released was held before. -/
theorem State.Releases.held {s t : State} {e : Nat} (k : s.Releases e t) {f : Nat} (hf : (t.eventAt f).state.held) :
    f ≠ e ∧ (s.eventAt f).state.held := by
  have hne : f ≠ e := by rintro rfl; exact k.idle hf
  exact ⟨hne, k.state f hne ▸ hf⟩

/-- The splice law holds on once an event has released its group and its clip. -/
theorem State.spliceLaw.release {s t : State} {e : Nat} (h : s.spliceLaw) (k : s.Releases e t) : t.spliceLaw := by
  obtain ⟨⟨once, exact', inTable⟩, ⟨held, active, spliced⟩, ⟨cued, playing, single, known⟩⟩ := h
  have he := k.inTable
  have state := k.state
  have given := k.given
  have idle := k.idle
  have notArmed : (t.eventAt e).state ≠ .armed := fun x => idle (.inl x)
  have notOnAir : (t.eventAt e).state ≠ .onAir := fun x => idle (.inr x)
  refine ⟨⟨k.once, fun f => ?_, fun f hf => ?_⟩, ⟨fun f hf hheld => ?_, fun g hg f hf => ?_, fun g hg => ?_⟩,
    ⟨fun c hc => ?_, fun c hc => ?_, fun f hf f' hf' hheld hheld' hclip => ?_, fun f hf hheld => ?_⟩⟩
  · have := k.order f
    grind
  · have := k.order f
    have := k.group
    grind
  · obtain ⟨hne, was⟩ := k.held hheld
    have := k.active
    grind
  · have := k.active g hg
    grind
  · have := k.spliced g hg
    have := k.active g hg
    have := spliced g hg
    grind
  · rw [k.cued c hc, cued c hc]
    grind [EventState.held]
  · rw [k.playing c hc, playing c hc]
    grind [EventState.held]
  · obtain ⟨hne, was⟩ := k.held hheld
    obtain ⟨hne', was'⟩ := k.held hheld'
    grind
  · obtain ⟨hne, was⟩ := k.held hheld
    grind

/-- The event `e` is ARMED or IN, and holds its group and its clip, which no other event held. -/
structure State.Holds (s : State) (e : Nat) (t : State) : Prop where
  inTable : e < 32
  held : (t.eventAt e).state.held
  state : ∀ k, k ≠ e → (t.eventAt k).state = (s.eventAt k).state
  given : ∀ k, (t.eventAt k).given = (s.eventAt k).given
  once : t.order.Nodup
  order : ∀ k, k ∈ t.order ↔ k ≠ e ∧ k ∈ s.order
  group : (s.eventAt e).given.group < 16
  free : ∀ k, (s.groupAt (s.eventAt e).given.group).active = some k → k = e
  active : ∀ g < 16, (t.groupAt g).active = if (s.eventAt e).given.group = g then some e else (s.groupAt g).active
  spliced : ∀ g < 16, (t.groupAt g).state = .spliced ↔
    if (s.eventAt e).given.group = g then (t.eventAt e).state = .onAir else (s.groupAt g).state = .spliced
  clip : (s.eventAt e).given.clip < 64
  alone : ∀ k < 32, (s.eventAt k).state.held → (s.eventAt k).given.clip = (s.eventAt e).given.clip → k = e
  cued : ∀ c < 64, (t.clipAt c).state = .cued ↔
    if (s.eventAt e).given.clip = c then (t.eventAt e).state = .armed else (s.clipAt c).state = .cued
  playing : ∀ c < 64, (t.clipAt c).state = .playing ↔
    if (s.eventAt e).given.clip = c then (t.eventAt e).state = .onAir else (s.clipAt c).state = .playing

/-- The splice law holds on once an event holds its group and its clip. -/
theorem State.spliceLaw.hold {s t : State} {e : Nat} (h : s.spliceLaw) (k : s.Holds e t) : t.spliceLaw := by
  obtain ⟨⟨once, exact', inTable⟩, ⟨held, active, spliced⟩, ⟨cued, playing, single, known⟩⟩ := h
  have he := k.inTable
  have state := k.state
  have given := k.given
  have isHeld := k.held
  have alone := k.alone
  have notPending : (t.eventAt e).state ≠ .pending := by
    intro x
    rw [x] at isHeld
    rcases isHeld with y | y <;> cases y
  refine ⟨⟨k.once, fun f => ?_, fun f hf => ?_⟩, ⟨fun f hf hheld => ?_, fun g hg f hf => ?_, fun g hg => ?_⟩,
    ⟨fun c hc => ?_, fun c hc => ?_, fun f hf f' hf' hheld hheld' hclip => ?_, fun f hf hheld => ?_⟩⟩
  · have := k.order f
    grind
  · have := k.order f
    grind
  · have := k.active
    have := k.group
    have := k.free
    grind
  · have := k.active g hg
    grind
  · have := k.spliced g hg
    have := k.active g hg
    have := spliced g hg
    grind
  · rw [k.cued c hc]
    have := cued c hc
    grind [EventState.held]
  · rw [k.playing c hc]
    have := playing c hc
    grind [EventState.held]
  · grind
  · have := k.clip
    grind


/-! ### The transitions of an event (R127, R129, R132, R142, R152) -/

section
variable {s : State} {e : Nat}

/-- An ARMED event that ends releases its group and its clip, and a PENDING one held none (R132). -/
theorem State.spliceLaw.finishEvent_releases (h : s.spliceLaw) (he : e < 32) (hair : (s.eventAt e).state ≠ .onAir)
    {x : EventState} (hx : x.live = false) (c : Option EndingCause) (r : Option FailReason) :
    s.Releases e (s.finishEvent e x c r) := by
  have own : ((s.finishEvent e x c r).eventAt e).state = x := by rw [State.finishEvent_eventAt, if_pos ⟨rfl, he⟩]
  have other : ∀ k, k ≠ e → (s.finishEvent e x c r).eventAt k = s.eventAt k := fun k hk => by
    rw [State.finishEvent_eventAt, if_neg fun y => hk y.1.symm]
  have notHeld : ¬x.held := by rintro (rfl | rfl) <;> cases hx
  have notPending : x ≠ .pending := by rintro rfl; cases hx
  refine ⟨he, by rwa [own], fun k hk => congrArg _ (other k hk), fun k hk => congrArg _ (other k hk), ?_, fun k => ?_,
    fun y => absurd (own ▸ y) notPending, fun g hg => ?_, fun g hg => ?_, fun d hd => ?_, fun d hd => ?_⟩
  · rw [State.finishEvent_order]; exact h.order.once.filter _
  · rw [State.finishEvent_order, own]
    simp [notPending, and_comm]
  · have := h.groups.active g hg e
    rw [State.finishEvent_groupAt]
    grind
  · have := h.groups.active g hg e
    have := h.groups.spliced g hg
    rw [State.finishEvent_groupAt]
    grind [EventState.held]
  · rw [State.finishEvent_clipAt]
    grind [ClipRecord.returned]
  · have := h.clips.cued d hd
    rw [State.finishEvent_clipAt]
    grind [ClipRecord.returned]

/-- An IN event that ends releases its group, which is IDLE then, and its clip (R152). -/
theorem State.spliceLaw.endSplice_releases (h : s.spliceLaw) (hair : (s.eventAt e).state = .onAir)
    {x : EventState} (hx : x.live = false) (c : EndingCause) : s.Releases e (s.endSplice e x c) := by
  have he : e < 32 := State.onAir_lt hair
  have own : ((s.endSplice e x c).eventAt e).state = x := by rw [State.endSplice_eventAt, if_pos ⟨rfl, he⟩]
  have other : ∀ k, k ≠ e → (s.endSplice e x c).eventAt k = s.eventAt k := fun k hk => by
    rw [State.endSplice_eventAt, if_neg fun y => hk y.1.symm]
  have notHeld : ¬x.held := by rintro (rfl | rfl) <;> cases hx
  have notPending : x ≠ .pending := by rintro rfl; cases hx
  obtain ⟨hgroup, hactive⟩ := h.groups.held e he (.inr hair)
  refine ⟨he, by rwa [own], fun k hk => congrArg _ (other k hk), fun k hk => congrArg _ (other k hk), ?_, fun k => ?_,
    fun y => absurd (own ▸ y) notPending, fun g hg => ?_, fun g hg => ?_, fun d hd => ?_, fun d hd => ?_⟩
  · rw [State.endSplice_order]; exact h.order.once.filter _
  · rw [State.endSplice_order, own]
    simp [notPending, and_comm]
  · have := h.groups.active g hg e
    rw [State.endSplice_groupAt]
    grind
  · have := h.groups.active g hg e
    rw [State.endSplice_groupAt]
    grind
  · have := h.clips.playing d hd
    rw [State.endSplice_clipAt]
    grind [ClipRecord.returned]
  · have := h.clips.cued d hd
    rw [State.endSplice_clipAt]
    grind [ClipRecord.returned]

theorem State.spliceLaw.finishEvent (h : s.spliceLaw) (he : e < 32) (hair : (s.eventAt e).state ≠ .onAir) {x : EventState}
    (hx : x.live = false) (c : Option EndingCause) (r : Option FailReason) : (s.finishEvent e x c r).spliceLaw :=
  h.release (h.finishEvent_releases he hair hx c r)

theorem State.spliceLaw.endSplice (h : s.spliceLaw) (hair : (s.eventAt e).state = .onAir) {x : EventState}
    (hx : x.live = false) (c : EndingCause) : (s.endSplice e x c).spliceLaw :=
  h.release (h.endSplice_releases hair hx c)

/-- The place of a new event splits the pending order (R125). -/
theorem State.orderWith_perm (s : State) (e : Nat) (t : Time) : (s.orderWith e t).Perm (e :: s.order) := by
  unfold State.orderWith
  exact List.perm_middle.trans (by rw [List.takeWhile_append_dropWhile])

/-- A SPLICE ADD makes an entry that is not PENDING, ARMED or IN a PENDING event (R125, R127). -/
theorem State.spliceLaw.addEvent (h : s.spliceLaw) (he : e < 32) (hlive : (s.eventAt e).state.live = false)
    {o : SpliceOrder} (ho : o.group < 16) : (s.addEvent e o).spliceLaw := by
  have own : (s.addEvent e o).eventAt e = .added o := by
    rw [State.addEvent]
    exact (State.eventAt_setEvent _ _ _ _).trans (if_pos ⟨rfl, he⟩)
  have other : ∀ k, k ≠ e → (s.addEvent e o).eventAt k = s.eventAt k := fun k hk =>
    (State.eventAt_setEvent _ _ _ _).trans (if_neg fun y => hk y.1.symm)
  have order : (s.addEvent e o).order.Perm (e :: s.order) := State.orderWith_perm (s.setEvent e (.added o)) e o.inTime
  have notHeld : ¬(s.eventAt e).state.held := by rintro (y | y) <;> rw [y] at hlive <;> cases hlive
  have notPending : (s.eventAt e).state ≠ .pending := by intro y; rw [y] at hlive; cases hlive
  have outside : e ∉ s.order := fun y => notPending ((h.order.exact e).1 y).2
  have inactive : ∀ g < 16, (s.groupAt g).active ≠ some e := fun g hg y => notHeld (h.groups.active g hg e y).2.1
  have group : ∀ g, (s.addEvent e o).groupAt g = s.groupAt g := fun _ => rfl
  have clip : ∀ d, (s.addEvent e o).clipAt d = s.clipAt d := fun _ => rfl
  refine h.release ⟨he, ?_, fun k hk => congrArg _ (other k hk), fun k hk => congrArg _ (other k hk), ?_, fun k => ?_,
    fun _ => ?_, fun g hg => ?_, fun g hg => ?_, fun d hd => ?_, fun d hd => ?_⟩
  · rw [own]; rintro (y | y) <;> cases y
  · exact order.nodup_iff.2 (List.nodup_cons.2 ⟨outside, h.order.once⟩)
  · rw [order.mem_iff, own, List.mem_cons]
    by_cases hk : k = e <;> simp [hk, EventRecord.added]
  · rw [own]; exact ho
  · rw [group, if_neg (inactive g hg)]
  · rw [group]; simp [inactive g hg]
  · rw [clip]; grind [EventState.held]
  · rw [clip]; grind [EventState.held]

/-- An event that has already left the pending order ends as one that has not (R129, R132). -/
theorem State.finishEvent_left (s : State) (e : Nat) (x : EventState) (c : Option EndingCause) (r : Option FailReason) :
    ({ s with order := s.order.filter fun f => decide (f ≠ e) } : State).finishEvent e x c r = s.finishEvent e x c r := by
  have again : (s.order.filter fun f => decide (f ≠ e)).filter (fun f => decide (f ≠ e)) =
      s.order.filter fun f => decide (f ≠ e) := by rw [List.filter_filter]; simp
  unfold State.finishEvent State.setEvent
  dsimp only
  rw [again]
  rfl

theorem State.armEvent_fails {why : FailReason} (hfail : s.armFailure e = some why) :
    s.armEvent e = s.finishEvent e .failed none (some why) := by
  rw [State.armEvent_eq, hfail]
  exact s.finishEvent_left e _ _ _

/-- The checks an event passes that becomes ARMED (R129). -/
theorem State.armFailure_none (hpass : s.armFailure e = none) :
    (s.groupAt (s.eventAt e).given.group).active = none ∧ (s.clipAt (s.eventAt e).given.clip).state = .ready := by
  unfold State.armFailure at hpass
  grind

/-- An event taken up for arming that passes the checks holds its group and its clip (R129). -/
theorem State.spliceLaw.armEvent_holds (h : s.spliceLaw) (he : e ∈ s.order) (hpass : s.armFailure e = none) :
    s.Holds e (s.armEvent e) := by
  obtain ⟨inTable, pending⟩ := (h.order.exact e).1 he
  have group := h.order.group e he
  obtain ⟨idle, ready⟩ := State.armFailure_none hpass
  have own : ((s.armEvent e).eventAt e).state = .armed := by
    rw [State.armEvent_eventAt, if_pos ⟨rfl, inTable⟩, hpass]
  have groupAt : ∀ g, (s.armEvent e).groupAt g = if (s.eventAt e).given.group = g ∧ g < 16 then
      { s.groupAt (s.eventAt e).given.group with active := some e } else s.groupAt g := fun g => by
    rw [State.armEvent_eq, hpass]; exact State.groupAt_setGroup _ _ _ _
  have clipAt : ∀ d, ((s.armEvent e).clipAt d).state =
      if (s.eventAt e).given.clip = d ∧ d < 64 then .cued else (s.clipAt d).state := fun d => by
    rw [State.armEvent_eq, hpass]
    exact (congrArg _ (State.clipAt_setClip _ _ _ _)).trans (by split <;> rfl)
  have clip : (s.eventAt e).given.clip < 64 := by
    by_contra hbeyond
    have blank : s.clipAt (s.eventAt e).given.clip = .blank := rowAt_of_le _ _ _ (Nat.not_lt.1 hbeyond)
    rw [blank] at ready
    cases ready
  refine ⟨inTable, by rw [own]; exact .inl rfl, fun k hk => ?_, s.armEvent_given e, ?_, fun k => ?_, group, by simp [idle],
    fun g hg => ?_, fun g hg => ?_, clip, fun k hk hheld hclip => ?_, fun d hd => ?_, fun d hd => ?_⟩
  · rw [State.armEvent_eventAt, if_neg fun y => hk y.1.symm]
  · rw [State.armEvent_order]; exact h.order.once.filter _
  · rw [State.armEvent_order]; simp [and_comm]
  · rw [groupAt]; grind
  · have := h.groups.spliced g hg
    rw [groupAt, own]; grind
  · have := h.clips.cued _ clip
    have := h.clips.playing _ clip
    grind [EventState.held]
  · rw [clipAt, own]; grind
  · rw [clipAt, own]; grind

theorem State.spliceLaw.armEvent (h : s.spliceLaw) (he : e ∈ s.order) : (s.armEvent e).spliceLaw := by
  cases hfail : s.armFailure e with
  | none => exact h.hold (h.armEvent_holds he hfail)
  | some why =>
    obtain ⟨inTable, pending⟩ := (h.order.exact e).1 he
    rw [State.armEvent_fails hfail]
    exact h.finishEvent inTable (by rw [pending]; exact EventState.noConfusion) rfl _ _

end
end Sys2Proof.Machine

namespace Sys2Proof.Machine

/-! ### Updates that leave the schedule as it is -/

section
variable {s t u : State}

theorem State.SameSchedule.of_eq (hevents : t.events = s.events := by simp) (horder : t.order = s.order := by simp)
    (hgroups : t.groups = s.groups := by simp) (hclips : t.clips = s.clips := by simp) : s.SameSchedule t := by
  have event : ∀ e, t.eventAt e = s.eventAt e := fun e => by unfold State.eventAt; rw [hevents]
  have group : ∀ g, t.groupAt g = s.groupAt g := fun g => by unfold State.groupAt; rw [hgroups]
  have clip : ∀ c, t.clipAt c = s.clipAt c := fun c => by unfold State.clipAt; rw [hclips]
  exact ⟨horder, fun e => by rw [event], fun e => by rw [event], fun g => by rw [group], fun g => by rw [group],
    fun c _ => by rw [clip], fun c _ => by rw [clip]⟩

theorem State.SameSchedule.refl (s : State) : s.SameSchedule s := .of_eq

theorem State.SameSchedule.trans (h : s.SameSchedule t) (k : t.SameSchedule u) : s.SameSchedule u :=
  ⟨k.order.trans h.order, fun e => (k.state e).trans (h.state e), fun e => (k.given e).trans (h.given e),
    fun g => (k.active g).trans (h.active g), fun g => (k.spliced g).trans (h.spliced g),
    fun c hc => (k.cued c hc).trans (h.cued c hc), fun c hc => (k.playing c hc).trans (h.playing c hc)⟩

/-- Then an event's record is replaced by one in the same state and with what it was given. -/
theorem State.SameSchedule.setEvent (h : s.SameSchedule t) {e : Nat} {r : EventRecord}
    (hstate : r.state = (t.eventAt e).state := by rfl) (hgiven : r.given = (t.eventAt e).given := by rfl) : s.SameSchedule (t.setEvent e r) := by
  refine h.trans ⟨rfl, fun k => ?_, fun k => ?_, fun _ => rfl, fun _ => rfl, fun _ _ => .rfl, fun _ _ => .rfl⟩ <;>
  · rw [State.eventAt_setEvent]
    grind

/-- Then a group's record is replaced by one with the same active event in the same state. -/
theorem State.SameSchedule.setGroup (h : s.SameSchedule t) {g : Nat} {r : GroupRecord}
    (hactive : r.active = (t.groupAt g).active := by rfl)
    (hstate : r.state = (t.groupAt g).state := by rfl) : s.SameSchedule (t.setGroup g r) := by
  refine h.trans ⟨rfl, fun _ => rfl, fun _ => rfl, fun k => ?_, fun k => ?_, fun _ _ => .rfl, fun _ _ => .rfl⟩ <;>
  · rw [State.groupAt_setGroup]
    grind

/-- Then a clip's record is replaced by one that is CUED or PLAYING exactly when it was. -/
theorem State.SameSchedule.setClip (h : s.SameSchedule t) {c : Nat} {r : ClipRecord}
    (hcued : r.state = .cued ↔ (t.clipAt c).state = .cued := by rfl)
    (hplaying : r.state = .playing ↔ (t.clipAt c).state = .playing := by rfl) :
    s.SameSchedule (t.setClip c r) := by
  refine h.trans ⟨rfl, fun _ => rfl, fun _ => rfl, fun _ => rfl, fun _ => rfl, fun k _ => ?_, fun k _ => ?_⟩ <;>
  · rw [State.clipAt_setClip]
    grind

theorem State.SameSchedule.setStore (h : s.SameSchedule t) (c : CellStore) : s.SameSchedule { t with store := c } :=
  h.trans .of_eq

theorem State.SameSchedule.countEm (h : s.SameSchedule t) (f : EmitterCounters → EmitterCounters) :
    s.SameSchedule (t.countEm f) :=
  h.trans .of_eq

theorem State.SameSchedule.setSwitch (h : s.SameSchedule t) (g : Nat) (w : SwitchState) : s.SameSchedule (t.setSwitch g w) :=
  h.trans .of_eq

theorem State.SameSchedule.notifySplice (h : s.SameSchedule t) (e : Nat) (b : EventState) : s.SameSchedule (t.notifySplice e b) :=
  h.trans .of_eq

theorem State.SameSchedule.enterClip (h : s.SameSchedule t) (g m lane : Nat) : s.SameSchedule (t.enterClip g m lane) :=
  h.trans .of_eq

theorem State.SameSchedule.enterBack (h : s.SameSchedule t) (g m lane : Nat) : s.SameSchedule (t.enterBack g m lane) :=
  h.trans .of_eq

/-- A record replaced by a clip cell, or consumed, moves a cursor and counts (R149, R151). -/
theorem State.SameSchedule.replaceRecord (h : s.SameSchedule t) (e m : Nat) : s.SameSchedule (t.replaceRecord e m).1 := by
  unfold State.replaceRecord
  dsimp only
  split
  · split
    · exact .setEvent (.setStore h.setClip _)
    · dsimp only
      exact .countEm (.setEvent h) _
  · exact h

/-! ### Several events one after another (R128, R131, R148, R153, R154) -/

theorem State.spliceLaw.foldl {f : State → Nat → State} (hf : ∀ t e, e < 32 → State.spliceLaw t → (f t e).spliceLaw)
    (h : s.spliceLaw) : (eventNumbers.foldl f s).spliceLaw := by
  have fold : ∀ l : List Nat, (∀ e ∈ l, e < 32) → ∀ t : State, t.spliceLaw → (l.foldl f t).spliceLaw := by
    intro l hl
    induction l with
    | nil => exact fun _ ht => ht
    | cons e l ih =>
      intro t ht
      exact ih (fun k hk => hl k (.tail _ hk)) _ (hf t e (hl e (.head _)) ht)
  exact fold _ (fun e he => List.mem_range.1 he) s h

/-- The events due stand in the pending order, once each, and each taken up leaves the others there. -/
theorem State.spliceLaw.armDue (h : s.spliceLaw) : s.armDue.spliceLaw := by
  have fold : ∀ (l : List Nat) (t : State), l.Nodup → (∀ e ∈ l, e ∈ t.order) → t.spliceLaw →
      (l.foldl State.armEvent t).spliceLaw := by
    intro l
    induction l with
    | nil => exact fun _ _ _ ht => ht
    | cons e l ih =>
      intro t once within ht
      obtain ⟨fresh, once⟩ := List.nodup_cons.1 once
      refine ih _ once (fun k hk => ?_) (ht.armEvent (within e (.head _)))
      rw [State.armEvent_order, List.mem_filter, decide_eq_true_iff]
      exact ⟨within k (.tail _ hk), fun hke => fresh (hke ▸ hk)⟩
  exact fold _ s (h.order.once.sublist (List.takeWhile_sublist _)) (fun _ => State.dueForArming_mem) h

theorem State.spliceLaw.failMissed (h : s.spliceLaw) : s.failMissed.spliceLaw := by
  refine h.foldl fun t e he ht => ?_
  split
  · rename_i missed
    exact ht.finishEvent he (by rw [missed.1]; exact EventState.noConfusion) rfl _ _
  · exact ht

theorem State.spliceLaw.forceEnds (h : s.spliceLaw) : s.forceEnds.spliceLaw := by
  refine h.foldl fun t e _ ht => ?_
  split
  · rename_i past
    exact ht.endSplice (State.pastForcedEnd_onAir past) rfl _
  · exact ht

theorem State.spliceLaw.endAllOnAir (h : s.spliceLaw) (c : EndingCause) : (s.endAllOnAir c).spliceLaw := by
  refine h.foldl fun t e _ ht => ?_
  split
  · rename_i onAir
    exact ht.endSplice onAir rfl _
  · exact ht

theorem State.spliceLaw.cancelAll (h : s.spliceLaw) : s.cancelAll.spliceLaw := by
  rw [State.cancelAll_eq]
  refine h.foldl fun t e he ht => ?_
  obtain ⟨onAir, ends⟩ | ⟨waiting, ends⟩ | ⟨-, stays⟩ := t.cancelEvent_cases e
  · exact ends ▸ ht.endSplice onAir rfl _
  · refine ends ▸ ht.finishEvent he (fun onAir => ?_) rfl _ _
    rcases waiting with y | y <;> rw [y] at onAir <;> cases onAir
  · exact stays.symm ▸ ht

/-! ### Boundaries (R16, R77, R128 to R131, R148, R153) -/

theorem State.spliceLaw.armAndMiss (h : s.spliceLaw) : s.armAndMiss.spliceLaw := h.armDue.failMissed

/-- The flush and the notice leave the schedule; the rest is the end of the IN events. -/
theorem State.spliceLaw.emitterChange (h : s.spliceLaw) : s.emitterChange.spliceLaw := by
  unfold State.emitterChange
  dsimp only
  split
  · refine State.spliceLaw.endAllOnAir (h.same ?_) _
    split <;> exact .of_eq
  · refine h.same ?_
    split <;> exact .of_eq

theorem State.spliceLaw.armingsAndEnds (h : s.spliceLaw) : s.armingsAndEnds.spliceLaw := by
  have drawn : ((s.draw s.armingMeets).draw (s.draw s.armingMeets).endsMeet).spliceLaw :=
    h.same .of_eq
  unfold State.armingsAndEnds
  dsimp only
  split
  · exact drawn.armAndMiss.forceEnds.emitterChange
  · exact drawn.armAndMiss.emitterChange.forceEnds
  · exact drawn.forceEnds.armAndMiss.emitterChange
  · exact drawn.emitterChange.armAndMiss.forceEnds
  · exact drawn.forceEnds.emitterChange.armAndMiss
  · exact drawn.emitterChange.forceEnds.armAndMiss

theorem State.spliceLaw.handBoundary (h : s.spliceLaw) : s.handBoundary.spliceLaw := by
  have seconds : s.planChange.emitterSecond.spliceLaw := h.same .of_eq
  unfold State.handBoundary
  exact seconds.armingsAndEnds.same .of_eq

theorem State.spliceLaw.edgeBoundary (h : s.spliceLaw) : s.edgeBoundary.spliceLaw := by
  have edge : s.clockBoundary.staleAdvance.spliceLaw := h.same .of_eq
  exact edge.handBoundary

theorem State.spliceLaw.takeStep (h : s.spliceLaw) (b : ClockState) (e : Int) : (s.takeStep b e).spliceLaw := by
  unfold State.takeStep
  dsimp only
  split
  · refine State.spliceLaw.armDue (h.same ?_)
    split <;> exact .of_eq
  · exact State.spliceLaw.handBoundary (h.same .of_eq)

end

end Sys2Proof.Machine

namespace Sys2Proof.Machine

/-! ### The Splice Switch (R140 to R151) -/

section
variable {s : State} {g e m : Nat} {r : Record}

/-- The event, the group and the clip of a switch-in: IN, SPLICED and PLAYING (R142). -/
def State.putOnAir (s : State) (g e : Nat) (r : Record) : State :=
  ((((s.setEvent e { s.eventAt e with state := .onAir, pIn := some r.nominal }).setSwitch g
    { s.switchAt g with pIn := some r.nominal }).setGroup g { s.groupAt g with state := .spliced }).setClip
    (s.eventAt e).given.clip { s.clipAt (s.eventAt e).given.clip with state := .playing })

theorem State.switchIn_eq (s : State) (g e : Nat) (r : Record) :
    s.switchIn g e r =
      (((((s.putOnAir g e r).enterClip g 0 r.outLane).replaceRecord e 0).1.notifySplice e .armed),
        (((s.putOnAir g e r).enterClip g 0 r.outLane).replaceRecord e 0).2) := rfl

/-- The active event of a group that is not SPLICED is ARMED (R45). -/
theorem State.groupLaw.armed (h : s.groupLaw) (hidle : (s.groupAt g).state = .idle) (hactive : (s.groupAt g).active = some e) :
    g < 16 ∧ e < 32 ∧ (s.eventAt e).state = .armed ∧ (s.eventAt e).given.group = g := by
  have hg : g < 16 := by
    by_contra hbeyond
    have blank : s.groupAt g = .afterReset := rowAt_of_le _ _ _ (Nat.not_lt.1 hbeyond)
    rw [blank] at hactive
    cases hactive
  obtain ⟨he, held, group⟩ := h.active g hg e hactive
  refine ⟨hg, he, held.resolve_right fun onAir => ?_, group⟩
  rw [(h.spliced g hg).2 ⟨e, hactive, onAir⟩] at hidle
  cases hidle

/-- The active event of a SPLICED group is IN (R45). -/
theorem State.groupLaw.onAir (h : s.groupLaw) (hspliced : (s.groupAt g).state = .spliced)
    (hactive : (s.groupAt g).active = some e) : (s.eventAt e).state = .onAir := by
  have hg : g < 16 := by
    by_contra hbeyond
    have blank : s.groupAt g = .afterReset := rowAt_of_le _ _ _ (Nat.not_lt.1 hbeyond)
    rw [blank] at hactive
    cases hactive
  obtain ⟨f, hf, onAir⟩ := (h.spliced g hg).1 hspliced
  cases hactive.symm.trans hf
  exact onAir

theorem State.spliceLaw.putOnAir_holds (h : s.spliceLaw) (hidle : (s.groupAt g).state = .idle)
    (hactive : (s.groupAt g).active = some e) (r : Record) : s.Holds e (s.putOnAir g e r) := by
  obtain ⟨hg, he, armed, group⟩ := h.groups.armed hidle hactive
  have clip := h.clips.known e he (.inl armed)
  have eventAt : ∀ k, (s.putOnAir g e r).eventAt k = if e = k ∧ k < 32 then
      { s.eventAt e with state := .onAir, pIn := some r.nominal } else s.eventAt k := fun k => State.eventAt_setEvent _ _ _ _
  have groupAt : ∀ k, (s.putOnAir g e r).groupAt k = if g = k ∧ k < 16 then { s.groupAt g with state := .spliced }
      else s.groupAt k := fun k => State.groupAt_setGroup _ _ _ _
  have clipAt : ∀ d, (s.putOnAir g e r).clipAt d = if (s.eventAt e).given.clip = d ∧ d < 64 then
      { s.clipAt (s.eventAt e).given.clip with state := .playing } else s.clipAt d := fun d => State.clipAt_setClip _ _ _ _
  have own : ((s.putOnAir g e r).eventAt e).state = .onAir := by rw [eventAt, if_pos ⟨rfl, he⟩]
  have order : (s.putOnAir g e r).order = s.order := rfl
  have outside : e ∉ s.order := fun hin => by rw [((h.order.exact e).1 hin).2] at armed; cases armed
  subst group
  refine ⟨he, .inr own, fun k hk => ?_, fun k => ?_, order ▸ h.order.once, fun k => ?_, hg, fun k hk => ?_, fun k hk => ?_,
    fun k hk => ?_, clip, fun k hk hheld hclip => h.clips.single k hk e he hheld (.inl armed) hclip, fun d hd => ?_,
    fun d hd => ?_⟩
  · rw [eventAt, if_neg fun y => hk y.1.symm]
  · rw [eventAt]; split
    · rename_i y; obtain ⟨rfl, -⟩ := y; rfl
    · rfl
  · rw [order]; grind
  · exact Option.some.inj (hk.symm.trans hactive)
  · rw [groupAt]; grind
  · rw [groupAt, own]; grind
  · rw [clipAt, own]; grind
  · rw [clipAt, own]; grind

theorem State.spliceLaw.switchIn (h : s.spliceLaw) (hidle : (s.groupAt g).state = .idle)
    (hactive : (s.groupAt g).active = some e) (r : Record) : (s.switchIn g e r).1.spliceLaw := by
  have held := h.hold (h.putOnAir_holds hidle hactive r)
  rw [State.switchIn_eq]
  exact held.same ((((State.SameSchedule.refl _).enterClip g 0 r.outLane).replaceRecord e 0).notifySplice e .armed)

theorem State.spliceLaw.onIdle (h : s.spliceLaw) (hidle : (s.groupAt g).state = .idle) (m : Nat) (r : Record) :
    (s.onIdle g m r).1.spliceLaw := by
  unfold State.onIdle
  split
  · exact h
  · rename_i e hactive
    obtain ⟨-, he, armed, -⟩ := h.groups.armed hidle hactive
    dsimp only
    split
    · exact h
    split
    · exact h
    split
    · exact h.switchIn hidle hactive r
    · exact h.finishEvent he (by rw [armed]; exact EventState.noConfusion) rfl _ _

theorem State.spliceLaw.endIfBack (h : s.spliceLaw) (hair : (s.eventAt e).state = .onAir) (g : Nat) :
    (s.endIfBack g e).spliceLaw := by
  unfold State.endIfBack
  dsimp only
  split
  · exact h.endSplice hair rfl _
  · exact h

theorem State.spliceLaw.onLeader (h : s.spliceLaw) (hair : (s.eventAt e).state = .onAir) (g : Nat) (r : Record) :
    (s.onLeader g e r).1.spliceLaw := by
  unfold State.onLeader
  dsimp only
  split
  · split
    · have same : s.SameSchedule (((s.setEvent e { s.eventAt e with pOut := some r.nominal }).setSwitch g
          { s.switchAt g with pOut := some r.nominal }).enterBack g 0 r.outLane) :=
        ((State.SameSchedule.refl s).setEvent.setSwitch _ _).enterBack _ _ _
      exact (h.same same).endIfBack ((same.state e).trans hair) g
    · exact h.same ((State.SameSchedule.refl s).replaceRecord e 0)
  · exact h
  · exact h

theorem State.spliceLaw.onMember (h : s.spliceLaw) (hair : (s.eventAt e).state = .onAir) (g m : Nat) (r : Record) :
    (s.onMember g e m r).1.spliceLaw := by
  have replaced := h.same ((State.SameSchedule.refl s).replaceRecord e m)
  unfold State.onMember
  dsimp only
  split
  · split
    · split
      · exact h.same (((State.SameSchedule.refl s).enterClip g m r.outLane).replaceRecord e m)
      · exact h
    · exact h
  · split
    · exact replaced
    · split
      · exact replaced
      split
      · have same := (State.SameSchedule.refl s).enterBack g m r.outLane
        exact (h.same same).endIfBack ((same.state e).trans hair) g
      · exact replaced
  · exact h

theorem State.spliceLaw.switchRecord (h : s.spliceLaw) (r : Record) : (s.switchRecord r).1.spliceLaw := by
  unfold State.switchRecord
  split
  · exact h
  · split
    · rename_i hidle
      exact h.onIdle hidle _ r
    · rename_i hspliced
      split
      · exact h
      · rename_i e hactive
        have hair := h.groups.onAir hspliced hactive
        split
        · exact h.onLeader hair _ r
        · exact h.onMember hair _ _ r

end

end Sys2Proof.Machine

namespace Sys2Proof.Machine

/-! ### The grants of the arbiter leave the clips CUED and PLAYING as they are (R97, R109) -/

section
variable {s t : State}

theorem State.SameSchedule.grantLf (s : State) (w : ClipWrite) : s.SameSchedule (s.grantLf w) := by
  have left : s.SameSchedule (({ s with store := { s.store with lfWaiting := none } } : State).popFifo .lf) :=
    .of_eq
  unfold State.grantLf
  dsimp only
  split
  · split
    · exact left.setClip
    · exact (left.setStore _).setClip
  · exact left.trans .of_eq

theorem State.SameSchedule.grantNf (s : State) (r : Record) : s.SameSchedule (s.grantNf r) :=
  .of_eq

theorem State.SameSchedule.arbitrate (s : State) : s.SameSchedule s.arbitrate := by
  unfold State.arbitrate
  split
  · exact .refl s
  · split
    · exact (State.SameSchedule.refl s).setStore _
    · have nf : s.SameSchedule (match s.store.nfWaiting with
          | some r => s.grantNf r
          | none => s) := by
        split
        · exact .grantNf s _
        · exact .refl s
      dsimp only
      split
      · exact nf
      · split
        · exact nf.trans (.grantLf _ _)
        · exact nf

theorem State.SameSchedule.classify (s : State) (cell : Cell) (output : Nat) (place : Option GroupPlace) :
    s.SameSchedule (s.classify cell output place) := by
  unfold State.classify
  dsimp only
  split
  · split
    · exact .of_eq
    · exact ((State.SameSchedule.refl s).setStore _).trans (.arbitrate _)
  · exact .of_eq

theorem State.SameSchedule.handData (s : State) (cell : Cell) : s.SameSchedule (s.handData cell) := by
  have tested : s.SameSchedule (s.testContinuity cell.header) := .of_eq
  unfold State.handData
  dsimp only
  split
  · exact tested.trans .of_eq
  · exact tested.trans (.classify _ _ _ _)
  · exact tested.trans (.classify _ _ _ _)

theorem State.SameSchedule.handClipCell (s : State) (cell : Cell) : s.SameSchedule (s.handClipCell cell) := by
  unfold State.handClipCell
  dsimp only
  split
  · exact ((State.SameSchedule.refl s).setStore _).trans (.arbitrate _)
  · exact .of_eq

theorem State.SameSchedule.handHead (s : State) (p : Port) (cell : Cell) : s.SameSchedule (s.handHead p cell) := by
  unfold State.handHead
  split
  case h_1 => exact .handData s cell
  case h_5 => exact .handClipCell s cell
  all_goals exact .of_eq

end

end Sys2Proof.Machine

namespace Sys2Proof.Machine

/-! ### The rows and the commands' own rules -/

section
variable {s t : State}

theorem State.afterReset_spliceLaw (straps : BitVec 16) (epoch counter : Word32) (draws : Nat) (pending : List Instr) :
    (State.afterReset straps epoch counter draws pending).spliceLaw := by
  refine ⟨⟨?_, ?_, ?_⟩, ⟨?_, ?_, ?_⟩, ⟨?_, ?_, ?_, ?_⟩⟩ <;>
    simp [EventRecord.blank, GroupRecord.afterReset, ClipRecord.blank, EventState.held]

/-- The record at the head taken for a slot with a lateness, before it goes through the Splice Switch (R86). -/
def State.countTaken (s : State) (r : Record) (late : Nat) : State :=
  if 0 < late then ((s.dropHead 1).watchLane r.inLane WatchEntry.addEmitted).countEm
    (fun c => { c with lateEmitted := satAdd c.lateEmitted 1 })
  else (s.dropHead 1).watchLane r.inLane WatchEntry.addEmitted

theorem State.sendRecord_eq (s : State) (r : Record) (late : Nat) :
    s.sendRecord r late =
      ((s.countTaken r late).switchRecord r).1.sendOnAir r ((s.countTaken r late).switchRecord r).2 := rfl

/-- A slot sends a record through the Splice Switch, ends the IN events, or leaves the schedule (R84 to R87). -/
theorem State.spliceLaw.beginSlot (h : s.spliceLaw) : s.beginSlot.spliceLaw := by
  unfold State.beginSlot
  split
  · exact h
  · exact h.same .of_eq
  · split
    · have examined : s.examineHead.spliceLaw := h.same .of_eq
      unfold State.fillSlot
      dsimp only
      split
      · exact examined.same .of_eq
      · rename_i r rest _
        split
        · rename_i n _
          have counted : (s.examineHead.countTaken r n).spliceLaw := examined.same (by
            unfold State.countTaken
            split <;> exact .of_eq)
          rw [State.sendRecord_eq]
          exact (counted.switchRecord r).same .of_eq
        · exact examined.same .of_eq
        · exact examined.same .of_eq
    · unfold State.muteAtSlot
      exact State.spliceLaw.endAllOnAir (h.same .of_eq) _

variable (c : Command)

theorem State.SameSchedule.reply (h : s.SameSchedule t) (r : Result) (d : List Byte) : s.SameSchedule (t.reply c r d) :=
  h.trans .of_eq

theorem State.spliceLaw.restartBody (h : s.spliceLaw) : (restartBody c s).spliceLaw := by
  have replied : (s.restartIntakes.restartControl.reply c .ok (bytes1 s.control.queue.length)).spliceLaw :=
    h.same .of_eq
  unfold Machine.restartBody
  exact replied.cancelAll.same .of_eq

theorem State.spliceLaw.siteSetBody (h : s.spliceLaw) : (siteSetBody c s).spliceLaw := by
  unfold Machine.siteSetBody
  dsimp only
  split
  · exact h.same .of_eq
  · exact State.spliceLaw.armDue (h.same .of_eq)

theorem State.spliceLaw.groupSetBody (h : s.spliceLaw) : (groupSetBody c s).spliceLaw := by
  unfold Machine.groupSetBody
  dsimp only
  split
  · exact h.same .of_eq
  · exact h.same ((State.SameSchedule.refl s).setGroup.reply c _ _)

/-- A clip that is neither CUED nor PLAYING before and after. -/
theorem State.SameSchedule.setClip_idle (s : State) {n : Nat} {r : ClipRecord}
    (hwas : (s.clipAt n).state ≠ .cued ∧ (s.clipAt n).state ≠ .playing) {x : ClipState} (his : r.state = x)
    (hx : x ≠ .cued ∧ x ≠ .playing) : s.SameSchedule (s.setClip n r) :=
  (State.SameSchedule.refl s).setClip (iff_of_false (his ▸ hx.1) hwas.1) (iff_of_false (his ▸ hx.2) hwas.2)

theorem State.SameSchedule.releaseClip (s : State) {n : Nat}
    (hwas : (s.clipAt n).state ≠ .cued ∧ (s.clipAt n).state ≠ .playing) : s.SameSchedule (s.releaseClip n) :=
  ((State.SameSchedule.refl s).setStore _).trans (.setClip_idle _ hwas rfl ⟨nofun, nofun⟩)

theorem State.SameSchedule.clipOpenBody (s : State) : s.SameSchedule (clipOpenBody c s) := by
  unfold Machine.clipOpenBody
  dsimp only
  split
  · exact (State.SameSchedule.refl s).reply c _ _
  split
  · exact (State.SameSchedule.refl s).reply c _ _
  split
  · rename_i hempty
    refine (State.SameSchedule.setClip_idle s ?_ (x := .loading) rfl ⟨nofun, nofun⟩).reply c _ _
    rw [hempty]; exact ⟨nofun, nofun⟩
  · exact (State.SameSchedule.refl s).reply c _ _

theorem State.SameSchedule.clipCloseBody (s : State) : s.SameSchedule (clipCloseBody c s) := by
  unfold Machine.clipCloseBody
  dsimp only
  split
  · exact (State.SameSchedule.refl s).reply c _ _
  split
  · exact (State.SameSchedule.refl s).reply c _ _
  rename_i hloading
  have idle : (s.clipAt c.clipArg).state ≠ .cued ∧ (s.clipAt c.clipArg).state ≠ .playing := by
    rw [not_not.1 hloading]; exact ⟨nofun, nofun⟩
  split
  · exact (State.SameSchedule.setClip_idle s idle (x := .ready) rfl ⟨nofun, nofun⟩).reply c _ _
  · exact (State.SameSchedule.releaseClip s idle).reply c _ _

theorem State.SameSchedule.clipRemoveBody (s : State) : s.SameSchedule (clipRemoveBody c s) := by
  unfold Machine.clipRemoveBody
  dsimp only
  split
  · exact (State.SameSchedule.refl s).reply c _ _
  split
  case h_1 hstate => exact (State.SameSchedule.releaseClip s (by rw [hstate]; exact ⟨nofun, nofun⟩)).reply c _ _
  case h_2 hstate => exact (State.SameSchedule.releaseClip s (by rw [hstate]; exact ⟨nofun, nofun⟩)).reply c _ _
  all_goals exact (State.SameSchedule.refl s).reply c _ _

/-- The entry a SPLICE ADD is given is FREE or in a final state (R127). -/
theorem State.entryFor_idle {e : Nat} (h : s.entryFor = some e) : e < 32 ∧ (s.eventAt e).state.live = false := by
  have fold : ∀ (l : List Nat) (best : Option Nat), (∀ k ∈ l, k < 32) →
      (∀ b, best = some b → b < 32 ∧ (s.eventAt b).state.live = false) →
      ∀ b, l.foldl s.olderFinish best = some b → b < 32 ∧ (s.eventAt b).state.live = false := by
    intro l
    induction l with
    | nil => exact fun _ _ hb => hb
    | cons k l ih =>
      intro best hl hbest
      refine ih _ (fun j hj => hl j (.tail _ hj)) fun b hb => ?_
      have hk := hl k (.head _)
      unfold State.olderFinish at hb
      cases hs : (s.eventAt k).state <;> grind [EventState.final, EventState.live]
  unfold State.entryFor at h
  split at h
  · rename_i f hfree
    cases h
    have free := List.find?_some hfree
    rw [decide_eq_true_iff] at free
    exact ⟨List.mem_range.1 (List.mem_of_find?_eq_some hfree), by rw [free]; rfl⟩
  · exact fold _ none (fun k hk => List.mem_range.1 hk) nofun e h

theorem State.spliceLaw.spliceAddBody (h : s.spliceLaw) : (spliceAddBody c s).spliceLaw := by
  have refused : ∀ r d, (s.reply c r d).spliceLaw := fun r d => h.same ((State.SameSchedule.refl s).reply c r d)
  unfold Machine.spliceAddBody
  dsimp only
  split
  · exact refused _ _
  split
  · exact refused _ _
  split
  · exact refused _ _
  rename_i inRange
  split
  · exact refused _ _
  split
  · exact refused _ _
  split
  · exact refused _ _
  · rename_i e entry
    obtain ⟨he, idle⟩ := State.entryFor_idle entry
    have group : c.spliceOrder.group < 16 := by
      simp [State.orderInRange] at inRange
      omega
    exact (h.addEvent he idle group).same ((State.SameSchedule.refl _).reply c _ _)

theorem State.SameSchedule.requestReturn (s : State) (e : Nat) : s.SameSchedule (s.requestReturn e) := by
  unfold State.requestReturn
  dsimp only
  split
  · exact .refl s
  · exact (State.SameSchedule.refl s).setEvent

theorem State.spliceLaw.spliceCancelBody (h : s.spliceLaw) : (spliceCancelBody c s).spliceLaw := by
  have replied : ∀ r d, (s.reply c r d).spliceLaw := fun r d => h.same ((State.SameSchedule.refl s).reply c r d)
  unfold Machine.spliceCancelBody
  dsimp only
  split
  · exact replied _ _
  rename_i inTable
  split
  · exact replied _ _
  have he : c.eventArg < 32 := Nat.lt_succ_of_le (Nat.not_lt.1 inTable)
  split
  case h_1 hstate => exact (replied _ _).finishEvent he (fun hair => EventState.noConfusion (hstate.symm.trans hair)) rfl _ _
  case h_2 hstate => exact (replied _ _).finishEvent he (fun hair => EventState.noConfusion (hstate.symm.trans hair)) rfl _ _
  case h_3 => exact h.same ((State.SameSchedule.requestReturn s _).reply c _ _)
  all_goals exact replied _ _

/-- A command keeps the splice law where its own rule does (R158 to R160). -/
theorem State.spliceLaw.takeCommand (h : s.spliceLaw) {name : CommandName} {body : Command → State → State}
    (hbody : ∀ c u, State.spliceLaw u → (body c u).spliceLaw) (ht : s.takeCommand name body = .next t) : t.spliceLaw := by
  have popped : s.popCommand.spliceLaw := h.same .of_eq
  exact State.takeCommand_keeps State.spliceLaw h
    (fun u hu => hu.same .of_eq)
    (fun c _ r _ _ => popped.same ((State.SameSchedule.refl _).reply c r _)) (fun c _ _ _ _ => hbody c _ popped) ht

/-- A command whose own rule leaves the schedule, the groups and the clips keeps the splice law. -/
theorem State.spliceLaw.takeCommand_same (h : s.spliceLaw) {name : CommandName} {body : Command → State → State}
    (hbody : ∀ c u, State.SameSchedule u (body c u)) (ht : s.takeCommand name body = .next t) : t.spliceLaw :=
  h.takeCommand (fun c u hu => hu.same (hbody c u)) ht

end

section
variable {s t : State} (h : s.spliceLaw)
include h

theorem State.spliceLaw.execCountedEdge (ht : execCountedEdge s = .next t) : t.spliceLaw := by
  unfold Machine.execCountedEdge at ht
  split at ht <;> (injection ht with ht; subst ht)
  · exact h.same .of_eq
  · exact h.edgeBoundary

theorem State.spliceLaw.execSecondBoundary (ht : execSecondBoundary s = .next t) : t.spliceLaw := by
  unfold Machine.execSecondBoundary at ht
  split at ht <;> (injection ht with ht; subst ht)
  · exact h
  · exact h.edgeBoundary

theorem State.spliceLaw.execVerdict (ht : execVerdict s = .next t) : t.spliceLaw := by
  have judged : ∀ c, ({ s with clock := c } : State).spliceLaw := fun _ => h.same .of_eq
  unfold Machine.execVerdict at ht
  dsimp only at ht
  (repeat' split at ht) <;> (injection ht with ht; subst ht)
  · exact h.same .of_eq
  · exact (judged _).takeStep _ _
  · exact h

theorem State.spliceLaw.execIntakeHeadHandoff {p : Port} (ht : execIntakeHeadHandoff p s = .next t) : t.spliceLaw := by
  unfold Machine.execIntakeHeadHandoff at ht
  (repeat' split at ht) <;> (injection ht with ht; subst ht)
  · exact h
  · exact h
  · exact h.same (.handHead s p _)

theorem State.spliceLaw.execCellStoreAccessEnd (ht : execCellStoreAccessEnd s = .next t) : t.spliceLaw := by
  unfold Machine.execCellStoreAccessEnd at ht
  split at ht
  · injection ht with ht; subst ht; exact h
  · split at ht
    · injection ht with ht; subst ht
      exact h.same (((State.SameSchedule.refl s).setStore _).trans (.arbitrate _))
    · cases ht

theorem State.spliceLaw.execEmitterStagingRead {c : StageChoice} (ht : execEmitterStagingRead c s = .next t) : t.spliceLaw := by
  unfold Machine.execEmitterStagingRead at ht
  (repeat' split at ht) <;> (injection ht with ht; subst ht)
  · exact h
  · exact h
  · exact h.same (((State.SameSchedule.refl s).setStore _).trans (.arbitrate _))

theorem State.spliceLaw.execSlotStart (ht : execSlotStart s = .next t) : t.spliceLaw := by
  unfold Machine.execSlotStart at ht
  split at ht <;> (injection ht with ht; subst ht)
  · exact State.spliceLaw.beginSlot (h.same .of_eq)
  · exact h

end

theorem State.spliceLaw.kept {s t : State} (h : s.spliceLaw)
    (k : t.events = s.events ∧ t.order = s.order ∧ t.groups = s.groups ∧ t.clips = s.clips) : t.spliceLaw := by
  obtain ⟨events, order, groups, clips⟩ := k
  exact h.congr events order groups clips

/-- Every row keeps the splice law: most leave the schedule, the groups and the clips as they are. -/
theorem exec_spliceLaw {i : Instr} {s t : State} (h : s.spliceLaw) (ht : exec i s = .next t) : t.spliceLaw := by
  cases i with
  | fullReset cause straps => cases cause <;> (injection ht with ht; subst ht; exact State.afterReset_spliceLaw _ _ _ _ _)
  | countedEdge => exact h.execCountedEdge ht
  | epochCounterTick => injection ht with ht; subst ht; exact h.same .of_eq
  | secondBoundary => exact h.execSecondBoundary ht
  | timeCodeMessage intact n => exact h.kept (by simp [execTimeCodeMessage_frame ht])
  | pulse => injection ht with ht; subst ht; exact h.same .of_eq
  | verdict => exact h.execVerdict ht
  | frequencyLoss => exact h.kept (by simp [execFrequencyLoss_frame ht])
  | frequencyReturn => injection ht with ht; subst ht; exact h.same .of_eq
  | huntCandidate p b => exact h.kept (by simp [execHuntCandidate_frame ht])
  | presyncHeader p b => exact h.kept (by simp [execPresyncHeader_frame ht])
  | syncHeader p b => exact h.kept (by simp [execSyncHeader_frame ht])
  | cellDelivery p b => exact h.kept (by simp [execCellDelivery_frame ht])
  | intakeHeadHandoff p => exact h.execIntakeHeadHandoff ht
  | cellStoreAccessEnd => exact h.execCellStoreAccessEnd ht
  | emitterStagingRead c => exact h.execEmitterStagingRead ht
  | slotStart => exact h.execSlotStart ht
  | eventArming => injection ht with ht; subst ht; exact h.armDue
  | monitorCellSent => exact h.kept (by simp [execMonitorCellSent_frame ht])
  | unknown => exact h.kept (by simp [execUnknown_frame ht])
  | restart => exact h.takeCommand (fun c _ hu => hu.restartBody c) ht
  | siteSet => exact h.takeCommand (fun c _ hu => hu.siteSetBody c) ht
  | groupSet => exact h.takeCommand (fun c _ hu => hu.groupSetBody c) ht
  | spliceAdd => exact h.takeCommand (fun c _ hu => hu.spliceAddBody c) ht
  | spliceCancel => exact h.takeCommand (fun c _ hu => hu.spliceCancelBody c) ht
  | clipOpen => exact h.takeCommand_same .clipOpenBody ht
  | clipClose => exact h.takeCommand_same .clipCloseBody ht
  | clipRemove => exact h.takeCommand_same .clipRemoveBody ht
  | status => exact h.kept (by simp [execStatus_frame ht])
  | stats => exact h.takeCommand_same (fun _ _ => .of_eq) ht
  | laneMapLoad => exact h.takeCommand_same (fun _ _ => .of_eq) ht
  | laneMapRead => exact h.takeCommand_same (fun _ _ => .of_eq) ht
  | watchSet => exact h.takeCommand_same (fun _ _ => .of_eq) ht
  | clockSet => exact h.takeCommand_same (fun _ _ => .of_eq) ht
  | partition => exact h.takeCommand_same (fun _ _ => .of_eq) ht
  | emitStart => exact h.takeCommand_same (fun _ _ => .of_eq) ht
  | emitStop => exact h.takeCommand_same (fun _ _ => .of_eq) ht
  | clipQuery => exact h.takeCommand_same (fun _ _ => .of_eq) ht
  | spliceQuery => exact h.takeCommand_same (fun _ _ => .of_eq) ht

/-- Settles O60: a step runs one row, and every row keeps the splice law. -/
theorem spliceLawIsKept : Obligations.SpliceLawIsKept := by
  intro s t h ht
  unfold step at ht
  split at ht
  · injection ht with ht; subst ht; exact h
  · exact exec_spliceLaw (h.same .of_eq) ht

end Sys2Proof.Machine

namespace Sys2Proof.Machine

/-! ### The grant of the Local Intake's write (R97, R103, R109, R110) -/

/-- What a clip cell's write granted at an idle store makes of the loader and the clip partition: the cell is unexpected, it is
appended at its member's next block or in a fresh extent, or it is lost. -/
structure State.ClipGranted (s : State) (w : ClipWrite) (t : State) : Prop where
  waiting : t.store.lfWaiting = none
  fifo : t.lf = { s.lf with fifo := s.lf.fifo.tail }
  unexpected : (s.clipAt w.clip).state ≠ .loading ∨ (s.clipAt w.clip).memberCount.getD 0 ≤ w.position →
    t.store.access = none ∧ t.store.free = s.store.free ∧ t.clips = s.clips ∧ t.clipUnexpected = satAdd s.clipUnexpected 1
  expected : (s.clipAt w.clip).state = .loading → w.position < (s.clipAt w.clip).memberCount.getD 0 →
    t.clipUnexpected = s.clipUnexpected ∧
    match nextClipBlock s.store.setting s.store.free ((s.clipAt w.clip).memberAt w.position) with
    | none => t.store.access = none ∧ t.store.free = s.store.free ∧
        t.clips = setRow s.clips w.clip { s.clipAt w.clip with lost := satAdd (s.clipAt w.clip).lost 1 }
    | some (m, free, block) => t.store.access = some (.write block (.clipCell w.cell)) ∧ t.store.free = free ∧
        t.clips = setRow s.clips w.clip { s.clipAt w.clip with
          check := clipCheck (s.clipAt w.clip).check w.cell.payload
          members := setRow (s.clipAt w.clip).members w.position { m with count := m.count + 1 } }

theorem State.grantLf_granted {s : State} (hidle : s.store.access = none) (w : ClipWrite) : s.ClipGranted w (s.grantLf w) := by
  have expected : ((s.clipAt w.clip).state = .loading ∧ (s.clipAt w.clip).hasMember w.position = true) ↔
      (s.clipAt w.clip).state = .loading ∧ w.position < (s.clipAt w.clip).memberCount.getD 0 := by
    rw [ClipRecord.hasMember, decide_eq_true_iff]
  unfold State.grantLf
  dsimp only
  split
  · rename_i hloading
    rw [expected] at hloading
    cases hnext : nextClipBlock s.store.setting s.store.free ((s.clipAt w.clip).memberAt w.position) with
    | none =>
      refine ⟨rfl, rfl, fun hnot => hnot.elim (absurd hloading.1) (absurd hloading.2 ∘ Nat.not_lt.2), fun _ _ => ⟨rfl, ?_⟩⟩
      rw [hnext]
      exact ⟨hidle, rfl, rfl⟩
    | some next =>
      refine ⟨rfl, rfl, fun hnot => hnot.elim (absurd hloading.1) (absurd hloading.2 ∘ Nat.not_lt.2), fun _ _ => ⟨rfl, ?_⟩⟩
      rw [hnext]
      exact ⟨rfl, rfl, rfl⟩
  · rename_i hnot
    rw [expected] at hnot
    exact ⟨rfl, rfl, fun _ => ⟨hidle, rfl, rfl, rfl⟩, fun hs hm => absurd ⟨hs, hm⟩ hnot⟩

section
variable {setting f n last : Nat} {free : List Nat} {m : ClipMember}

/-- A member whose last extent has a place takes the block behind its last cell (R97). -/
theorem nextClipBlock_fills (hlast : m.extents.getLast? = some last) (hfill : m.fill = some f) (hf : f < 1024) :
    nextClipBlock setting free m = some ({ m with fill := some (f + 1) }, free, emissionBlocks setting + 1024 * last + f) := by
  unfold nextClipBlock
  simp only [hlast, hfill, if_pos hf]
  rfl

/-- A member without an extent, or with its last extent full, takes the extent at the head of the free extent list, where there is
one (R97). -/
theorem nextClipBlock_extends (hfull : m.extents = [] ∨ m.fill = some 1024) :
    nextClipBlock setting free m =
      match free with
      | [] => none
      | x :: rest => some ({ m with extents := m.extents ++ [x], fill := some 1 }, rest, emissionBlocks setting + 1024 * x) := by
  unfold nextClipBlock
  rcases hfull with hnone | hfill
  · simp only [hnone, List.getLast?_nil]
    cases free <;> rfl
  · cases hlast : m.extents.getLast? with
    | none => cases free <;> rfl
    | some last =>
      simp only [hfill]
      cases free <;> rfl

end

/-! ### The grant of the Network Intake's write (R28, R73, R103) -/

/-- The head of the Network Intake leaves its FIFO for the queue's decisions. -/
def State.leaveNf (s : State) : State := ({ s with store := { s.store with nfWaiting := none } } : State).popFifo .nf

/-- The record is discarded there, and counted as `f` says. -/
def State.discardNf (s : State) (r : Record) (f : EmitterCounters → EmitterCounters) : State :=
  (s.leaveNf.countEm f).watchLane r.inLane WatchEntry.addDiscarded

section
variable {s : State} (r : Record)

theorem State.grantNf_notRunning (h : s.emitter.state ≠ .running) :
    s.grantNf r = s.discardNf r (fun c => { c with notRunning := satAdd c.notRunning 1 }) := if_pos h

theorem State.grantNf_queueFull (h : s.emitter.state = .running) (hfull : s.store.capacity ≤ s.queue.length) :
    s.grantNf r = s.discardNf r (fun c => { c with queueFull := satAdd c.queueFull 1 }) :=
  (if_neg (not_not_intro h)).trans (if_pos hfull)

theorem State.grantNf_queued (h : s.emitter.state = .running) (hroom : s.queue.length < s.store.capacity) :
    s.grantNf r = s.leaveNf.joinQueue r :=
  (if_neg (not_not_intro h)).trans (if_neg (Nat.not_le.2 hroom))

/-- A record that joins takes the access (R73, R95). -/
theorem State.arbitrate_queued (hidle : s.store.access = none) (hread : s.store.readWaiting = none)
    (hnf : s.store.nfWaiting = some r) (h : s.emitter.state = .running) (hroom : s.queue.length < s.store.capacity) :
    s.arbitrate = s.leaveNf.joinQueue r := by
  rw [State.arbitrate_nf hidle hread hnf, State.grantNf_queued r h hroom]
  rfl

/-- A record that is discarded gives the access up to the Local Intake's write (R103). -/
theorem State.arbitrate_discards {f : EmitterCounters → EmitterCounters} (hidle : s.store.access = none)
    (hread : s.store.readWaiting = none) (hnf : s.store.nfWaiting = some r) (hdiscard : s.grantNf r = s.discardNf r f) :
    s.arbitrate =
      match s.store.lfWaiting with
      | none => s.discardNf r f
      | some w => (s.discardNf r f).grantLf w := by
  have idle : (s.discardNf r f).store.access = none := hidle
  rw [State.arbitrate_nf hidle hread hnf, hdiscard, idle]
  cases s.store.lfWaiting <;> rfl

end

end Sys2Proof.Machine

namespace Sys2Proof.Machine

/-! ### The end of an access (R98, R102) -/

/-- The end of an access leaves the store idle, and its division, its ring and the waiting requests as they are. -/
theorem CellStore.endAccess_frame (c : CellStore) :
    c.endAccess.access = none ∧ c.endAccess.setting = c.setting ∧ c.endAccess.free = c.free ∧
    c.endAccess.ringHead = c.ringHead ∧ c.endAccess.ringTail = c.ringTail ∧ c.endAccess.readWaiting = c.readWaiting ∧
    c.endAccess.nfWaiting = c.nfWaiting ∧ c.endAccess.lfWaiting = c.lfWaiting := by
  unfold CellStore.endAccess
  split
  · rename_i hidle
    exact ⟨hidle, rfl, rfl, rfl, rfl, rfl, rfl, rfl⟩
  · exact ⟨rfl, rfl, rfl, rfl, rfl, rfl, rfl, rfl⟩
  · exact ⟨rfl, rfl, rfl, rfl, rfl, rfl, rfl, rfl⟩

/-- The part once the running access has ended, before the arbiter's grant. -/
def State.accessEnded (s : State) : State := { s with store := s.store.endAccess }

theorem exec_accessEnd {s : State} {a : Access} (h : s.store.access = some a) (hb : a.block < 1048576) :
    exec .cellStoreAccessEnd s = .next s.accessEnded.arbitrate := by
  have row : exec .cellStoreAccessEnd s = execCellStoreAccessEnd s := rfl
  rw [row, execCellStoreAccessEnd, h]
  exact if_pos hb

theorem State.accessEnded_store (s : State) :
    s.accessEnded.store.access = none ∧ s.accessEnded.store.setting = s.store.setting ∧
    s.accessEnded.store.free = s.store.free ∧ s.accessEnded.store.ringHead = s.store.ringHead ∧
    s.accessEnded.store.ringTail = s.store.ringTail ∧ s.accessEnded.store.readWaiting = s.store.readWaiting ∧
    s.accessEnded.store.nfWaiting = s.store.nfWaiting ∧ s.accessEnded.store.lfWaiting = s.store.lfWaiting :=
  s.store.endAccess_frame

theorem State.accessEnded_capacity (s : State) : s.accessEnded.store.capacity = s.store.capacity := by
  unfold CellStore.capacity
  rw [s.accessEnded_store.2.1]

/-- A state at whose idle store the loader and the clip partition stand as in another (R97, R109). -/
structure State.SameLoader (s u : State) : Prop where
  idle : u.store.access = none
  setting : u.store.setting = s.store.setting
  free : u.store.free = s.store.free
  lf : u.lf = s.lf
  clips : u.clips = s.clips
  unexpected : u.clipUnexpected = s.clipUnexpected

theorem State.SameLoader.granted {s u : State} (h : s.SameLoader u) (w : ClipWrite) : s.ClipGranted w (u.grantLf w) := by
  have granted := State.grantLf_granted h.idle w
  have clip : u.clipAt w.clip = s.clipAt w.clip := by unfold State.clipAt; rw [h.clips]
  obtain ⟨waiting, fifo, unexpected, expected⟩ := granted
  rw [clip, h.clips, h.free, h.unexpected] at unexpected
  rw [clip, h.clips, h.free, h.setting, h.unexpected] at expected
  exact ⟨waiting, h.lf ▸ fifo, unexpected, expected⟩

theorem State.accessEnded_sameLoader (s : State) : s.SameLoader s.accessEnded := by
  obtain ⟨idle, setting, free, -⟩ := s.accessEnded_store
  exact ⟨idle, setting, free, rfl, rfl, rfl⟩

theorem State.SameLoader.discardNf {s u : State} (h : s.SameLoader u) (r : Record) (f : EmitterCounters → EmitterCounters) :
    s.SameLoader (u.discardNf r f) := ⟨h.idle, h.setting, h.free, h.lf, h.clips, h.unexpected⟩

/-- What the grant of a clip cell's write never reaches. -/
theorem State.grantLf_network (s : State) (w : ClipWrite) :
    (s.grantLf w).nf = s.nf ∧ (s.grantLf w).queue = s.queue ∧ (s.grantLf w).emitter = s.emitter ∧
    (s.grantLf w).watch = s.watch ∧ (s.grantLf w).store.nfWaiting = s.store.nfWaiting ∧
    (s.grantLf w).store.ringTail = s.store.ringTail := by
  have nf : (s.grantLf w).nf = s.nf := by
    unfold State.grantLf
    dsimp only
    (repeat' split) <;> rfl
  simp [nf]

/-- What a record that joins the queue never reaches. -/
theorem State.joinQueue_others (s : State) (r : Record) :
    (s.joinQueue r).nf = s.nf ∧ (s.joinQueue r).store.nfWaiting = s.store.nfWaiting ∧
    (s.joinQueue r).store.lfWaiting = s.store.lfWaiting ∧ (s.joinQueue r).lf = s.lf ∧
    (s.joinQueue r).store.free = s.store.free ∧ (s.joinQueue r).clips = s.clips ∧
    (s.joinQueue r).clipUnexpected = s.clipUnexpected := by
  simp

/-- Settles O26, by the request of the highest rank that waits. -/
theorem arbiterGrantsByRank : Obligations.ArbiterGrantsByRank := by
  intro s a haccess hb noClipWrite clipWrite discarded
  obtain ⟨idle, setting, free, head, tail, read, nfWaiting, lfWaiting⟩ := s.accessEnded_store
  have loader := s.accessEnded_sameLoader
  have written : ∀ u : State, s.SameLoader u → ∀ w, clipWrite (u.grantLf w) w := by
    intro u hu w
    obtain ⟨waiting, fifo, unexpected, expected⟩ := hu.granted w
    refine ⟨waiting, fifo, unexpected, fun hs hm => ?_⟩
    obtain ⟨kept, outcome⟩ := expected hs hm
    refine ⟨kept, fun last f hlast hfill hf => ?_, fun n rest hfull hfree => ?_, fun hfull hfree => ?_⟩
    · rwa [nextClipBlock_fills hlast hfill hf] at outcome
    · rwa [nextClipBlock_extends hfull, hfree] at outcome
    · rwa [nextClipBlock_extends hfull, hfree] at outcome
  have discards : ∀ (r : Record) (f : EmitterCounters → EmitterCounters), s.store.readWaiting = none →
      s.store.nfWaiting = some r → s.accessEnded.grantNf r = s.accessEnded.discardNf r f →
      s.accessEnded.arbitrate.store.nfWaiting = none ∧
      s.accessEnded.arbitrate.nf = { s.nf with fifo := s.nf.fifo.tail } ∧ discarded s.accessEnded.arbitrate r ∧
      s.accessEnded.arbitrate.emitter = { s.emitter with counters := f s.emitter.counters } := by
    intro r f hread hnf hdiscard
    have watch : ∀ n, (s.accessEnded.discardNf r f).watchAt n = if (s.watchAt n).lane = some r.inLane then
        { s.watchAt n with discarded := satAdd (s.watchAt n).discarded 1 } else s.watchAt n :=
      fun n => State.watchAt_watchLane _ _ _ n
    rw [State.arbitrate_discards r idle (read.trans hread) (nfWaiting.trans hnf) hdiscard, lfWaiting]
    cases hlf : s.store.lfWaiting with
    | none =>
      exact ⟨rfl, rfl, ⟨rfl, tail, watch, fun w hw => (nomatch (hlf.symm.trans hw : none = some w)),
        fun _ => ⟨idle, ⟨lfWaiting, rfl, free, rfl, rfl⟩⟩⟩, rfl⟩
    | some w =>
      obtain ⟨nf, queue, emitter, heard, waiting, ringTail⟩ := (s.accessEnded.discardNf r f).grantLf_network w
      have watch' : ∀ n, ((s.accessEnded.discardNf r f).grantLf w).watchAt n = (s.accessEnded.discardNf r f).watchAt n :=
        fun n => by unfold State.watchAt; rw [heard]
      refine ⟨waiting, nf, ⟨queue, ringTail.trans tail, fun n => (watch' n).trans (watch n), fun w' hw' => ?_,
        fun hnone => nomatch (hlf.symm.trans hnone : some w = none)⟩, emitter⟩
      cases hlf.symm.trans hw'
      exact written _ (loader.discardNf r f) w
  refine ⟨s.accessEnded.arbitrate, exec_accessEnd haccess hb, fun r hread => ?_, fun r hread hnf => ?_,
    fun w hread hnf hlf => ?_⟩
  · rw [State.arbitrate_read idle (read.trans hread)]
    exact ⟨rfl, rfl, nfWaiting, ⟨lfWaiting, rfl, free, rfl, rfl⟩, rfl, rfl, rfl, rfl⟩
  · by_cases hrun : s.emitter.state = .running
    · rcases Nat.lt_or_ge s.queue.length s.store.capacity with hroom | hfull
      · rw [State.arbitrate_queued r idle (read.trans hread) (nfWaiting.trans hnf) hrun (s.accessEnded_capacity ▸ hroom)]
        obtain ⟨nf, waiting, kept, lf, same, clips, unexpected⟩ := s.accessEnded.leaveNf.joinQueue_others r
        exact ⟨waiting, nf, fun _ _ => ⟨⟨kept.trans lfWaiting, lf, same.trans free, clips, unexpected⟩, clampTo s.queue r,
            fun last => State.joinQueue_clamped (s := s.accessEnded.leaveNf),
            State.joinQueue_kept (s := s.accessEnded.leaveNf), rfl, congrArg (fun b => some (Access.write b _)) tail,
            congrArg₂ (fun b c => (b + 1) % c) tail s.accessEnded_capacity, s.accessEnded.leaveNf.watchAt_joinQueue r⟩,
          fun _ hfull => absurd hroom (Nat.not_lt.2 hfull), absurd hrun⟩
      · obtain ⟨waiting, nf, told, counted⟩ := discards r _ hread hnf
          (State.grantNf_queueFull r hrun (s.accessEnded_capacity ▸ hfull))
        exact ⟨waiting, nf, fun _ hroom => absurd hfull (Nat.not_le.2 hroom), fun _ _ => ⟨told, counted⟩, absurd hrun⟩
    · obtain ⟨waiting, nf, told, counted⟩ := discards r _ hread hnf (State.grantNf_notRunning r hrun)
      exact ⟨waiting, nf, (absurd · hrun), (absurd · hrun), fun _ => ⟨told, counted⟩⟩
  · rw [State.arbitrate_lf idle (read.trans hread) (nfWaiting.trans hnf) (lfWaiting.trans hlf)]
    obtain ⟨nf, queue, emitter, heard, -, -⟩ := s.accessEnded.grantLf_network w
    exact ⟨written _ loader w, nf, queue, emitter, heard⟩

end Sys2Proof.Machine

namespace Sys2Proof.Machine

/-! ### Items dropped from the staging buffer (R95, R104) -/

theorem State.watchAt_watchDiscards (s : State) (l : List Record) (n : Nat) :
    (s.watchDiscards l).watchAt n = { s.watchAt n with
      discarded := satAdd (s.watchAt n).discarded (l.countP (fun r => decide ((s.watchAt n).lane = some r.inLane))) } :=
  rowAt_map s.watch (fun w : WatchEntry =>
    { w with discarded := satAdd w.discarded (l.countP (fun r => decide (w.lane = some r.inLane))) }) n (by
      simp [WatchEntry.afterReset, satAdd, counterMax])

/-- The items that stay when the first `n` records leave the queue. -/
theorem CellStore.isHeadBlock_eq_false (c : CellStore) (n : Nat) (x : StagedItem) :
    c.isHeadBlock n x = false ↔ ∀ i < n, x ≠ .record (c.recordBlock i) := by
  cases x with
  | record b =>
    simp only [CellStore.isHeadBlock, List.any_eq_false, List.mem_range, decide_eq_true_eq, ne_eq, StagedItem.record.injEq]
    exact forall₂_congr fun i _ => not_congr eq_comm
  | clipCell k m j => simp [CellStore.isHeadBlock]

/-- What stays of the staging buffer, the waiting read and the access in progress when items are dropped (R104). -/
structure CellStore.Kept (c d : CellStore) (kept : StagedItem → Prop) : Prop where
  staged : ∀ x, x ∈ d.staged ↔ x ∈ c.staged ∧ kept x.item
  waiting : ∀ r, d.readWaiting = some r ↔ c.readWaiting = some r ∧ kept r.item
  idle : c.access = none → d.access = none
  write : ∀ b x, c.access = some (.write b x) → d.access = some (.write b x)
  read : ∀ r wanted, c.access = some (.read r wanted) → ∃ still, d.access = some (.read r still) ∧
    (still = true ↔ wanted = true ∧ kept r.item)

theorem CellStore.dropStaged_kept (c : CellStore) {gone : StagedItem → Bool} {kept : StagedItem → Prop}
    (h : ∀ x, gone x = false ↔ kept x) : c.Kept (c.dropStaged gone) kept := by
  refine ⟨fun x => ?_, fun r => ?_, fun ha => ?_, fun b x ha => ?_, fun r wanted ha => ⟨wanted && !gone r.item, ?_, ?_⟩⟩
  · simp [CellStore.dropStaged, h]
  · simp [CellStore.dropStaged, h, Option.filter_eq_some_iff]
  · rw [CellStore.dropStaged_access, ha]; rfl
  · rw [CellStore.dropStaged_access, ha]; rfl
  · rw [CellStore.dropStaged_access, ha]; rfl
  · simp [h]

/-! ### The slot of a RUNNING emitter in step (R80, R85, R86) -/

/-- The slot that begins (R80). -/
def State.nextSlot (s : State) : State := { s with emitter := { s.emitter with slot := s.emitter.slot + 1 } }

section
variable {s : State} {k : Nat} {gone rest : List Record} (hrun : s.emitter.state = .running) (hk : s.emitter.kNow = some k)
include hrun hk

theorem exec_slotStart (hslot : s.emitter.slot + 1 < k) (hsub : s.clock.subsecond = (s.emitter.slot + 1) * 10000000 / k)
    (hstep : s.clock.inStep = true) : exec .slotStart s = .next s.nextSlot.examineHead.fillSlot := by
  have due : s.slotDue = true := by
    unfold State.slotDue slotStartTick
    rw [hrun, hk]
    simp [hslot, hsub]
  have begun : s.nextSlot.beginSlot = s.nextSlot.examineHead.fillSlot := by
    unfold State.beginSlot
    rw [show s.nextSlot.emitter.state = .running from hrun]
    exact if_pos hstep
  have row : exec .slotStart s = execSlotStart s := rfl
  rw [row, execSlotStart, if_pos due]
  exact congrArg _ begun

omit hrun in
theorem State.nextSlot_latenessOf (r : Record) :
    s.nextSlot.emitter.latenessOf r =
      lateness s.emitter.second (s.emitter.slot + 1) k (s.emitter.kPrev.getD 0) r.target := by
  unfold Emitter.latenessOf
  rw [show s.nextSlot.emitter.kNow = some k from hk]
  rfl

end

/-- The heads a slot discards are those in front of the first record it does not (R85). -/
theorem State.tooLateHeads_eq {s : State} {gone rest : List Record} (hqueue : s.queue = gone ++ rest)
    (hgone : ∀ r ∈ gone, s.emitter.discards r = true) (hrest : ∀ r, rest.head? = some r → s.emitter.discards r = false) :
    s.tooLateHeads = gone := by
  unfold State.tooLateHeads
  rw [hqueue, List.takeWhile_append_of_pos hgone]
  cases rest with
  | nil => simp
  | cons r rest => rw [List.takeWhile_cons_of_neg (by simp [hrest r rfl]), List.append_nil]

/-- A head is discarded when it is too late, or due beyond the late allowance (R85). -/
theorem Emitter.discards_iff (m : Emitter) (r : Record) :
    m.discards r = true ↔ m.latenessOf r = .tooLate ∨ ∃ n, m.latenessOf r = .due n ∧ m.lateAllowance < n := by
  unfold Emitter.discards
  cases m.latenessOf r <;> simp

/-- The state after the heads of a list were discarded (R85). -/
def State.discardHeads (s : State) (gone : List Record) : State :=
  ((s.dropHead gone.length).countEm (fun c => { c with tooLate := satAdd c.tooLate gone.length })).watchDiscards gone

theorem State.examineHead_eq {s : State} {gone : List Record} (h : s.tooLateHeads = gone) :
    s.examineHead = s.discardHeads gone := by
  subst h; rfl

theorem State.discardHeads_queue {s : State} {gone rest : List Record} (h : s.queue = gone ++ rest) :
    (s.discardHeads gone).queue = rest := by
  have dropped : (s.discardHeads gone).queue = s.queue.drop gone.length := rfl
  rw [dropped, h, List.drop_left]

/-- The slot carries fill, which is counted (R86). -/
def State.carryFill (s : State) : State :=
  (s.countEm (fun c => { c with fillEmitted := satAdd c.fillEmitted 1 })).sendEm fillCell

/-- Without a record that is due the slot carries fill (R86). -/
theorem State.fillSlot_idle {s : State} (h : ∀ r, s.queue.head? = some r → s.emitter.latenessOf r = .notDue) :
    s.fillSlot = s.carryFill := by
  unfold State.fillSlot
  cases hq : s.queue with
  | nil => rfl
  | cons r rest =>
    have notDue := h r (by rw [hq]; rfl)
    simp only [notDue]
    rfl

/-- A record that is due is taken for the slot (R86). -/
theorem State.fillSlot_due {s : State} {r : Record} {rest : List Record} {n : Nat} (hq : s.queue = r :: rest)
    (hdue : s.emitter.latenessOf r = .due n) : s.fillSlot = s.sendRecord r n := by
  unfold State.fillSlot
  simp only [hq, hdue]

/-- A slot that carries fill changes the queue, the Emitter, the watch list and the store alone. -/
theorem State.carryFill_discardHeads_frame (s : State) (gone : List Record) :
    (s.nextSlot.discardHeads gone).carryFill = { s with
      queue := (s.nextSlot.discardHeads gone).queue, emitter := (s.nextSlot.discardHeads gone).carryFill.emitter,
      watch := (s.nextSlot.discardHeads gone).watch, store := (s.nextSlot.discardHeads gone).store } := by
  dsimp only [State.carryFill, State.discardHeads, State.watchDiscards, State.countEm, State.dropHead, State.nextSlot,
    State.sendEm]

/-- Settles O30: the heads are discarded, and the slot carries fill. -/
theorem slotDiscardsTooLateHeads : Obligations.SlotDiscardsTooLateHeads := by
  intro s k gone rest hrun hk hslot hsub hstep hqueue late hgone hrest
  have lateness : ∀ r, s.nextSlot.emitter.latenessOf r = late r := State.nextSlot_latenessOf hk
  have heads : s.nextSlot.tooLateHeads = gone := by
    refine State.tooLateHeads_eq hqueue (fun r hr => ?_) fun r hr => ?_
    · rw [Emitter.discards_iff, lateness]
      exact hgone r hr
    · unfold Emitter.discards
      rw [lateness, hrest r hr]
  have queue : (s.nextSlot.discardHeads gone).queue = rest := State.discardHeads_queue hqueue
  have filled : s.nextSlot.examineHead.fillSlot = (s.nextSlot.discardHeads gone).carryFill := by
    rw [State.examineHead_eq heads]
    exact State.fillSlot_idle fun r hr => (lateness r).trans (hrest r (queue ▸ hr))
  have kept := s.store.dropStaged_kept (s.store.isHeadBlock_eq_false gone.length)
  refine ⟨(s.nextSlot.discardHeads gone).carryFill, (exec_slotStart hrun hk hslot hsub hstep).trans (congrArg _ filled), queue,
    rfl, rfl, s.nextSlot.watchAt_watchDiscards gone,
    ⟨rfl, kept.staged, kept.waiting, kept.idle, kept.write, kept.read⟩, ?_⟩
  exact (s.carryFill_discardHeads_frame gone).trans (by rw [queue]; rfl)

end Sys2Proof.Machine

namespace Sys2Proof.Machine

/-! ### A record goes on air (R88, R150, R151) -/

theorem State.outCount_sendData (s : State) (r : Record) (start safe disc : Bool) (payload : List Byte) (lane : Nat) :
    (s.sendData r start safe disc payload).outCount lane =
      if r.outLane = lane ∧ lane < 1024 then s.outCount r.outLane + 1 else s.outCount lane := rowAt_setRow _ _ _ _ _

theorem State.owes_sendData (s : State) (r : Record) (start safe disc : Bool) (payload : List Byte) (lane : Nat) :
    (s.sendData r start safe disc payload).owes lane =
      if r.outLane = lane ∧ lane < 1024 then false else s.owes lane := rowAt_setRow _ _ _ _ _

/-- What goes on air changes the line, the output counts and the discontinuity-owed set alone. -/
theorem State.sendOnAir_parts (s : State) (r : Record) (o : OnAir) :
    s.sendOnAir r o = { s with emitter := (s.sendOnAir r o).emitter, owed := (s.sendOnAir r o).owed } ∧
    (s.sendOnAir r o).emitter = { s.emitter with
      line := (s.sendOnAir r o).emitter.line, outCounts := (s.sendOnAir r o).emitter.outCounts } := by
  cases o <;> exact ⟨rfl, rfl⟩

/-- The Splice Switch leaves the output counts (R88). -/
theorem State.switchRecord_outCount (s : State) (r : Record) (lane : Nat) :
    (s.switchRecord r).1.outCount lane = s.outCount lane := by
  unfold State.outCount
  rw [(s.switchRecord_emitter r).2.2.2.2.2.2.2.1]

/-- A cell sent for a record on an output lane: its line, that lane's next count, and the lane no longer owed. -/
theorem State.sendData_onAir (s : State) (r : Record) (hlane : r.outLane < 1024) (start safe disc : Bool) (payload : List Byte) :
    (s.sendData r start safe disc payload).emitter.line = some
      { header :=
          { lane := BitVec.ofNat 10 r.outLane, kind := .data, start := start, safe := safe,
            disc := disc || s.owes r.outLane, zero := false, count := s.outCount r.outLane,
            tag := r.nominal.sec.setWidth 2, sub := BitVec.ofNat 24 r.nominal.sub }
        payload := payload } ∧
    (s.sendData r start safe disc payload).outCount r.outLane = s.outCount r.outLane + 1 ∧
    (s.sendData r start safe disc payload).owes r.outLane = false ∧
    ∀ lane, lane ≠ r.outLane → (s.sendData r start safe disc payload).outCount lane = s.outCount lane ∧
      (s.sendData r start safe disc payload).owes lane = s.owes lane := by
  refine ⟨rfl, ?_, ?_, fun lane hother => ⟨?_, ?_⟩⟩
  · rw [State.outCount_sendData, if_pos ⟨rfl, hlane⟩]
  · rw [State.owes_sendData, if_pos ⟨rfl, hlane⟩]
  · rw [State.outCount_sendData, if_neg fun h => hother h.1.symm]
  · rw [State.owes_sendData, if_neg fun h => hother h.1.symm]

/-- The state whose record goes through the Splice Switch: heads discarded, the record taken and, where late, counted (R85, R86). -/
def State.takenBehind (s : State) (gone : List Record) (r : Record) (n : Nat) : State :=
  { (((s.nextSlot.dropHead gone.length).watchDiscards gone).dropHead 1).watchLane r.inLane WatchEntry.addEmitted with
    emitter := { s.nextSlot.emitter with counters := { s.emitter.counters with
      tooLate := satAdd s.emitter.counters.tooLate gone.length
      lateEmitted := if n = 0 then s.emitter.counters.lateEmitted else satAdd s.emitter.counters.lateEmitted 1 } } }

theorem State.countTaken_discardHeads (s : State) (gone : List Record) (r : Record) (n : Nat) :
    (s.nextSlot.discardHeads gone).countTaken r n = s.takenBehind gone r n := by
  unfold State.countTaken
  split
  case isTrue late =>
    have counted : n ≠ 0 := by omega
    simp only [State.takenBehind, if_neg counted]
    rfl
  case isFalse onTime =>
    have uncounted : n = 0 := by omega
    simp only [State.takenBehind, if_pos uncounted]
    rfl

/-- The watch list hears of the discarded heads, then of the record taken (R50). -/
theorem State.watchAt_takenBehind (s : State) (gone : List Record) (r : Record) (n w : Nat) :
    (s.takenBehind gone r n).watchAt w = { s.watchAt w with
      discarded := satAdd (s.watchAt w).discarded (gone.countP (fun x => decide ((s.watchAt w).lane = some x.inLane)))
      emitted := if (s.watchAt w).lane = some r.inLane then satAdd (s.watchAt w).emitted 1 else (s.watchAt w).emitted } := by
  have told : (s.takenBehind gone r n).watchAt w = if ((s.nextSlot.watchDiscards gone).watchAt w).lane = some r.inLane then
      ((s.nextSlot.watchDiscards gone).watchAt w).addEmitted else (s.nextSlot.watchDiscards gone).watchAt w :=
    State.watchAt_watchLane (((s.nextSlot.dropHead gone.length).watchDiscards gone).dropHead 1) r.inLane _ w
  have same : s.nextSlot.watchAt w = s.watchAt w := rfl
  rw [told, State.watchAt_watchDiscards, same]
  by_cases watched : (s.watchAt w).lane = some r.inLane
  · simp only [if_pos watched, WatchEntry.addEmitted]
  · simp only [if_neg watched]

/-- Settles O31: the heads in front are discarded, the record is taken, and the Splice Switch decides what goes on air. -/
theorem slotSendsTheDueRecord : Obligations.SlotSendsTheDueRecord := by
  intro s k n gone r rest hrun hk hslot hsub hstep hqueue hlane lateOf hgone hdue hallow begun looked taken u
  have lateness : ∀ x, s.nextSlot.emitter.latenessOf x = lateOf x := State.nextSlot_latenessOf hk
  have heads : s.nextSlot.tooLateHeads = gone := by
    refine State.tooLateHeads_eq hqueue (fun x hx => ?_) fun x hx => ?_
    · rw [Emitter.discards_iff, lateness]
      exact hgone x hx
    · cases hx
      unfold Emitter.discards
      rw [lateness, hdue]
      exact decide_eq_false (Nat.not_lt.2 hallow)
  have queue : (s.nextSlot.discardHeads gone).queue = r :: rest := State.discardHeads_queue hqueue
  have sent : exec .slotStart s = .next ((u.switchRecord r).1.sendOnAir r (u.switchRecord r).2) := by
    rw [exec_slotStart hrun hk hslot hsub hstep, State.examineHead_eq heads,
      State.fillSlot_due queue ((lateness r).trans hdue), State.sendRecord_eq, State.countTaken_discardHeads]
    rfl
  have outCount : ∀ lane, (u.switchRecord r).1.outCount lane = s.outCount lane := u.switchRecord_outCount r
  refine ⟨congrArg (List.drop 1) queue, Nat.mod_add_mod _ _ _, rfl, rfl, s.watchAt_takenBehind gone r n,
    (u.switchRecord r).1.sendOnAir r (u.switchRecord r).2, sent,
    ((u.switchRecord r).1.sendOnAir_parts r _).1, ((u.switchRecord r).1.sendOnAir_parts r _).2, fun hpassed => ?_,
    fun c hreplaced => ?_, fun hshort => ?_⟩
  · have onAir := (u.switchRecord r).1.sendData_onAir r hlane r.start r.safe r.disc r.payload
    simp only [outCount] at onAir
    rw [hpassed]
    exact onAir
  · have onAir := (u.switchRecord r).1.sendData_onAir r hlane c.header.start c.header.safe c.header.disc c.payload
    simp only [outCount] at onAir
    rw [hreplaced]
    exact onAir
  · rw [hshort]
    exact ⟨rfl, outCount, rfl⟩

end Sys2Proof.Machine

namespace Sys2Proof.Machine

/-! ### Commands that reply and have no other effect behind the reply (R160) -/

/-- A granted command whose own rule ends in its reply answers with it, on the state its rule reached. -/
theorem State.takeCommand_answered {s t : State} {name : CommandName} {c : Command} {body : Command → State → State} {r : Result}
    {data : List Byte} (h : s.grants name c) (hbody : body c s.popCommand = t.popCommand.reply c r data) :
    s.takeCommand name body = .next (t.answered c r data) := by
  rw [State.takeCommand_granted body h, hbody, State.reply_answered]

/-! ### GROUP SET and WATCH SET (R47, R49) -/

/-- GROUP SET sets the local-allowed flag alone (R47). -/
def State.allowLocal (s : State) (g : Nat) (allowed : Bool) : State :=
  s.setGroup g { s.groupAt g with localAllowed := allowed }

theorem State.groupData_allowLocal (s : State) {g : Nat} (hg : g ≤ 15) (allowed : Bool) :
    (s.allowLocal g allowed).groupData g = bytes1 g ++ bytesFlag allowed ++ bytes1 (s.groupAt g).state.code ++
      bytesOption 1 bytes1 (s.groupAt g).active ++ [0, 1, 2, 3].flatMap (fun m => bytesOption 2 bytes2 (s.memberLane g m)) := by
  have row : (s.allowLocal g allowed).groupAt g = { s.groupAt g with localAllowed := allowed } := by
    rw [State.allowLocal, State.groupAt_setGroup, if_pos ⟨rfl, by omega⟩]
  rw [State.groupData, row]
  rfl

/-- A flag given as 0 or 1 is reported as it was given (R169). -/
theorem bytesFlag_decide {n : Nat} (h : n ≤ 1) : bytesFlag (decide (n = 1)) = bytes1 n := by
  obtain rfl | rfl : n = 0 ∨ n = 1 := by omega
  · rfl
  · rfl

/-- WATCH SET within range: the entry's lane is set, its counters are cleared, and the lane is reported (R49). -/
theorem exec_watchSet {s : State} {c : Command} (h : s.grants .watchSet c) (hn : c.watchArg ≤ 15) {lane : Option Nat}
    (hlane : c.watchedLane = some lane) :
    exec .watchSet s = .next (({ s with watch := setRow s.watch c.watchArg ⟨lane, 0, 0, 0, 0, 0⟩ } : State).answered c .ok
      (bytes1 c.watchArg ++ bytesOption 2 bytes2 lane)) := by
  refine State.takeCommand_answered (body := watchSetBody) h ?_
  rw [watchSetBody, if_neg (by omega), hlane]
  rfl

/-- Settles O45, by the range of each argument. -/
theorem groupAndWatchAreSet : Obligations.GroupAndWatchAreSet := by
  refine ⟨fun s c h => ⟨fun hbad => ?_, fun g allowed hg hrange hallowed hflag => ?_⟩,
    fun s c h => ⟨fun hbad => ?_, fun hn hnone => ?_, fun hn hpresent hlane => ?_⟩⟩
  · exact State.takeCommand_answered (body := groupSetBody) h (if_pos hbad)
  · have body : groupSetBody c s.popCommand = (s.allowLocal g (decide (allowed = 1))).popCommand.reply c .ok
        ((s.allowLocal g (decide (allowed = 1))).groupData g) := by
      rw [groupSetBody, if_neg (by omega), hg, hallowed]
      rfl
    refine (State.takeCommand_answered h body).trans (congrArg (fun d => Host.Outcome.next
      ((s.allowLocal g (decide (allowed = 1))).answered c .ok d)) ?_)
    rw [State.groupData_allowLocal s hrange, bytesFlag_decide hflag]
    have active : bytesOption 1 bytes1 (s.groupAt g).active =
        match (s.groupAt g).active with
        | none => [0, 0]
        | some e => 1 :: bytes1 e := by
      cases (s.groupAt g).active <;> rfl
    have members : ∀ m, bytesOption 2 bytes2 (s.memberLane g m) =
        match s.memberLane g m with
        | none => [0, 0, 0]
        | some lane => 1 :: bytes2 lane := fun m => by
      cases s.memberLane g m <;> rfl
    simp only [active, members]
    rfl
  · refine State.takeCommand_answered (body := watchSetBody) h ?_
    have unset : ¬15 < c.watchArg → c.watchedLane = none := fun hn => by
      have hlane : c.watchPresence = 1 ∧ 1021 < c.watchLaneArg := hbad.resolve_left hn
      have beyond : ¬c.watchLaneArg ≤ lastLane := Nat.not_le.2 hlane.2
      rw [Command.watchedLane, if_neg (by omega), if_neg fun x => beyond x.2]
    unfold watchSetBody
    split
    · rfl
    · rename_i hn
      rw [unset hn]
  · exact exec_watchSet h hn (if_pos hnone)
  · exact exec_watchSet h hn (by rw [Command.watchedLane, if_neg (by omega), if_pos ⟨hpresent, hlane⟩])

end Sys2Proof.Machine

namespace Sys2Proof.Machine

/-! ### The checks of an entry of a load (R40) -/

theorem RawEntry.content_eq_some_iff (x : RawEntry) (e : LaneEntry) : x.content = some e ↔
    (x.action = 0 ∧ e = .drop) ∨ (x.action = 1 ∧ e = .pass x.output) ∨
      (x.action = 2 ∧ e = .member x.output x.group x.position) := by
  unfold RawEntry.content
  split <;> simp_all [eq_comm]

theorem RawEntry.content_eq_none_iff (x : RawEntry) : x.content = none ↔ 3 ≤ x.action := by
  rw [Option.eq_none_iff_forall_ne_some]
  simp only [ne_eq, x.content_eq_some_iff]
  constructor
  · intro h
    have drop := h .drop
    have pass := h (.pass x.output)
    have member := h (.member x.output x.group x.position)
    grind
  · grind

/-- A present item is held elsewhere when an entry at another index has it (R40, checks 5 and 6). -/
theorem State.heldElsewhere_some_iff {α : Type} [DecidableEq α] (s : State) (index : Nat) {item : LaneEntry → Option α}
    (hdrop : item .drop = none) (a : α) :
    s.heldElsewhere index item (some a) = true ↔ ∃ j, j ≠ index ∧ item (s.laneEntry j) = some a := by
  constructor
  · intro held
    simp only [State.heldElsewhere, Option.isSome_some, Bool.true_and, List.any_eq_true, Bool.and_eq_true, decide_eq_true_eq,
      Prod.exists] at held
    obtain ⟨e, j, mem, other, same⟩ := held
    have row : s.laneMap.toList[j]? = some e := List.mk_mem_zipIdx_iff_getElem?.1 mem
    have entry : s.laneEntry j = e := by
      unfold State.laneEntry rowAt
      rw [← Vector.getElem?_toList, row]
      rfl
    exact ⟨j, other, entry ▸ same⟩
  · rintro ⟨j, other, same⟩
    by_contra held
    exact State.heldElsewhere_false hdrop (Bool.eq_false_iff.2 held) (Option.some_ne_none a) other same

/-- An entry is not live when the group it names, if any, has no active event (R40, check 7). -/
theorem State.liveEntry_eq_false_iff (s : State) (e : LaneEntry) :
    s.liveEntry e = false ↔ ∀ p, e.place = some p → (s.groupAt p.group).active = none := by
  unfold State.liveEntry
  split <;> simp_all

/-- An entry passes when its index, action, output lane, group and member are in range, no other entry holds its items, and no group it
names or leaves has an active event (R40). -/
theorem State.checkEntry_eq_ok_iff (s : State) (index : Nat) (x : RawEntry) (e : LaneEntry) : s.checkEntry index x = .ok e ↔
    index ≤ 1021 ∧ x.content = some e ∧ (outputInRange e.output = true ∧ placeInRange e.place = true) ∧
      (s.heldElsewhere index LaneEntry.output e.output = false ∧ s.heldElsewhere index LaneEntry.place e.place = false) ∧
      s.liveEntry (s.laneEntry index) = false ∧ s.liveEntry e = false := by
  unfold State.checkEntry lastLane
  cases x.content with
  | none => simp
  | some content =>
    simp only [Option.some.injEq]
    grind

/-- The output lane of an entry is in range and no other entry's (R40, checks 3 and 5). -/
theorem State.output_checked_iff (s : State) (index : Nat) (e : LaneEntry) :
    (outputInRange e.output = true ∧ s.heldElsewhere index LaneEntry.output e.output = false) ↔
      ∀ o, e.output = some o → 1 ≤ o ∧ o ≤ 1021 ∧ ∀ j, j ≠ index → (s.laneEntry j).output ≠ some o := by
  cases e.output with
  | none => simp [outputInRange, State.heldElsewhere]
  | some o =>
    rw [← Bool.not_eq_true (s.heldElsewhere index LaneEntry.output (some o)), s.heldElsewhere_some_iff index rfl o]
    simp [outputInRange, and_assoc]

/-- The member position of an entry is in range and no other entry's (R40, checks 4 and 6). -/
theorem State.place_checked_iff (s : State) (index : Nat) (e : LaneEntry) :
    (placeInRange e.place = true ∧ s.heldElsewhere index LaneEntry.place e.place = false) ↔
      ∀ p, e.place = some p → p.group ≤ 15 ∧ p.position ≤ 3 ∧ ∀ j, j ≠ index → (s.laneEntry j).place ≠ some p := by
  cases e.place with
  | none => simp [placeInRange, State.heldElsewhere]
  | some p =>
    rw [← Bool.not_eq_true (s.heldElsewhere index LaneEntry.place (some p)), s.heldElsewhere_some_iff index rfl p]
    simp [placeInRange, and_assoc]

/-- The first failing check gives the reason: range, then overlap, then use (R40). -/
theorem State.checkEntry_of_content (s : State) {index : Nat} {x : RawEntry} {e : LaneEntry} (hindex : index ≤ 1021)
    (hcontent : x.content = some e) : s.checkEntry index x =
      if outputInRange e.output && placeInRange e.place then
        if s.heldElsewhere index LaneEntry.output e.output || s.heldElsewhere index LaneEntry.place e.place then .error .overlap
        else if s.liveEntry (s.laneEntry index) || s.liveEntry e then .error .inUse
        else .ok e
      else .error .badArgument := by
  rw [State.checkEntry, if_neg (Nat.not_lt.2 hindex), hcontent]
  grind

/-- An index that is not mappable and an action code that names no action are refused (R40, checks 1 and 2). -/
theorem State.checkEntry_unmappable (s : State) {index : Nat} {x : RawEntry} (h : 1021 < index ∨ 3 ≤ x.action) :
    s.checkEntry index x = .error .badArgument := by
  unfold State.checkEntry
  split
  · rfl
  · rename_i mappable
    rw [x.content_eq_none_iff.2 (h.resolve_left mappable)]

theorem State.liveEntry_eq_true_iff (s : State) (e : LaneEntry) :
    s.liveEntry e = true ↔ ∃ p, e.place = some p ∧ (s.groupAt p.group).active ≠ none := by
  rw [← Bool.not_eq_false, s.liveEntry_eq_false_iff]
  simp

/-- The entry of a load fails one of its range checks (R40, checks 1 to 4). -/
def RawEntry.outOfRange (index : Nat) (x : RawEntry) : Prop :=
  1021 < index ∨ 3 ≤ x.action ∨ (1 ≤ x.action ∧ (x.output < 1 ∨ 1021 < x.output)) ∨
    (x.action = 2 ∧ (15 < x.group ∨ 3 < x.position))

/-- An entry at another index holds the output lane or the member position (R40, checks 5 and 6). -/
def State.overlaps (s : State) (index : Nat) (x : RawEntry) : Prop :=
  (1 ≤ x.action ∧ ∃ j, j ≠ index ∧ (s.laneEntry j).output = some x.output) ∨
    (x.action = 2 ∧ ∃ j, j ≠ index ∧ (s.laneEntry j).place = some ⟨x.group, x.position⟩)

/-- The present or the new group has an active event (R40, check 7). -/
def State.groupsInUse (s : State) (index : Nat) (x : RawEntry) : Prop :=
  (∃ p, (s.laneEntry index).place = some p ∧ (s.groupAt p.group).active ≠ none) ∨
    (x.action = 2 ∧ (s.groupAt x.group).active ≠ none)

section

variable {index : Nat} {x : RawEntry} {e : LaneEntry} (content : x.content = some e)

include content

theorem RawEntry.inRange_iff (hindex : index ≤ 1021) :
    (outputInRange e.output && placeInRange e.place) = true ↔ ¬x.outOfRange index := by
  unfold RawEntry.outOfRange
  obtain ⟨action, rfl⟩ | ⟨action, rfl⟩ | ⟨action, rfl⟩ := (x.content_eq_some_iff e).1 content <;>
    simp [outputInRange, placeInRange, LaneEntry.output, LaneEntry.place, action] <;> omega

theorem State.heldElsewhere_content_iff (s : State) :
    (s.heldElsewhere index LaneEntry.output e.output || s.heldElsewhere index LaneEntry.place e.place) = true ↔
      s.overlaps index x := by
  have output := s.heldElsewhere_some_iff index (item := LaneEntry.output) rfl x.output
  have place := s.heldElsewhere_some_iff index (item := LaneEntry.place) rfl ⟨x.group, x.position⟩
  have absent : ∀ {α : Type} [DecidableEq α] (item : LaneEntry → Option α), s.heldElsewhere index item none = false :=
    fun _ => rfl
  unfold State.overlaps
  rw [Bool.or_eq_true]
  obtain ⟨action, rfl⟩ | ⟨action, rfl⟩ | ⟨action, rfl⟩ := (x.content_eq_some_iff e).1 content
  · simp [LaneEntry.output, LaneEntry.place, absent, action]
  · rw [show (LaneEntry.pass x.output).output = some x.output from rfl, output]
    simp [LaneEntry.place, absent, action]
  · rw [show (LaneEntry.member x.output x.group x.position).output = some x.output from rfl, output,
      show (LaneEntry.member x.output x.group x.position).place = some ⟨x.group, x.position⟩ from rfl, place]
    simp [action]

theorem State.liveEntry_content_iff (s : State) :
    (s.liveEntry (s.laneEntry index) || s.liveEntry e) = true ↔ s.groupsInUse index x := by
  unfold State.groupsInUse
  rw [Bool.or_eq_true, s.liveEntry_eq_true_iff, s.liveEntry_eq_true_iff]
  obtain ⟨action, rfl⟩ | ⟨action, rfl⟩ | ⟨action, rfl⟩ := (x.content_eq_some_iff e).1 content <;>
    simp [LaneEntry.place, action]

end

/-- The reason of a refused entry is that of its first failing check (R40). -/
theorem State.checkEntry_reason (s : State) (index : Nat) (x : RawEntry) :
    (x.outOfRange index → s.checkEntry index x = .error .badArgument) ∧
    (¬x.outOfRange index → s.overlaps index x → s.checkEntry index x = .error .overlap) ∧
    (¬x.outOfRange index → ¬s.overlaps index x → s.groupsInUse index x → s.checkEntry index x = .error .inUse) ∧
    (¬x.outOfRange index → ¬s.overlaps index x → ¬s.groupsInUse index x → ∃ e, s.checkEntry index x = .ok e) := by
  by_cases unmappable : 1021 < index ∨ 3 ≤ x.action
  · have out : x.outOfRange index := unmappable.elim .inl fun unnamed => .inr (.inl unnamed)
    exact ⟨fun _ => s.checkEntry_unmappable unmappable, fun h => (h out).elim, fun h => (h out).elim, fun h => (h out).elim⟩
  · obtain ⟨e, content⟩ : ∃ e, x.content = some e := by
      rw [← Option.ne_none_iff_exists', ne_eq, x.content_eq_none_iff]
      omega
    have mappable : index ≤ 1021 := by omega
    have inRange := RawEntry.inRange_iff content mappable
    have held := State.heldElsewhere_content_iff (index := index) content s
    have live := State.liveEntry_content_iff (index := index) content s
    rw [s.checkEntry_of_content mappable content]
    refine ⟨fun out => ?_, fun within overlaps => ?_, fun within apart used => ?_, fun within apart unused => ⟨e, ?_⟩⟩
    · rw [if_neg fun within => inRange.1 within out]
    · rw [if_pos (inRange.2 within), if_pos (held.2 overlaps)]
    · rw [if_pos (inRange.2 within), if_neg (mt held.1 apart), if_pos (live.2 used)]
    · rw [if_pos (inRange.2 within), if_neg (mt held.1 apart), if_neg (mt live.1 unused)]

/-! ### Entries are applied in order (R39 to R41) -/

/-- A load that has applied its first entries, through the states `m`, goes on with the next. -/
theorem State.loadEntries_steps {m : Nat → State} {entry : Nat → RawEntry} {first count n : Nat}
    (hsteps : ∀ i < n, ∃ e, (m i).checkEntry (first + i) (entry i) = .ok e ∧ m (i + 1) = (m i).applyEntry (first + i) e)
    (hn : n ≤ count) : (m 0).loadEntries first 0 ((List.range count).map entry) =
      (m n).loadEntries (first + n) n ((List.range' n (count - n)).map entry) := by
  induction n with
  | zero => rw [List.range_eq_range']; rfl
  | succ n ih =>
    obtain ⟨e, passed, applied⟩ := hsteps n (Nat.lt_succ_self n)
    rw [ih (fun i hi => hsteps i (Nat.lt_succ_of_lt hi)) (Nat.le_of_succ_le hn),
      show count - n = (count - (n + 1)) + 1 by omega, List.range'_succ, List.map_cons, State.loadEntries, passed, applied]
    rfl

theorem Command.rawEntries_eq (c : Command) :
    c.rawEntries = (List.range c.entryCount).map (fun i => readRawEntry c.payload (13 + 4 * i)) :=
  List.map_congr_left fun i _ => congrArg _ (show 10 + (3 + 4 * i) = 13 + 4 * i by omega)

/-- Settles O44, by the checks' reasons and the number of entries applied. -/
theorem laneMapLoadAppliesInOrder : Obligations.LaneMapLoadAppliesInOrder := by
  refine ⟨fun s index x e => ?_, fun s index x why => ?_, fun s c h => ⟨fun hbad => ?_, fun n m hone hmany hn hstart hsteps => ?_⟩⟩
  · have output := s.output_checked_iff index e
    have place := s.place_checked_iff index e
    have new := s.liveEntry_eq_false_iff e
    rw [s.checkEntry_eq_ok_iff, ← x.content_eq_some_iff e, ← s.liveEntry_eq_false_iff (s.laneEntry index), ← output]
    grind
  · obtain ⟨range, overlap, inUse, passes⟩ := s.checkEntry_reason index x
    refine ⟨fun bad => ?_, fun bad overlaps => ?_, fun bad overlaps used => ?_, fun bad overlaps used => ?_⟩
    · rw [range bad, Except.error.injEq, eq_comm]
    · rw [overlap bad overlaps, Except.error.injEq, eq_comm]
    · rw [inUse bad overlaps used, Except.error.injEq, eq_comm]
    · obtain ⟨e, passed⟩ := passes bad overlaps used
      rw [passed]
      exact nofun
  · exact State.takeCommand_answered (body := laneMapLoadBody) h (if_pos hbad)
  · have loaded : s.popCommand.loadEntries c.firstIndex 0 c.rawEntries = (m n).popCommand.loadEntries (c.firstIndex + n) n
        ((List.range' n (c.entryCount - n)).map fun i => readRawEntry c.payload (13 + 4 * i)) := by
      rw [c.rawEntries_eq, ← hstart]
      refine State.loadEntries_steps (m := fun i => (m i).popCommand) (fun i hi => ?_) hn
      obtain ⟨e, passed, applied⟩ := hsteps i hi
      exact ⟨e, passed, congrArg State.popCommand applied⟩
    refine ⟨fun hall => ?_, fun why hless hwhy => ?_⟩
    · refine State.takeCommand_answered (body := laneMapLoadBody) h ?_
      rw [laneMapLoadBody, if_neg (by omega), loaded, hall, Nat.sub_self]
      rfl
    · refine State.takeCommand_answered (body := laneMapLoadBody) h ?_
      have failed : (m n).popCommand.checkEntry (c.firstIndex + n) (readRawEntry c.payload (13 + 4 * n)) = .error why := hwhy
      rw [laneMapLoadBody, if_neg (by omega), loaded, show c.entryCount - n = (c.entryCount - (n + 1)) + 1 by omega,
        List.range'_succ, List.map_cons, State.loadEntries, failed]

end Sys2Proof.Machine

namespace Sys2Proof.Machine

/-! ### The queries (R44, R116, R136) -/

/-- LANE MAP READ within range reports the entries from the first index on, up to the last lane (R44). -/
theorem exec_laneMapRead {s : State} {c : Command} (h : s.grants .laneMapRead c) (hfirst : c.firstIndex ≤ 1021)
    (hone : 1 ≤ c.entryCount) (hmany : c.entryCount ≤ 28) :
    exec .laneMapRead s = .next (s.answered c .ok (bytes2 c.firstIndex ++ bytes1 (readCount c.firstIndex c.entryCount) ++
      (List.range (readCount c.firstIndex c.entryCount)).flatMap fun i => (s.laneEntry (c.firstIndex + i)).bytes)) := by
  refine State.takeCommand_answered (body := laneMapReadBody) h ?_
  have inRange : ¬(lastLane < c.firstIndex ∨ c.entryCount = 0 ∨ 28 < c.entryCount) := by
    unfold lastLane; omega
  rw [laneMapReadBody, if_neg inRange]
  rfl

/-- CLIP QUERY within range reports the clip's record (R116). -/
theorem exec_clipQuery {s : State} {c : Command} (h : s.grants .clipQuery c) (hclip : c.clipArg ≤ 63) (hmember : c.queryMember ≤ 3) :
    exec .clipQuery s = .next (s.answered c .ok ((s.clipAt c.clipArg).queryData c.queryMember c.queryPlace)) := by
  refine State.takeCommand_answered (body := clipQueryBody) h ?_
  rw [clipQueryBody, if_neg (Nat.not_lt.2 hclip), if_neg (Nat.not_lt.2 hmember)]
  rfl

/-- SPLICE QUERY within range reports the event's record (R136). -/
theorem exec_spliceQuery {s : State} {c : Command} (h : s.grants .spliceQuery c) (hevent : c.eventArg ≤ 31) :
    exec .spliceQuery s = .next (s.answered c .ok (s.queryEventData c.eventArg)) := by
  refine State.takeCommand_answered (body := spliceQueryBody) h ?_
  rw [spliceQueryBody, if_neg (Nat.not_lt.2 hevent)]
  rfl

theorem State.placeInOrder_eq_none {s : State} {e : Nat} (h : e ∉ s.order) : s.placeInOrder e = none := by
  rw [State.placeInOrder, List.findIdx?_eq_none_iff]
  exact fun x hx => decide_eq_false fun same => h (same ▸ hx)

/-- An event's place is the first that holds it (R136). -/
theorem State.placeInOrder_eq_some {s : State} {e n : Nat} (hn : s.order[n]? = some e) (hfirst : ∀ j < n, s.order[j]? ≠ some e) :
    s.placeInOrder e = some n := by
  obtain ⟨hlt, hat⟩ := List.getElem?_eq_some_iff.1 hn
  rw [State.placeInOrder, List.findIdx?_eq_some_iff_getElem]
  refine ⟨hlt, decide_eq_true hat, fun j hj => ?_⟩
  simpa [List.getElem?_eq_getElem (hj.trans hlt)] using hfirst j hj

/-- The five items of a SPLICE QUERY reply that an entry's order gives (R136). -/
def givenBytes (order : Option SpliceOrder) : List Byte :=
  bytesOption 1 (fun o => bytes1 (Origin.code o.origin)) order ++ bytesOption 1 (fun o => bytes1 (SpliceOrder.group o)) order ++
    bytesOption 1 (fun o => bytes1 (SpliceOrder.clip o)) order ++ bytesOption 8 (fun o => bytesTime (SpliceOrder.inTime o)) order ++
    bytesOption 8 (fun o => bytesTime (SpliceOrder.outTime o)) order

/-- A SPLICE QUERY reply, the items of the order together (R136). -/
theorem State.queryEventData_eq (s : State) (e : Nat) : s.queryEventData e =
    bytes1 e ++ bytes1 (s.eventAt e).state.code ++ givenBytes (s.eventAt e).order ++ bytesFlag (s.eventAt e).returnRequested ++
      bytesOption 8 bytesTime (s.eventAt e).returnTime ++ bytesOption 8 bytesTime (s.eventAt e).pIn ++
      bytesOption 8 bytesTime (s.eventAt e).pOut ++ bytesOption 1 (fun c => bytes1 (EndingCause.code c)) (s.eventAt e).cause ++
      bytesOption 1 (fun c => bytes1 (FailReason.code c)) (s.eventAt e).reason ++ bytes4 (s.eventAt e).replaced ++
      bytes4 (s.eventAt e).short ++ bytes4 (s.eventAt e).truncated ++ bytesOption 6 bytesSlotTime (s.eventAt e).finish ++
      bytesTime (s.eventAt e).reportedArming ++ bytesOption 2 bytes2 (s.placeInOrder e) ++ bytesTime s.nominalNow := by
  unfold State.queryEventData givenBytes
  simp only [List.append_assoc]

/-- Settles O41, query by query. -/
theorem queriesChangeNothing : Obligations.QueriesChangeNothing := by
  refine ⟨fun s c first count h hfirst hcount => ?_, fun s c clip member place h hclip hmember hplace => ?_,
    fun s c e h he => ?_⟩
  · subst hfirst hcount
    refine ⟨fun hbad => State.takeCommand_answered (body := laneMapReadBody) h (if_pos hbad), fun hmappable hone hmany n hn => ?_⟩
    subst hn
    refine (exec_laneMapRead h hmappable hone hmany).trans (congrArg (fun d => Host.Outcome.next (s.answered c .ok d)) ?_)
    refine congrArg _ (List.flatMap_congr fun i _ => ?_)
    change (s.laneEntry (read2 c.payload 10 + i)).bytes = _
    cases s.laneEntry (read2 c.payload 10 + i) <;> rfl
  · subst hclip hmember hplace
    refine ⟨fun hbad => State.takeCommand_answered (body := clipQueryBody) h ?_, exec_clipQuery h⟩
    unfold clipQueryBody
    split
    · rfl
    · rename_i inRange
      exact if_pos (hbad.resolve_left inRange)
  · obtain rfl : e = c.eventArg := he
    refine ⟨fun hbad => State.takeCommand_answered (body := spliceQueryBody) h (if_pos hbad), fun hevent => ?_⟩
    extract_lets r time times byte given finish arming place
    refine ⟨bytesOption 2 bytes2 (s.placeInOrder c.eventArg), ⟨fun habsent => ?_, fun n _ hn hfirst => ?_⟩, ?_⟩
    · rw [State.placeInOrder_eq_none habsent]
      rfl
    · rw [State.placeInOrder_eq_some hn hfirst]
      rfl
    · refine (exec_spliceQuery h hevent).trans (congrArg (fun d => Host.Outcome.next (s.answered c .ok d)) ?_)
      have times_eq : ∀ x, bytesOption 8 bytesTime x = times x := fun x => by cases x <;> rfl
      have byte_eq : ∀ {α : Type} (code : α → Nat) x, bytesOption 1 (fun a => bytes1 (code a)) x = byte (x.map code) :=
        fun code x => by cases x <;> rfl
      have given_eq : givenBytes r.order = given := by
        simp only [given]
        cases r.order with
        | none => rfl
        | some o => cases horigin : o.origin <;> simp only [givenBytes, bytesOption, horigin] <;> rfl
      have finish_eq : bytesOption 6 bytesSlotTime r.finish = finish := by
        simp only [finish]
        cases r.finish <;> rfl
      have arming_eq : bytesTime r.reportedArming = arming := by
        simp only [arming, EventRecord.reportedArming]
        cases r.order <;> rfl
      rw [State.queryEventData_eq, given_eq, finish_eq, arming_eq, times_eq, times_eq, times_eq, byte_eq, byte_eq]
      rfl

end Sys2Proof.Machine

namespace Sys2Proof.Machine

/-! ### Second numbers modulo 2^32 (R53) -/

theorem secondEarlier_iff (a b : Word32) : secondEarlier a b = true ↔ 1 ≤ (b - a).toNat ∧ (b - a).toNat ≤ 2147483648 := by
  simp [secondEarlier]

theorem secondLater_iff (a b : Word32) : secondLater a b = true ↔ 1 ≤ (a - b).toNat ∧ (a - b).toNat ≤ 2147483647 := by
  simp [secondLater]

theorem secondNoLater_iff (a b : Word32) :
    secondNoLater a b = true ↔ a = b ∨ (1 ≤ (b - a).toNat ∧ (b - a).toNat ≤ 2147483648) := by
  simp [secondNoLater, secondEarlier, or_comm]

/-- A second that is later than another is not no later than it: the circle holds 2^32 seconds (R53). -/
theorem secondNoLater_of_later {a b : Word32} (h : 1 ≤ (a - b).toNat ∧ (a - b).toNat ≤ 2147483647) :
    secondNoLater a b = false := by
  rw [← Bool.not_eq_true, secondNoLater_iff]
  bv_omega

/-! ### The plan in force (R60) -/

section
variable {u : PlanUnit} {sec : Word32} {p : Plan}

theorem PlanUnit.inForce_of_no_pending (h : u.pending = none) : u.inForce sec = u.current := by
  simp [PlanUnit.inForce, h]

theorem PlanUnit.inForce_pending (h : u.pending = some p) :
    u.inForce sec = if secondNoLater p.eff sec then some p else u.current := by
  simp [PlanUnit.inForce, h]

end

/-! ### The emission arithmetic (R65 to R69) -/

/-- The release second is the one of four consecutive seconds that the tag names (R65). -/
theorem releaseSecond_spec (tag : BitVec 2) (now : Word32) :
    (releaseSecond tag now).toNat % 4 = tag.toNat ∧
      (releaseSecond tag now = now - 2 ∨ releaseSecond tag now = now - 1 ∨ releaseSecond tag now = now ∨
        releaseSecond tag now = now + 1) := by
  unfold releaseSecond
  dsimp only
  split
  · exact ⟨by bv_omega, by simp⟩
  split
  · exact ⟨by bv_omega, by simp⟩
  split
  · exact ⟨by bv_omega, by simp⟩
  · exact ⟨by bv_omega, by simp⟩

/-- The nominal time carries whole seconds: hold and subsecond give at most two (R66). -/
theorem nominalTime_carry (release : Word32) {sub hold : Nat} (hsub : sub < 10000000) (hhold : hold ≤ 15000000) :
    ∃ carry : Nat, carry ≤ 2 ∧
      nominalTime release sub hold = ⟨release + BitVec.ofNat 32 carry, sub + hold - 10000000 * carry⟩ ∧
      10000000 * carry ≤ sub + hold ∧ sub + hold < 10000000 * carry + 10000000 := by
  refine ⟨(sub + hold) / 10000000, by omega, ?_, by omega, by omega⟩
  have rest : (sub + hold) % 10000000 = sub + hold - 10000000 * ((sub + hold) / 10000000) := by omega
  rw [nominalTime, rest]

section
variable {n : Time} {d : Int}

theorem Time.shift_borrow (h : (n.sub : Int) + d < 0) : n.shift d = ⟨n.sec - 1, ((n.sub : Int) + d + 10000000).toNat⟩ :=
  if_pos h

theorem Time.shift_carry (h : 10000000 ≤ (n.sub : Int) + d) : n.shift d = ⟨n.sec + 1, ((n.sub : Int) + d - 10000000).toNat⟩ :=
  (if_neg (by omega)).trans (if_pos h)

theorem Time.shift_within (h0 : 0 ≤ (n.sub : Int) + d) (h : (n.sub : Int) + d < 10000000) :
    n.shift d = ⟨n.sec, ((n.sub : Int) + d).toNat⟩ :=
  (if_neg (by omega)).trans (if_neg (by omega))

end

/-- Settles O52, rule by rule of the emission arithmetic. -/
theorem timesOfTheArithmetic : Obligations.TimesOfTheArithmetic := by
  refine ⟨fun u sec => ⟨PlanUnit.inForce_of_no_pending, fun p hp => ?_, fun p hp => ?_, fun hnone => ?_⟩,
    releaseSecond_spec, fun release sub hold => nominalTime_carry release, fun n trim hsub hlow hhigh => ?_⟩
  · rw [PlanUnit.inForce_pending hp]
    exact ⟨fun due => if_pos ((secondNoLater_iff _ _).2 due), fun later => by rw [secondNoLater_of_later later]; rfl⟩
  · rw [PlanUnit.slotsFor, hp]; rfl
  · rw [PlanUnit.slotsFor, hnone]; rfl
  · refine ⟨?_, fun borrow => ?_, fun low high => ?_, fun carry => ?_⟩
    · rcases lt_or_ge ((n.sub : Int) + trim) 0 with low | low
      · rw [Time.shift_borrow low]; dsimp only; omega
      rcases lt_or_ge ((n.sub : Int) + trim) 10000000 with high | high
      · rw [Time.shift_within low high]; dsimp only; omega
      · rw [Time.shift_carry high]; dsimp only; omega
    · rw [Time.shift_borrow borrow]; exact ⟨rfl, by dsimp only; omega⟩
    · rw [Time.shift_within low high]; exact ⟨rfl, by dsimp only; omega⟩
    · rw [Time.shift_carry carry]; exact ⟨rfl, by dsimp only; omega⟩

/-! ### The target slot (R69) -/

/-- The number of the first slot of a second of `k` slots that starts no earlier than a subsecond, `k` where none does (R69). -/
def firstSlot (sub k : Nat) : Nat := (sub * k + 9999999) / 10000000

theorem targetSlot_eq (e : Time) (k : Nat) :
    targetSlot e k =
      if firstSlot e.sub k = k then ⟨e.sec + 1, 1⟩
      else if firstSlot e.sub k = 0 then ⟨e.sec, 1⟩ else ⟨e.sec, firstSlot e.sub k⟩ := rfl

/-- The first slot is the quotient of `sub * k` by the ticks of a second, rounded up. -/
theorem firstSlot_spec (sub k : Nat) :
    sub * k ≤ firstSlot sub k * 10000000 ∧ firstSlot sub k * 10000000 < sub * k + 10000000 := by
  unfold firstSlot
  omega

theorem firstSlot_le {sub : Nat} (k : Nat) (hsub : sub < 10000000) : firstSlot sub k ≤ k := by
  have product : sub * k + k ≤ 10000000 * k := Nat.succ_mul sub k ▸ Nat.mul_le_mul_right k hsub
  unfold firstSlot
  omega

/-- A slot in front of the first slot starts earlier. -/
theorem lt_of_lt_firstSlot {sub k i : Nat} (h : i < firstSlot sub k) : i * 10000000 < sub * k := by
  unfold firstSlot at h
  omega

/-- Settles O53: the exact quotient, rounded up, against the starts, rounded down. -/
theorem targetIsTheFirstSlot : Obligations.TargetIsTheFirstSlot := by
  intro e k hsub hk
  obtain ⟨above, below⟩ := firstSlot_spec e.sub k
  refine ⟨firstSlot e.sub k, firstSlot_le k hsub, ?_, fun i hi => ?_, above, below, fun last => ?_, fun first => ?_,
    fun notLast notFirst => ?_⟩
  · exact (Nat.le_div_iff_mul_le hk).2 above
  · exact (Nat.div_lt_iff_lt_mul hk).2 (lt_of_lt_firstSlot hi)
  · rw [targetSlot_eq, if_pos last]
  · rw [targetSlot_eq, if_neg (by omega), if_pos first]
  · rw [targetSlot_eq, if_neg notLast, if_neg notFirst]

/-! ### Lateness (R71) -/

section
variable {c : Word32} {i kNow kPrev : Nat} {t : SlotTime}

theorem lateness_thisSecond (h : t.sec = c) :
    lateness c i kNow kPrev t = if t.slot < kNow ∧ t.slot ≤ i then .due (i - t.slot) else .notDue := by
  rw [lateness, if_pos h]
  by_cases hk : t.slot < kNow
  · simp [hk]
  · simp [hk]

theorem lateness_lastSecond (h : t.sec = c - 1) :
    lateness c i kNow kPrev t = if t.slot < kPrev then .due (kPrev - t.slot + i) else .due (i - 1) := by
  rw [lateness, if_neg (by bv_omega), if_pos h]

theorem lateness_otherSecond (hnow : t.sec ≠ c) (hlast : t.sec ≠ c - 1) :
    lateness c i kNow kPrev t = if secondLater t.sec c then .notDue else .tooLate := by
  rw [lateness, if_neg hnow, if_neg hlast]

end

/-- Settles O54, by the second of the target. -/
theorem latenessOfTheHead : Obligations.LatenessOfTheHead := by
  intro c i kNow kPrev t
  refine ⟨fun later => ?_, fun now hk hi => ?_, fun now hk hi => ?_, fun now hk => ?_, fun last hk => ?_, fun last hk _ => ?_,
    fun earlier half => ?_⟩
  · have range := (secondLater_iff _ _).1 later
    rw [lateness_otherSecond (by bv_omega) (by bv_omega), if_pos later]
  · rw [lateness_thisSecond now, if_neg (by omega)]
  · rw [lateness_thisSecond now, if_pos ⟨hk, hi⟩]
  · rw [lateness_thisSecond now, if_neg (by omega)]
  · rw [lateness_lastSecond last, if_pos hk]
  · rw [lateness_lastSecond last, if_neg (by omega)]
  · have range := (secondEarlier_iff _ _).1 earlier
    have notLater : ¬secondLater t.sec c = true := by
      rw [secondLater_iff]
      bv_omega
    rw [lateness_otherSecond (by bv_omega) (by bv_omega), if_neg notLater]

end Sys2Proof.Machine

namespace Sys2Proof.Machine

/-! ### TIMING cells (R54 to R57) -/

theorem validTiming_iff (p : Plan) (tag : BitVec 2) : validTiming p tag = true ↔ p.law ∧ tag = p.eff.setWidth 2 := by
  simp [validTiming, Plan.law, and_assoc]

/-- The restart of the stale timer with its notices, as a plain update (R57, R59, R61). -/
theorem State.restartStale_eq (s : State) (b : Bool) :
    let t : State := { s with plan := { s.plan with staleTimer := 0, stale := false } }
    let fresh := if s.plan.stale then s.control.withNotice s.clock .plan (t.planNoticeData .fresh) else s.control
    s.restartStale b = { t with
      control := if b then fresh.withNotice s.clock .plan (t.planNoticeData .pending) else fresh } := by
  unfold State.restartStale State.notifyPlan
  dsimp only
  cases s.plan.stale <;> cases b <;> simp only [State.notify_eq] <;> rfl

section
variable {s : State} {cell : Cell} {cur : Plan}

theorem State.takeTiming_bad (h : validTiming (readPlan cell.payload) cell.header.tag = false) :
    s.takeTiming cell = s.countNf (fun c => { c with badTiming := satAdd c.badTiming 1 }) := by
  simp [State.takeTiming, h]

variable (valid : validTiming (readPlan cell.payload) cell.header.tag = true)
include valid

/-- The first valid plan becomes the current plan (R55). -/
theorem State.takeTiming_first (hcur : s.plan.current = none) :
    s.takeTiming cell =
      ({ s with plan := { s.plan with current := some (readPlan cell.payload), staleTimer := 0 } } : State).notifyPlan
        .firstPlan := by
  simp [State.takeTiming, valid, hcur]

/-- A plan already due that is not the current one is late (R56). -/
theorem State.takeTiming_late (hcur : s.plan.current = some cur)
    (due : secondNoLater (readPlan cell.payload).eff s.clock.second = true)
    (other : ¬((readPlan cell.payload).hold = cur.hold ∧ (readPlan cell.payload).slots = cur.slots)) :
    s.takeTiming cell = s.countNf (fun c => { c with lateTiming := satAdd c.lateTiming 1 }) := by
  simp only [State.takeTiming, valid, hcur, due, if_true, if_neg other]

/-- A plan already due that repeats the current one refreshes it (R56, R57). -/
theorem State.takeTiming_repeat (hcur : s.plan.current = some cur)
    (due : secondNoLater (readPlan cell.payload).eff s.clock.second = true)
    (same : (readPlan cell.payload).hold = cur.hold ∧ (readPlan cell.payload).slots = cur.slots) :
    s.takeTiming cell = s.restartStale false := by
  simp only [State.takeTiming, valid, hcur, due, if_true, if_pos same]

/-- A coming plan that repeats the pending one refreshes it (R56, R57). -/
theorem State.takeTiming_again (hcur : s.plan.current = some cur)
    (coming : secondNoLater (readPlan cell.payload).eff s.clock.second = false)
    (same : s.plan.pending = some (readPlan cell.payload)) : s.takeTiming cell = s.restartStale false := by
  simp [State.takeTiming, valid, hcur, coming, same]

/-- Any other coming plan becomes the pending plan (R56, R57). -/
theorem State.takeTiming_pending (hcur : s.plan.current = some cur)
    (coming : secondNoLater (readPlan cell.payload).eff s.clock.second = false)
    (other : s.plan.pending ≠ some (readPlan cell.payload)) :
    s.takeTiming cell =
      ({ s with plan := { s.plan with pending := some (readPlan cell.payload) } } : State).restartStale true := by
  simp [State.takeTiming, valid, hcur, coming, other]

end

/-- The network FIFO holds the cells behind its head (R28). -/
def State.pastHead (s : State) (rest : List Cell) : State := { s with nf := { s.nf with fifo := rest } }

/-- The head of the network FIFO, a TIMING cell, leaves it for the Timing Plan unit (R28, R30). -/
theorem exec_timingHead {s : State} {cell : Cell} {rest : List Cell} (hfifo : s.nf.fifo = cell :: rest)
    (hk : cell.header.kind = .timing) (hw : s.store.nfWaiting = none) :
    exec (.intakeHeadHandoff .nf) s = .next ((s.pastHead rest).takeTiming cell) := by
  have free : s.headWaits .nf = false := by simp [State.headWaits, hw]
  have handed : s.handHead .nf cell = (s.popFifo .nf).takeTiming cell := by simp [State.handHead, hk]
  refine (execIntakeHeadHandoff_head (p := .nf) hfifo free).trans ?_
  rw [handed, State.popFifo_head (p := .nf) hfifo]
  rfl

/-- The second tag of a TIMING cell against the two low bits of its effective second (R54). -/
theorem tag_eq_setWidth_iff (tag : BitVec 2) (x : Word32) : tag = x.setWidth 2 ↔ tag.toNat = x.toNat % 4 := by
  rw [← BitVec.toNat_inj, BitVec.toNat_setWidth]

/-- Settles O23, by what the cell's plan is to the plans there are. -/
theorem timingCellSetsThePlan : Obligations.TimingCellSetsThePlan := by
  intro s cell rest hfifo hk hw p valid
  have checks : validTiming p cell.header.tag = true ↔ valid := by
    rw [validTiming_iff, tag_eq_setWidth_iff, Plan.law]
    simp only [valid, and_assoc]
  have handed : ∀ {u}, (s.pastHead rest).takeTiming cell = u →
      exec (.intakeHeadHandoff .nf) s = .next u := fun h => h ▸ exec_timingHead hfifo hk hw
  by_cases hvalid : valid
  case neg =>
    have bad : validTiming p cell.header.tag = false := Bool.eq_false_iff.2 fun h => hvalid (checks.1 h)
    have taken := State.takeTiming_bad (s := s.pastHead rest) bad
    exact ⟨_, handed taken, rfl, fun _ => ⟨rfl, rfl, rfl⟩, fun h => absurd h hvalid, fun _ h => absurd h hvalid,
      fun _ h => absurd h hvalid⟩
  have good := checks.2 hvalid
  cases hcur : s.plan.current with
  | none =>
    have taken := (State.takeTiming_first (s := s.pastHead rest) good hcur).trans (State.notify_eq _ _ _)
    exact ⟨_, handed taken, rfl, fun h => absurd hvalid h, fun _ _ => ⟨rfl, rfl, rfl⟩, nofun, nofun⟩
  | some cur =>
    cases due : secondNoLater p.eff s.clock.second with
    | true =>
      by_cases same : p.hold = cur.hold ∧ p.slots = cur.slots
      · have taken := (State.takeTiming_repeat (s := s.pastHead rest) good hcur due same).trans (State.restartStale_eq _ _)
        refine ⟨_, handed taken, rfl, fun h => absurd hvalid h, nofun, fun _ _ h _ other => ?_,
          fun _ _ _ => ⟨fun _ _ _ => ⟨rfl, rfl, rfl⟩, nofun, nofun⟩⟩
        cases h
        exact absurd same other
      · have taken := State.takeTiming_late (s := s.pastHead rest) good hcur due same
        refine ⟨_, handed taken, rfl, fun h => absurd hvalid h, nofun, fun _ _ _ _ _ => ⟨rfl, rfl, rfl⟩,
          fun _ _ h => ⟨fun _ hold slots => ?_, nofun, nofun⟩⟩
        cases h
        exact absurd ⟨hold, slots⟩ same
    | false =>
      by_cases again : s.plan.pending = some p
      · have taken := (State.takeTiming_again (s := s.pastHead rest) good hcur due again).trans (State.restartStale_eq _ _)
        exact ⟨_, handed taken, rfl, fun h => absurd hvalid h, nofun, nofun,
          fun _ _ _ => ⟨nofun, fun _ _ => ⟨rfl, rfl, rfl⟩, fun _ other => absurd again other⟩⟩
      · have taken := (State.takeTiming_pending (s := s.pastHead rest) good hcur due again).trans
          (State.restartStale_eq _ _)
        exact ⟨_, handed taken, rfl, fun h => absurd hvalid h, nofun, nofun,
          fun _ _ _ => ⟨nofun, fun _ same => absurd same again, fun _ _ => ⟨rfl, rfl, rfl⟩⟩⟩

end Sys2Proof.Machine

namespace Sys2Proof.Machine

/-! ### The Timing Plan unit, move by move (R52, R54 to R59, R62) -/

/-- What the plan law says of the Timing Plan unit by itself. -/
structure PlanUnit.lawful (u : PlanUnit) : Prop where
  current : ∀ p, u.current = some p → p.law
  pending : ∀ p, u.pending = some p → p.law ∧ u.current.isSome
  timer : u.staleTimer ≤ 80000000
  stale : u.stale = true ↔ u.staleTimer = 80000000
  idle : u.current = none → u.staleTimer = 0
  trim : -500000 ≤ u.trim ∧ u.trim ≤ 500000

/-- Everything an event can do to the Timing Plan unit, but for a FULL_RESET. -/
inductive PlanUnit.Moves (u : PlanUnit) : PlanUnit → Prop where
  | stays : Moves u u
  | edge : u.current.isSome → u.staleTimer < staleLimit →
      Moves u { u with
        staleTimer := u.staleTimer + 1
        stale := if u.staleTimer + 1 = staleLimit then true else u.stale }
  | change {p} : u.pending = some p → Moves u { u with current := some p, pending := none }
  | first {p} : p.law → u.current = none → Moves u { u with current := some p, staleTimer := 0 }
  | refresh : u.current.isSome → Moves u { u with staleTimer := 0, stale := false }
  | pend {p} : p.law → u.current.isSome → Moves u { u with pending := some p, staleTimer := 0, stale := false }
  | trim {t} : -500000 ≤ t ∧ t ≤ 500000 → Moves u { u with trim := t }

theorem PlanUnit.Moves.lawful {u v : PlanUnit} (h : u.Moves v) (hu : u.lawful) : v.lawful := by
  obtain ⟨current, pending, timer, stale, idle, trim⟩ := hu
  cases h with
  | stays => exact ⟨current, pending, timer, stale, idle, trim⟩
  | edge hcur hrun =>
    have unset : ¬u.stale = true := fun h => absurd (stale.1 h) (Nat.ne_of_lt hrun)
    refine ⟨current, pending, hrun, ?_, fun hnone => absurd hnone (Option.isSome_iff_ne_none.1 hcur), trim⟩
    by_cases last : u.staleTimer + 1 = staleLimit
    · simp [last]
    · simp [last, unset]
  | change hp =>
    refine ⟨?_, nofun, timer, stale, nofun, trim⟩
    rintro q ⟨⟩
    exact (pending _ hp).1
  | first hp hnone =>
    refine ⟨?_, fun q hq => ⟨(pending q hq).1, rfl⟩, Nat.zero_le _, idle hnone ▸ stale, nofun, trim⟩
    rintro q ⟨⟩
    exact hp
  | refresh hcur => exact ⟨current, pending, Nat.zero_le _, ⟨nofun, nofun⟩, fun _ => rfl, trim⟩
  | pend hp hcur =>
    refine ⟨current, ?_, Nat.zero_le _, ⟨nofun, nofun⟩, fun _ => rfl, trim⟩
    rintro q ⟨⟩
    exact ⟨hp, hcur⟩
  | trim ht => exact ⟨current, pending, timer, stale, idle, ht⟩

/-- Once there is a current plan there is one until a FULL_RESET (R52). -/
theorem PlanUnit.Moves.current {u v : PlanUnit} (h : u.Moves v) (hu : u.current.isSome) : v.current.isSome := by
  cases h with
  | change => rfl
  | first => rfl
  | _ => exact hu

/-- With a current plan every second has a slot count (R60). -/
theorem PlanUnit.slotsFor_isSome {u : PlanUnit} (h : u.current.isSome) (sec : Word32) : (u.slotsFor sec).isSome := by
  unfold PlanUnit.slotsFor PlanUnit.inForce
  split
  · split
    · rfl
    · simpa using h
  · simpa using h

section
variable (s : State)

theorem State.staleAdvance_moves : s.plan.Moves s.staleAdvance.plan := by
  rw [State.staleAdvance_result]
  split
  · rename_i run
    exact .edge run.1 run.2
  · exact .stays

theorem State.planChange_moves : s.plan.Moves s.planChange.plan := by
  rw [State.planChange_result]
  split
  · exact .stays
  · rename_i p hp
    split
    · exact .change hp
    · exact .stays

theorem State.restartStale_plan_eq (b : Bool) :
    (s.restartStale b).plan = { s.plan with staleTimer := 0, stale := false } := by
  rw [State.restartStale_eq]

/-- A TIMING cell leaves the plans, gives the first one, refreshes the one there is, or gives the pending one (R54 to R57). -/
theorem State.takeTiming_moves (cell : Cell) : s.plan.Moves (s.takeTiming cell).plan := by
  cases valid : validTiming (readPlan cell.payload) cell.header.tag with
  | false => rw [State.takeTiming_bad valid]; exact .stays
  | true =>
    have law := ((validTiming_iff _ _).1 valid).1
    cases hcur : s.plan.current with
    | none =>
      simpa [State.takeTiming_first valid hcur] using PlanUnit.Moves.first law hcur
    | some cur =>
      have planned : s.plan.current.isSome := by rw [hcur]; rfl
      cases due : secondNoLater (readPlan cell.payload).eff s.clock.second with
      | true =>
        by_cases same : (readPlan cell.payload).hold = cur.hold ∧ (readPlan cell.payload).slots = cur.slots
        · rw [State.takeTiming_repeat valid hcur due same, State.restartStale_plan_eq]
          exact .refresh planned
        · rw [State.takeTiming_late valid hcur due same]
          exact .stays
      | false =>
        by_cases again : s.plan.pending = some (readPlan cell.payload)
        · rw [State.takeTiming_again valid hcur due again, State.restartStale_plan_eq]
          exact .refresh planned
        · rw [State.takeTiming_pending valid hcur due again, State.restartStale_plan_eq]
          exact .pend law planned

end

/-! ### The Emitter's need of a plan (R62, R76, R78) -/

/-- What the plan law says of the Emitter, with a current plan or without. -/
structure Emitter.planned (m : Emitter) (plan : Prop) : Prop where
  late : m.lateAllowance ≤ 255
  started : m.state ≠ .stopped ∨ m.change = .start → plan
  slots : m.state ≠ .stopped → m.kNow.isSome

/-- The plan law is a law of the Timing Plan unit and one of the Emitter. -/
theorem State.planLaw_iff (s : State) : s.planLaw ↔ s.plan.lawful ∧ s.emitter.planned s.plan.current.isSome :=
  ⟨fun ⟨current, pending, timer, stale, idle, trim, late, started, slots⟩ =>
      ⟨⟨current, pending, timer, stale, idle, trim⟩, ⟨late, started, slots⟩⟩,
    fun ⟨⟨current, pending, timer, stale, idle, trim⟩, ⟨late, started, slots⟩⟩ =>
      ⟨current, pending, timer, stale, idle, trim, late, started, slots⟩⟩

/-- An emitter that a boundary leaves in MUTED or RUNNING was there, or had been told to start (R77). -/
theorem resolveChange_begins {state : EmitterState} {change : PendingChange} {inStep : Bool}
    (h : (resolveChange state change inStep).1 ≠ .stopped) : state ≠ .stopped ∨ change = .start := by
  cases state with
  | muted => exact .inl nofun
  | running => exact .inl nofun
  | stopped =>
    cases change with
    | start => exact .inr rfl
    | none => exact absurd rfl h
    | stop => exact absurd rfl h

/-- The Emitter is started by nothing between two states: it may be muted or stopped, and the late allowance stays. -/
structure Emitter.NotStarted (m n : Emitter) : Prop where
  late : n.lateAllowance = m.lateAllowance
  state : n.state ≠ .stopped → m.state ≠ .stopped
  change : n.change = .start → m.change = .start
  slots : n.kNow = m.kNow

theorem Emitter.NotStarted.planned {m n : Emitter} (h : m.NotStarted n) {plan after : Prop} (hm : m.planned plan)
    (hplan : plan → after) : n.planned after :=
  ⟨h.late ▸ hm.late, fun started => hplan (hm.started (started.imp h.state h.change)),
    fun running => h.slots ▸ hm.slots (h.state running)⟩

theorem Emitter.NotStarted.of_eq {m n : Emitter}
    (h : n.lateAllowance = m.lateAllowance ∧ n.state = m.state ∧ n.change = m.change ∧ n.kNow = m.kNow) : m.NotStarted n :=
  have ⟨late, state, change, slots⟩ := h
  ⟨late, fun h => state ▸ h, fun h => change ▸ h, slots⟩

section
variable {s t : State} (h : s.planLaw)
include h

/-- The plans move, and the Emitter is not started. -/
theorem State.planLaw.moves (plans : s.plan.Moves t.plan) (emits : s.emitter.NotStarted t.emitter) : t.planLaw := by
  obtain ⟨unit, emitter⟩ := (State.planLaw_iff s).1 h
  exact (State.planLaw_iff t).2 ⟨plans.lawful unit, emits.planned emitter plans.current⟩

/-- The plans stay, and the Emitter is not started. -/
theorem State.planLaw.quiet (plan : t.plan = s.plan) (emits : s.emitter.NotStarted t.emitter) : t.planLaw :=
  h.moves (plan ▸ .stays) emits

theorem State.planLaw.kept (k : t.plan = s.plan ∧ t.emitter = s.emitter) : t.planLaw :=
  h.quiet k.1 (k.2 ▸ .of_eq ⟨rfl, rfl, rfl, rfl⟩)

/-- A boundary handed over: an Emitter that is started there has a current plan, and
with it a slot count for the new second (R58, R60, R77). -/
theorem State.planLaw.handBoundary : s.handBoundary.planLaw := by
  obtain ⟨unit, late, started, slots⟩ := (State.planLaw_iff s).1 h
  obtain ⟨plan, state, change, -, -, -, kNow, -⟩ := State.handBoundary_result s
  have moves : s.plan.Moves s.handBoundary.plan := plan ▸ State.planChange_moves s
  have resolved : s.handBoundary.emitter.state ≠ .stopped → s.emitter.state ≠ .stopped ∨ s.emitter.change = .start := by
    rw [state]
    exact resolveChange_begins
  have current : s.handBoundary.emitter.state ≠ .stopped → s.handBoundary.plan.current.isSome :=
    fun running => moves.current (started (resolved running))
  refine (State.planLaw_iff _).2 ⟨moves.lawful unit, ?_, fun begun => begun.elim current fun h => ?_, fun running => ?_⟩
  · simpa using late
  · rw [change] at h; cases h
  · rw [kNow]
    exact PlanUnit.slotsFor_isSome (plan ▸ current running) _

theorem State.planLaw.staleAdvance : s.staleAdvance.planLaw :=
  h.moves s.staleAdvance_moves (.of_eq (by simp))

/-- The grants of the arbiter count at the Emitter and change nothing else of it. -/
theorem State.planLaw.arbitrate : s.arbitrate.planLaw :=
  h.quiet (by simp) (.of_eq (by simp))

theorem State.planLaw.edgeBoundary : s.edgeBoundary.planLaw := by
  have clock : s.clockBoundary.planLaw := h.kept (by simp)
  exact clock.staleAdvance.handBoundary

/-- A step of the count passes slots over and arms, or hands a boundary over (R10). -/
theorem State.planLaw.takeStep (b : ClockState) (e : Int) : (s.takeStep b e).planLaw := by
  rw [State.takeStep_eq]
  have moved : (({ s with clock := s.clock.stepped e } : State).notifyClock b .bad).planLaw := h.kept (by simp)
  dsimp only
  split
  · split
    · exact moved.quiet (by simp) (.of_eq (by simp))
    · exact moved.kept (by simp)
  · exact moved.handBoundary

end

/-! ### The rows and the commands' own rules -/

theorem State.afterReset_planLaw (straps : BitVec 16) (epoch counter : Word32) (draws : Nat) (pending : List Instr) :
    (State.afterReset straps epoch counter draws pending).planLaw := by
  have trim : (-500000 : Int) ≤ 0 ∧ (0 : Int) ≤ 500000 := by decide
  have late : 16 ≤ 255 := by decide
  refine ⟨nofun, nofun, Nat.zero_le _, ⟨nofun, nofun⟩, fun _ => rfl, trim, late, ?_, fun running => absurd rfl running⟩
  rintro (running | starting)
  · exact absurd rfl running
  · cases starting

/-- A slot mutes the Emitter or leaves its state (R84 to R87). -/
theorem State.beginSlot_notStarted (s : State) : s.emitter.NotStarted s.beginSlot.emitter := by
  refine ⟨by simp, fun running stopped => running ?_, fun h => by simpa using h, by simp⟩
  rw [State.beginSlot, stopped]
  exact stopped

/-- STATS clears counters of the Emitter at most (R166). -/
theorem statsBody_notStarted (c : Command) (s : State) : s.emitter.NotStarted (statsBody c s).emitter := by
  unfold statsBody
  split
  · exact .of_eq (by simp)
  split
  · exact .of_eq ⟨rfl, rfl, rfl, rfl⟩
  · exact .of_eq (by simp)

section
variable {s t : State}

/-- A cell classified is counted at the Emitter, or its record asks for its write (R37, R64). -/
theorem State.planLaw.classify (h : s.planLaw) (cell : Cell) (output : Nat) (place : Option GroupPlace) :
    (s.classify cell output place).planLaw := by
  unfold State.classify
  dsimp only
  split
  · split
    · exact h.quiet rfl (.of_eq ⟨rfl, rfl, rfl, rfl⟩)
    · exact State.planLaw.arbitrate (h.kept ⟨rfl, rfl⟩)
  · exact h.quiet rfl (.of_eq ⟨rfl, rfl, rfl, rfl⟩)

theorem State.planLaw.handData (h : s.planLaw) (cell : Cell) : (s.handData cell).planLaw := by
  have tested : (s.testContinuity cell.header).planLaw := h.kept (by simp)
  unfold State.handData
  dsimp only
  split
  · exact tested.kept (by simp)
  · exact tested.classify _ _ _
  · exact tested.classify _ _ _

theorem State.planLaw.handClipCell (h : s.planLaw) (cell : Cell) : (s.handClipCell cell).planLaw := by
  unfold State.handClipCell
  dsimp only
  split
  · exact State.planLaw.arbitrate (h.kept ⟨rfl, rfl⟩)
  · exact h.kept (by simp)

theorem State.planLaw.handHead (h : s.planLaw) (p : Port) (cell : Cell) : (s.handHead p cell).planLaw := by
  unfold State.handHead
  split
  case h_1 => exact h.handData cell
  case h_2 =>
    have left : (s.popFifo .nf).planLaw := h.kept (by simp)
    exact left.moves (State.takeTiming_moves _ cell) (.of_eq (by simp))
  case h_5 => exact h.handClipCell cell
  all_goals exact h.kept (by simp)

theorem clampTrim_range (x : Int) : -500000 ≤ clampTrim x ∧ clampTrim x ≤ 500000 := by
  unfold clampTrim
  omega

theorem State.planLaw.siteSetBody (h : s.planLaw) (c : Command) : (siteSetBody c s).planLaw := by
  obtain ⟨unit, late, started, slots⟩ := (State.planLaw_iff s).1 h
  have set : ({ s with
      plan := { s.plan with trim := clampTrim c.trimArg }
      emitter := { s.emitter with lateAllowance := min 255 c.lateArg } } : State).planLaw :=
    (State.planLaw_iff _).2 ⟨(PlanUnit.Moves.trim (clampTrim_range _)).lawful unit, Nat.min_le_left .., started, slots⟩
  unfold Machine.siteSetBody
  dsimp only
  split
  · exact set.kept (by simp)
  · exact set.kept (by simp)

/-- A change to START is pending only while there is a current plan (R78). -/
theorem State.planLaw.setChange (h : s.planLaw) {x : PendingChange} (hx : x = .start → s.plan.current.isSome) :
    (s.setChange x).planLaw := by
  obtain ⟨unit, late, started, slots⟩ := (State.planLaw_iff s).1 h
  exact (State.planLaw_iff _).2 ⟨unit, late, fun begun => begun.elim (fun running => started (.inl running)) hx, slots⟩

theorem State.planLaw.emitStartBody (h : s.planLaw) (c : Command) : (emitStartBody c s).planLaw := by
  unfold Machine.emitStartBody
  split
  · exact h.kept (by simp)
  · rename_i current
    split
    · exact (h.setChange (x := .start) fun _ => by simpa [Option.isSome_iff_ne_none] using current).kept (by simp)
    · exact h.kept (by simp)

theorem State.planLaw.emitStopBody (h : s.planLaw) (c : Command) : (emitStopBody c s).planLaw := by
  unfold Machine.emitStopBody
  split
  · exact (h.setChange (x := .stop) nofun).kept (by simp)
  split
  · exact (h.setChange (x := .none) nofun).kept (by simp)
  · exact h.kept (by simp)

/-- A RESTART stops the Emitter with nothing pending (R92). -/
theorem State.planLaw.restartBody (h : s.planLaw) (c : Command) : (restartBody c s).planLaw := by
  refine h.quiet (by simp) ?_
  unfold Machine.restartBody
  rw [State.restartEmitter_stopped]
  exact ⟨by simp, fun running => absurd rfl running, nofun, by simp⟩

/-- A command keeps the plan law where its own rule does (R158 to R160). -/
theorem State.planLaw.takeCommand (h : s.planLaw) {name : CommandName} {body : Command → State → State}
    (hbody : ∀ c u, State.planLaw u → (body c u).planLaw) (ht : s.takeCommand name body = .next t) : t.planLaw := by
  have popped : s.popCommand.planLaw := h.kept (by simp)
  exact State.takeCommand_keeps State.planLaw h (fun u hu => hu.kept (by simp))
    (fun c _ r _ _ => popped.kept (by simp)) (fun c _ _ _ _ => hbody c _ popped) ht

end

section
variable {s t : State} (h : s.planLaw)
include h

theorem State.planLaw.execCountedEdge (ht : execCountedEdge s = .next t) : t.planLaw := by
  unfold Machine.execCountedEdge at ht
  split at ht <;> (injection ht with ht; subst ht)
  · exact State.planLaw.staleAdvance (h.kept ⟨rfl, rfl⟩)
  · exact h.edgeBoundary

theorem State.planLaw.execSecondBoundary (ht : execSecondBoundary s = .next t) : t.planLaw := by
  unfold Machine.execSecondBoundary at ht
  split at ht <;> (injection ht with ht; subst ht)
  · exact h
  · exact h.edgeBoundary

theorem State.planLaw.execVerdict (ht : execVerdict s = .next t) : t.planLaw := by
  have judged : ∀ c, ({ s with clock := c } : State).planLaw := fun _ => h.kept ⟨rfl, rfl⟩
  unfold Machine.execVerdict at ht
  dsimp only at ht
  (repeat' split at ht) <;> (injection ht with ht; subst ht)
  · exact h.kept (by simp)
  · exact (judged _).takeStep _ _
  · exact h

theorem State.planLaw.execIntakeHeadHandoff {p : Port} (ht : execIntakeHeadHandoff p s = .next t) : t.planLaw := by
  unfold Machine.execIntakeHeadHandoff at ht
  (repeat' split at ht) <;> (injection ht with ht; subst ht)
  · exact h
  · exact h
  · exact h.handHead p _

theorem State.planLaw.execCellStoreAccessEnd (ht : execCellStoreAccessEnd s = .next t) : t.planLaw := by
  unfold Machine.execCellStoreAccessEnd at ht
  split at ht
  · injection ht with ht; subst ht; exact h
  · split at ht
    · injection ht with ht; subst ht
      exact State.planLaw.arbitrate (h.kept ⟨rfl, rfl⟩)
    · cases ht

theorem State.planLaw.execEmitterStagingRead {c : StageChoice} (ht : execEmitterStagingRead c s = .next t) : t.planLaw := by
  unfold Machine.execEmitterStagingRead at ht
  (repeat' split at ht) <;> (injection ht with ht; subst ht)
  · exact h
  · exact h
  · exact State.planLaw.arbitrate (h.kept ⟨rfl, rfl⟩)

theorem State.planLaw.execSlotStart (ht : execSlotStart s = .next t) : t.planLaw := by
  unfold Machine.execSlotStart at ht
  split at ht <;> (injection ht with ht; subst ht)
  · have begun : ({ s with emitter := { s.emitter with slot := s.emitter.slot + 1 } } : State).planLaw :=
      h.quiet rfl (.of_eq ⟨rfl, rfl, rfl, rfl⟩)
    exact begun.quiet (by simp) (State.beginSlot_notStarted _)
  · exact h

end

/-- Every row keeps the plan law: most leave the plans and start no Emitter. -/
theorem exec_planLaw {i : Instr} {s t : State} (h : s.planLaw) (ht : exec i s = .next t) : t.planLaw := by
  cases i with
  | fullReset cause straps => cases cause <;> (injection ht with ht; subst ht; exact State.afterReset_planLaw _ _ _ _ _)
  | countedEdge => exact h.execCountedEdge ht
  | secondBoundary => exact h.execSecondBoundary ht
  | verdict => exact h.execVerdict ht
  | intakeHeadHandoff p => exact h.execIntakeHeadHandoff ht
  | cellStoreAccessEnd => exact h.execCellStoreAccessEnd ht
  | emitterStagingRead c => exact h.execEmitterStagingRead ht
  | slotStart => exact h.execSlotStart ht
  | stats => exact h.takeCommand (fun c u hu => hu.quiet (by simp) (statsBody_notStarted c u)) ht
  | restart => exact h.takeCommand (fun c _ hu => hu.restartBody c) ht
  | siteSet => exact h.takeCommand (fun c _ hu => hu.siteSetBody c) ht
  | emitStart => exact h.takeCommand (fun c _ hu => hu.emitStartBody c) ht
  | emitStop => exact h.takeCommand (fun c _ hu => hu.emitStopBody c) ht
  | epochCounterTick => exact h.kept (by simp [execEpochCounterTick_frame ht])
  | timeCodeMessage intact n => exact h.kept (by simp [execTimeCodeMessage_frame ht])
  | pulse => exact h.kept (by simp [execPulse_frame ht])
  | frequencyLoss => exact h.kept (by simp [execFrequencyLoss_frame ht])
  | frequencyReturn => exact h.kept (by simp [execFrequencyReturn_frame ht])
  | huntCandidate p b => exact h.kept (by simp [execHuntCandidate_frame ht])
  | presyncHeader p b => exact h.kept (by simp [execPresyncHeader_frame ht])
  | syncHeader p b => exact h.kept (by simp [execSyncHeader_frame ht])
  | cellDelivery p b => exact h.kept (by simp [execCellDelivery_frame ht])
  | eventArming => exact h.kept (by simp [execEventArming_frame ht])
  | monitorCellSent => exact h.kept (by simp [execMonitorCellSent_frame ht])
  | unknown => exact h.kept (by simp [execUnknown_frame ht])
  | status => exact h.kept (by simp [execStatus_frame ht])
  | laneMapLoad => exact h.kept (by simp [execLaneMapLoad_frame ht])
  | laneMapRead => exact h.kept (by simp [execLaneMapRead_frame ht])
  | groupSet => exact h.kept (by simp [execGroupSet_frame ht])
  | watchSet => exact h.kept (by simp [execWatchSet_frame ht])
  | clockSet => exact h.kept (by simp [execClockSet_frame ht])
  | partition => exact h.kept (by simp [execPartition_frame ht])
  | clipOpen => exact h.kept (by simp [execClipOpen_frame ht])
  | clipClose => exact h.kept (by simp [execClipClose_frame ht])
  | clipRemove => exact h.kept (by simp [execClipRemove_frame ht])
  | clipQuery => exact h.kept (by simp [execClipQuery_frame ht])
  | spliceAdd => exact h.kept (by simp [execSpliceAdd_frame ht])
  | spliceCancel => exact h.kept (by simp [execSpliceCancel_frame ht])
  | spliceQuery => exact h.kept (by simp [execSpliceQuery_frame ht])

/-- Settles O56: a step runs one row, and every row keeps the plan law. -/
theorem planLawIsKept : Obligations.PlanLawIsKept := by
  intro s t h ht
  unfold step at ht
  split at ht
  · injection ht with ht; subst ht; exact h
  · rename_i i rest _
    exact exec_planLaw (s := { s with pending := rest }) (h.kept ⟨rfl, rfl⟩) ht

end Sys2Proof.Machine

namespace Sys2Proof.Machine

/-! ### The finish times of R127 on the circle of R53 -/

theorem EventState.final_iff (x : EventState) : x.final = true ↔ x = .done ∨ x = .failed ∨ x = .cancelled := by
  cases x <;> simp [EventState.final]

/-- A time with an event number stands in front of another: its second is nearer to `base`, or the seconds are equal and its slot
is smaller, or the times are equal and its number is lower. -/
def SlotTime.ranksFirst (base : Word32) (x : SlotTime) (e : Nat) (y : SlotTime) (k : Nat) : Prop :=
  (x.sec - base).toNat < (y.sec - base).toNat ∨ (x.sec = y.sec ∧ x.slot < y.slot) ∨ (x = y ∧ e < k)

section
variable {base : Word32} {x y z : SlotTime} {e j k : Nat}

theorem SlotTime.ranksFirst_iff :
    x.ranksFirst base e y k ↔
      (x.sec - base).toNat < (y.sec - base).toNat ∨
        (x.sec - base).toNat = (y.sec - base).toNat ∧ (x.slot < y.slot ∨ x.slot = y.slot ∧ e < k) := by
  have seconds : (x.sec - base).toNat = (y.sec - base).toNat ↔ x.sec = y.sec := by
    rw [BitVec.toNat_inj]
    exact ⟨fun h => by simpa using congrArg (· + base) h, fun h => by rw [h]⟩
  have times : x = y ↔ x.sec = y.sec ∧ x.slot = y.slot := by cases x; cases y; simp
  rw [SlotTime.ranksFirst, seconds, times]
  tauto

theorem SlotTime.ranksFirst.trans (h : x.ranksFirst base e y j) (h' : y.ranksFirst base j z k) : x.ranksFirst base e z k := by
  rw [SlotTime.ranksFirst_iff] at *
  omega

/-- Seconds in the half of the circle that begins at `base` are in order as their distances from it are (R53, R127). -/
theorem SlotTime.earlier_iff_of_half (hx : (x.sec - base).toNat < 2147483648) (hy : (y.sec - base).toNat < 2147483648) :
    x.earlier y = true ↔
      (x.sec - base).toNat < (y.sec - base).toNat ∨ (x.sec - base).toNat = (y.sec - base).toNat ∧ x.slot < y.slot := by
  have earlier : secondEarlier x.sec y.sec = true ↔ (x.sec - base).toNat < (y.sec - base).toNat := by
    rw [secondEarlier_iff]
    bv_omega
  have equal : x.sec = y.sec ↔ (x.sec - base).toNat = (y.sec - base).toNat := by bv_omega
  rw [SlotTime.earlier, Bool.or_eq_true, earlier, Bool.and_eq_true, decide_eq_true_iff, decide_eq_true_iff, equal]

end

/-- The event has a finish time in the half of the circle that begins at `base`. -/
def State.finishedWithin (s : State) (base : Word32) (e : Nat) : Prop :=
  ∃ x, (s.eventAt e).finish = some x ∧ (x.sec - base).toNat < 2147483648

/-- Event `e` finished before event `k`, or at the same time with the lower number, seconds counted from `base`. -/
def State.finishedFirst (s : State) (base : Word32) (e k : Nat) : Prop :=
  ∀ x y, (s.eventAt e).finish = some x → (s.eventAt k).finish = some y → x.ranksFirst base e y k

section
variable {s : State} {base : Word32} {b e j k : Nat}

theorem State.finishedFirst.trans (within : s.finishedWithin base j) (h : s.finishedFirst base e j)
    (h' : s.finishedFirst base j k) : s.finishedFirst base e k := by
  obtain ⟨z, hz, -⟩ := within
  exact fun x y hx hy => (h x z hx hz).trans (h' z y hz hy)

/-- Of two entries in a final state, the scan keeps the one that finished first: the former on equal times (R127). -/
theorem State.olderFinish_keeps (hfinal : (s.eventAt j).state.final = true) (hlater : b < j) :
    ∃ e other, s.olderFinish (some b) j = some e ∧ ((e = b ∧ other = j) ∨ (e = j ∧ other = b)) ∧
      ∀ base, s.finishedWithin base b → s.finishedWithin base j → s.finishedFirst base e other := by
  unfold State.olderFinish
  rw [if_pos hfinal]
  dsimp only
  split
  case isTrue older =>
    refine ⟨j, b, rfl, .inr ⟨rfl, rfl⟩, fun base ⟨x, hx, xhalf⟩ ⟨y, hy, yhalf⟩ y' x' hy' hx' => ?_⟩
    obtain rfl : y = y' := Option.some.inj (hy.symm.trans hy')
    obtain rfl : x = x' := Option.some.inj (hx.symm.trans hx')
    rw [hx, hy] at older
    rw [SlotTime.ranksFirst_iff]
    have := (SlotTime.earlier_iff_of_half yhalf xhalf).1 older
    omega
  case isFalse younger =>
    refine ⟨b, j, rfl, .inl ⟨rfl, rfl⟩, fun base ⟨x, hx, xhalf⟩ ⟨y, hy, yhalf⟩ x' y' hx' hy' => ?_⟩
    obtain rfl : y = y' := Option.some.inj (hy.symm.trans hy')
    obtain rfl : x = x' := Option.some.inj (hx.symm.trans hx')
    rw [hx, hy] at younger
    rw [SlotTime.ranksFirst_iff]
    have := mt (SlotTime.earlier_iff_of_half yhalf xhalf).2 younger
    omega

/-- A scan of entries in a final state, in ascending order, ends with the one that finished first (R127). -/
theorem State.foldl_olderFinish {l : List Nat} (hl : (b :: l).Pairwise (· < ·))
    (hfinal : ∀ k ∈ l, (s.eventAt k).state.final = true) :
    ∃ e ∈ b :: l, l.foldl s.olderFinish (some b) = some e ∧
      ∀ base, (∀ k ∈ b :: l, s.finishedWithin base k) → ∀ k ∈ b :: l, k ≠ e → s.finishedFirst base e k := by
  induction l generalizing b with
  | nil => exact ⟨b, by simp, rfl, fun _ _ k hk hne => absurd (List.mem_singleton.1 hk) hne⟩
  | cons j l ih =>
    have ascending := List.pairwise_cons.1 hl
    obtain ⟨kept, other, keeps, which, first⟩ := State.olderFinish_keeps (hfinal j (.head _)) (ascending.1 j (.head _))
    have split : ∀ k, k ∈ b :: j :: l ↔ k = other ∨ k ∈ kept :: l := fun k => by
      rcases which with ⟨rfl, rfl⟩ | ⟨rfl, rfl⟩
      · simp only [List.mem_cons]; tauto
      · simp only [List.mem_cons]
    have sorted : (kept :: l).Pairwise (· < ·) := by
      rcases which with ⟨rfl, rfl⟩ | ⟨rfl, rfl⟩
      · exact hl.sublist ((List.sublist_cons_self _ _).cons_cons _)
      · exact ascending.2
    obtain ⟨e, he, scan, oldest⟩ := ih sorted fun k hk => hfinal k (.tail _ hk)
    refine ⟨e, (split e).2 (.inr he), by rw [List.foldl_cons, keeps, scan], fun base within k hk hne => ?_⟩
    have keptWithin : s.finishedWithin base kept := within kept ((split _).2 (.inr (.head _)))
    have oldest := oldest base fun k hk => within k ((split k).2 (.inr hk))
    rcases (split k).1 hk with rfl | hk
    · have keptFirst : s.finishedFirst base kept k := by
        have bWithin := within b (.head _)
        have jWithin := within j (.tail _ (.head _))
        exact first base bWithin jWithin
      by_cases hkept : e = kept
      · exact hkept ▸ keptFirst
      · exact (oldest kept (.head _) (Ne.symm hkept)).trans keptWithin keptFirst
    · exact oldest k hk hne

/-- The scan passes over the entries that are not in a final state (R127). -/
theorem State.foldl_olderFinish_filter (s : State) (l : List Nat) :
    l.foldl s.olderFinish none = (l.filter (fun e => (s.eventAt e).state.final)).foldl s.olderFinish none := by
  rw [List.foldl_filter]
  congr 1
  funext best e
  unfold State.olderFinish
  split <;> rfl

/-- The entry a SPLICE ADD is given: the lowest FREE one; where none is FREE the final one that finished first; or none (R127). -/
theorem State.entryFor_cases (s : State) :
    (∃ e < 32, s.entryFor = some e ∧ (s.eventAt e).state = .free ∧ ∀ k < e, (s.eventAt k).state ≠ .free) ∨
    ((∀ k < 32, (s.eventAt k).state ≠ .free) ∧
      ((∀ k < 32, (s.eventAt k).state.final = false) ∧ s.entryFor = none ∨
        ∃ e < 32, s.entryFor = some e ∧ (s.eventAt e).state.final = true ∧
          ∀ base, (∀ k < 32, (s.eventAt k).state.final = true → s.finishedWithin base k) →
            ∀ k < 32, k ≠ e → (s.eventAt k).state.final = true → s.finishedFirst base e k)) := by
  unfold State.entryFor
  cases hfree : eventNumbers.find? (fun e => decide ((s.eventAt e).state = .free)) with
  | some e =>
    obtain ⟨free, range, lowest⟩ := List.find?_range_eq_some.1 hfree
    exact .inl ⟨e, List.mem_range.1 range, rfl, of_decide_eq_true free, fun k hk => by simpa using lowest k hk⟩
  | none =>
    refine .inr ⟨fun k hk => by simpa using List.find?_range_eq_none.1 hfree k hk, ?_⟩
    dsimp only
    rw [State.foldl_olderFinish_filter]
    have member : ∀ k, k ∈ eventNumbers.filter (fun e => (s.eventAt e).state.final) ↔
        k < 32 ∧ (s.eventAt k).state.final = true := fun k => by simp
    have sorted : (eventNumbers.filter (fun e => (s.eventAt e).state.final)).Pairwise (· < ·) := List.pairwise_lt_range.filter _
    generalize eventNumbers.filter (fun e => (s.eventAt e).state.final) = finals at *
    cases finals with
    | nil =>
      exact .inl ⟨fun k hk => Bool.eq_false_iff.2 fun hfinal =>
        absurd ((member k).2 ⟨hk, hfinal⟩) List.not_mem_nil, rfl⟩
    | cons b l =>
      have final := ((member b).1 (.head _)).2
      have start : s.olderFinish none b = some b := if_pos final
      obtain ⟨e, he, scan, oldest⟩ := State.foldl_olderFinish sorted fun k hk => ((member k).1 (.tail _ hk)).2
      refine .inr ⟨e, ((member e).1 he).1, by rw [List.foldl_cons, start, scan], ((member e).1 he).2,
        fun base within k hk hne hfinal => ?_⟩
      exact oldest base (fun j hj => within j ((member j).1 hj).1 ((member j).1 hj).2) k ((member k).2 ⟨hk, hfinal⟩) hne

end

/-! ### The place of a new event in the pending order (R125) -/

theorem State.standsBefore_iff (s : State) (e : Nat) (t : Time) (f : Nat) :
    s.standsBefore e t f = true ↔
      t.earlier (s.eventAt f).given.inTime = true ∨ (t = (s.eventAt f).given.inTime ∧ e < f) := by
  simp [State.standsBefore]

/-- The place of an event in the pending order: in front of the first event that has a later in-time, or an equal one and a higher
number (R125). -/
def State.placed (s : State) (o : SpliceOrder) (e : Nat) (before after : List Nat) : Prop :=
  s.order = before ++ after ∧
    (∀ f ∈ before, o.inTime.earlier (s.eventAt f).given.inTime = false ∧
      (o.inTime = (s.eventAt f).given.inTime → f ≤ e)) ∧
    ∀ f, after.head? = some f → o.inTime.earlier (s.eventAt f).given.inTime = true ∨
      (o.inTime = (s.eventAt f).given.inTime ∧ e < f)

/-- An entry outside the pending order is written whole, and its event joins the order at its place (R125, R127). -/
theorem State.addEvent_placed {s : State} {e : Nat} (o : SpliceOrder) (outside : e ∉ s.order) :
    ∃ before after, s.placed o e before after ∧
      s.addEvent e o = { s with events := setRow s.events e (.added o), order := before ++ e :: after } := by
  have event : ∀ f ∈ s.order, (s.setEvent e (.added o)).eventAt f = s.eventAt f := fun f hf => by
    rw [State.eventAt_setEvent, if_neg]
    rintro ⟨rfl, -⟩
    exact outside hf
  refine ⟨_, _, ⟨(List.takeWhile_append_dropWhile (p := fun f => !(s.setEvent e (.added o)).standsBefore e o.inTime f)).symm,
    fun f hf => ?_, fun f hf => ?_⟩, rfl⟩
  · have behind := List.mem_takeWhile_imp hf
    rw [Bool.not_eq_true', ← Bool.not_eq_true, State.standsBefore_iff, event f (List.takeWhile_subset _ hf)] at behind
    exact ⟨by simpa using fun h => behind (.inl h), fun h => Nat.le_of_not_lt fun hlt => behind (.inr ⟨h, hlt⟩)⟩
  · have front := List.head?_dropWhile_not (fun f => !(s.setEvent e (.added o)).standsBefore e o.inTime f) s.order
    rw [hf] at front
    have member : f ∈ s.order := (List.dropWhile_sublist _).subset (List.mem_of_head? hf)
    rw [← event f member, ← State.standsBefore_iff]
    simpa using front

/-! ### SPLICE ADD, check by check (R126, R127) -/

/-- Check 3 of R126 fails. -/
theorem State.orderInRange_eq_false_iff (s : State) (o : SpliceOrder) :
    s.orderInRange o = false ↔ 15 < o.group ∨ 63 < o.clip ∨ 10000000 ≤ o.inTime.sub ∨ 10000000 ≤ o.outTime.sub ∨
      o.length < 10000000 ∨ 9000000000 < o.length ∨ s.memberLane o.group 0 = none := by
  rw [← Bool.not_eq_true, State.orderInRange]
  simp only [Bool.and_eq_true, decide_eq_true_iff, Option.isSome_iff_ne_none]
  by_cases leader : s.memberLane o.group 0 = none
  · simp [leader]
  · simp only [leader, ne_eq, not_false_eq_true, and_true, or_false]
    omega

/-- A live event of the same group whose interval overlaps that of an order (R124, R126). -/
def State.clashes (s : State) (o : SpliceOrder) (e : Nat) : Prop :=
  ((s.eventAt e).state = .pending ∨ (s.eventAt e).state = .armed ∨ (s.eventAt e).state = .onAir) ∧
    (s.eventAt e).given.group = o.group ∧ (s.eventAt e).given.inTime.earlier o.outTime = true ∧
    o.inTime.earlier (s.eventAt e).given.outTime = true

section
variable {s : State} {o : SpliceOrder} {e : Nat}

theorem State.clashes_iff :
    ((s.eventAt e).state.live && decide ((s.eventAt e).given.group = o.group) && (s.eventAt e).given.overlaps o) = true ↔
      s.clashes o e := by
  simp only [Bool.and_eq_true, EventState.live_iff, decide_eq_true_iff, SpliceOrder.overlaps, State.clashes, and_assoc]

theorem State.overlapping_eq_some (he : e < 32) (h : s.clashes o e) (lowest : ∀ k < e, ¬s.clashes o k) :
    s.overlapping o = some e :=
  List.find?_range_eq_some.2 ⟨State.clashes_iff.2 h, List.mem_range.2 he, fun k hk => by
    rw [Bool.not_eq_true', Bool.eq_false_iff]
    exact mt State.clashes_iff.1 (lowest k hk)⟩

theorem State.overlapping_eq_none (h : ∀ k < 32, ¬s.clashes o k) : s.overlapping o = none :=
  List.find?_range_eq_none.2 fun k hk => by
    rw [Bool.not_eq_true', Bool.eq_false_iff]
    exact mt State.clashes_iff.1 (h k hk)

end

/-- A SPLICE ADD passes checks 1 and 2 of R126: the site has a second and a plan, and the origin may use the group. -/
structure State.mayAdd (s : State) (c : Command) : Prop where
  step : ¬(s.clock.secondValid = false ∨ s.plan.current = none)
  allowed : ¬(c.origin = .localFeed ∧ (15 < c.addGroup ∨ (s.groupAt c.addGroup).localAllowed = false))

/-- It passes checks 3 and 4 of R126 too: its order is in range and comes in time. -/
structure State.mayJoin (s : State) (c : Command) : Prop extends s.mayAdd c where
  inRange : ¬s.orderInRange c.spliceOrder = false
  inTime : ¬c.addIn.earlier (s.nominalNow.addSeconds 3) = true

section
variable {s : State} {c : Command}

theorem spliceAddBody_noStep (h : s.clock.secondValid = false ∨ s.plan.current = none) :
    spliceAddBody c s = s.reply c .notInStep [] := if_pos h

theorem spliceAddBody_barred (step : ¬(s.clock.secondValid = false ∨ s.plan.current = none))
    (h : c.origin = .localFeed ∧ (15 < c.addGroup ∨ (s.groupAt c.addGroup).localAllowed = false)) :
    spliceAddBody c s = s.reply c .notPermitted [] :=
  (if_neg step).trans (if_pos h)

theorem spliceAddBody_outOfRange (may : s.mayAdd c) (h : s.orderInRange c.spliceOrder = false) :
    spliceAddBody c s = s.reply c .badArgument [] :=
  (if_neg may.step).trans ((if_neg may.allowed).trans (if_pos h))

theorem spliceAddBody_tooSoon (may : s.mayAdd c) (inRange : ¬s.orderInRange c.spliceOrder = false)
    (h : c.addIn.earlier (s.nominalNow.addSeconds 3) = true) :
    spliceAddBody c s = s.reply c .tooSoon (bytesTime s.nominalNow) :=
  (if_neg may.step).trans ((if_neg may.allowed).trans ((if_neg inRange).trans (if_pos h)))

variable (may : s.mayJoin c)
include may

theorem spliceAddBody_overlap {e : Nat} (h : s.overlapping c.spliceOrder = some e) :
    spliceAddBody c s = s.reply c .overlap (bytes1 e) := by
  refine (if_neg may.step).trans ((if_neg may.allowed).trans ((if_neg may.inRange).trans ((if_neg may.inTime).trans ?_)))
  rw [h]

theorem spliceAddBody_noEntry (clear : s.overlapping c.spliceOrder = none) (h : s.entryFor = none) :
    spliceAddBody c s = s.reply c .noEntry [] := by
  refine (if_neg may.step).trans ((if_neg may.allowed).trans ((if_neg may.inRange).trans ((if_neg may.inTime).trans ?_)))
  rw [clear, h]

theorem spliceAddBody_added (clear : s.overlapping c.spliceOrder = none) {e : Nat} (h : s.entryFor = some e) :
    spliceAddBody c s =
      (s.addEvent e c.spliceOrder).reply c .ok (addedData e c.spliceOrder (s.eventAt e).state) := by
  refine (if_neg may.step).trans ((if_neg may.allowed).trans ((if_neg may.inRange).trans ((if_neg may.inTime).trans ?_)))
  rw [clear, h]

end

/-- A granted SPLICE ADD that passes every check gives its event the entry and the place, and nothing else changes (R125, R127). -/
theorem exec_spliceAdd_placed {s : State} {c : Command} {e : Nat} (h : s.grants .spliceAdd c) (may : s.popCommand.mayJoin c)
    (clear : s.overlapping c.spliceOrder = none) (entry : s.entryFor = some e) (law : s.orderLaw) :
    ∃ before after, s.placed c.spliceOrder e before after ∧
      exec .spliceAdd s = .next (({ s with
        events := setRow s.events e (.added c.spliceOrder)
        order := before ++ e :: after } : State).answered c .ok (addedData e c.spliceOrder (s.eventAt e).state)) := by
  have outside : e ∉ s.order := fun pending => by
    have idle := (State.entryFor_idle entry).2
    rw [((law.exact e).1 pending).2] at idle
    cases idle
  obtain ⟨before, after, place, added⟩ := State.addEvent_placed c.spliceOrder outside
  have body : spliceAddBody c s.popCommand = (s.addEvent e c.spliceOrder).popCommand.reply c .ok
      (addedData e c.spliceOrder (s.eventAt e).state) := spliceAddBody_added may clear entry
  rw [added] at body
  exact ⟨before, after, place, State.takeCommand_answered (body := spliceAddBody) h body⟩

/-- Settles O49: the checks in their order, then the entry and the place in the pending order. -/
theorem spliceAddChecksInOrder : Obligations.SpliceAddChecksInOrder := by
  intro s c o h ho noStep barred length bad soon clashes final
  obtain rfl : o = c.spliceOrder := ho
  have answers : ∀ {r data}, spliceAddBody c s.popCommand = s.popCommand.reply c r data →
      exec .spliceAdd s = .next (s.answered c r data) := State.takeCommand_answered (body := spliceAddBody) h
  have range : s.popCommand.orderInRange c.spliceOrder = false ↔ bad := by
    have ticks : c.spliceOrder.length = length := (Int.add_sub_assoc ..).symm
    rw [State.orderInRange_eq_false_iff, ticks]
    rfl
  have may : ¬noStep → ¬barred → s.popCommand.mayAdd c := fun step allowed => ⟨step, allowed⟩
  have join : ¬noStep → ¬barred → ¬bad → ¬soon → s.popCommand.mayJoin c := fun step allowed inRange inTime =>
    ⟨may step allowed, mt range.1 inRange, inTime⟩
  refine ⟨fun step => answers (spliceAddBody_noStep step), fun step bars => answers (spliceAddBody_barred step bars),
    fun step allowed outside => answers (spliceAddBody_outOfRange (may step allowed) (range.2 outside)),
    fun step allowed inRange early => answers (spliceAddBody_tooSoon (may step allowed) (mt range.1 inRange) early),
    fun e he step allowed inRange inTime clash lowest => ?_, fun step allowed inRange inTime clear => ?_⟩
  · have found : s.overlapping c.spliceOrder = some e := State.overlapping_eq_some he clash lowest
    exact answers (spliceAddBody_overlap (join step allowed inRange inTime) found)
  have may := join step allowed inRange inTime
  have noClash : s.overlapping c.spliceOrder = none := State.overlapping_eq_none clear
  have finals : ∀ k, (s.eventAt k).state.final = true ↔ final k := fun k => EventState.final_iff _
  rcases s.entryFor_cases with ⟨e, he, entry, free, lowest⟩ | ⟨full, ⟨live, entry⟩ | ⟨e, he, entry, ended, oldest⟩⟩
  · refine ⟨fun taken => absurd free (taken e he).1, fun _ law => ?_⟩
    obtain ⟨before, after, ⟨split, behind, front⟩, joined⟩ := exec_spliceAdd_placed h may noClash entry law
    exact ⟨e, before, after, he, .inl ⟨free, lowest⟩, split, behind, front, joined⟩
  · refine ⟨fun _ => answers (spliceAddBody_noEntry may noClash entry), ?_⟩
    rintro ⟨k, hk, free | ended⟩
    · exact absurd free (full k hk)
    · exact absurd ((finals k).2 ended) (by simp [live k hk])
  · refine ⟨fun taken => absurd ((finals e).1 ended) (taken e he).2, fun _ law => ?_⟩
    obtain ⟨before, after, ⟨split, behind, front⟩, joined⟩ := exec_spliceAdd_placed h may noClash entry law
    exact ⟨e, before, after, he, .inr ⟨(finals e).1 ended, full, fun base within k hk hne hfinal =>
      oldest base (fun j hj hj' => within j hj ((finals j).1 hj')) k hk hne ((finals k).2 hfinal)⟩,
      split, behind, front, joined⟩

end Sys2Proof.Machine

namespace Sys2Proof.Machine

/-! ### The emission queue in its ring of blocks (R73 to R75, R95) -/

theorem secondEarlier_self (a : Word32) : secondEarlier a a = false := by simp [secondEarlier]

theorem SlotTime.earlier_self (t : SlotTime) : t.earlier t = false := by simp [SlotTime.earlier, secondEarlier_self]

/-- Targets that never decrease, as a chain of records. -/
theorem targetsRise_iff_isChain (l : List Record) :
    targetsRise l ↔ l.IsChain (fun a b => b.target.earlier a.target = false) := by
  induction l with
  | nil => simp [targetsRise]
  | cons a l ih =>
    cases l with
    | nil => simp [targetsRise]
    | cons b rest => rw [List.isChain_cons_cons, ← ih, targetsRise]

theorem targetsRise_drop {l : List Record} (h : targetsRise l) (n : Nat) : targetsRise (l.drop n) := by
  rw [targetsRise_iff_isChain] at h ⊢
  exact h.drop n

/-- A clamped target is not earlier than the tail record's (R73). -/
theorem clampTo_not_earlier {l : List Record} {last : Record} (h : l.getLast? = some last) (r : Record) :
    (clampTo l r).target.earlier last.target = false := by
  unfold clampTo
  rw [h]
  dsimp only
  split
  · exact SlotTime.earlier_self _
  · rename_i notEarlier
    exact Bool.eq_false_iff.2 notEarlier

theorem targetsRise_clampTo {l : List Record} (h : targetsRise l) (r : Record) : targetsRise (l ++ [clampTo l r]) := by
  rw [targetsRise_iff_isChain] at h ⊢
  refine h.append (List.isChain_singleton _) fun last hlast x hx => ?_
  obtain rfl : clampTo l r = x := Option.some.inj hx
  exact clampTo_not_earlier hlast r

/-- Counting leaves the emitter's state (R90). -/
@[simp] theorem State.countEm_state (s : State) (f : EmitterCounters → EmitterCounters) :
    (s.countEm f).emitter.state = s.emitter.state := rfl

/-- The queue and the ring after a join: the tail stands one block further (R95). -/
theorem State.joinQueue_ring (s : State) (r : Record) :
    (s.joinQueue r).queue = s.queue ++ [clampTo s.queue r] ∧
    (s.joinQueue r).store.ringTail = (s.store.ringTail + 1) % s.store.capacity := ⟨rfl, rfl⟩

theorem CellStore.capacity_congr {c d : CellStore} (h : d.setting = c.setting) : d.capacity = c.capacity := by
  unfold CellStore.capacity
  rw [h]

section
variable {s t : State} (h : s.emissionLaw)
include h

/-- The queue and its ring stay, and an emitter that leaves RUNNING leaves an empty queue. -/
theorem State.emissionLaw.congr (queue : t.queue = s.queue)
    (running : t.emitter.state ≠ .running → s.emitter.state ≠ .running)
    (ring : t.store.setting = s.store.setting ∧ t.store.ringHead = s.store.ringHead ∧ t.store.ringTail = s.store.ringTail) :
    t.emissionLaw := by
  obtain ⟨capacity, targets, stopped, head, tail, length⟩ := h
  obtain ⟨setting, ringHead, ringTail⟩ := ring
  have blocks := CellStore.capacity_congr setting
  refine ⟨?_, ?_, fun still => ?_, ?_, ?_, ?_⟩
  · rwa [queue, blocks]
  · rwa [queue]
  · rw [queue, stopped (running still)]
  · rwa [ringHead, blocks]
  · rwa [ringTail, blocks]
  · rwa [ringHead, ringTail, queue, blocks]

theorem State.emissionLaw.kept
    (k : t.queue = s.queue ∧ t.emitter.state = s.emitter.state ∧ t.store.setting = s.store.setting ∧
      t.store.ringHead = s.store.ringHead ∧ t.store.ringTail = s.store.ringTail) : t.emissionLaw :=
  h.congr k.1 (fun still => k.2.1 ▸ still) k.2.2

/-- A flushed queue: the ring head stands at the ring tail (R75, R95). -/
theorem State.emissionLaw.flushed (queue : t.queue = [])
    (ring : t.store.setting = s.store.setting ∧ t.store.ringHead = s.store.ringTail ∧ t.store.ringTail = s.store.ringTail) :
    t.emissionLaw := by
  obtain ⟨setting, ringHead, ringTail⟩ := ring
  have blocks := CellStore.capacity_congr setting
  have tail := h.tail
  rw [← ringTail, ← blocks] at tail
  have head : t.store.ringHead = t.store.ringTail := ringHead.trans ringTail.symm
  refine ⟨by simp [queue], by simp [queue, targetsRise], fun _ => queue, head ▸ tail, tail, ?_⟩
  rw [queue, head]
  exact Nat.mod_eq_of_lt tail

/-- Records leave at the head, and the ring head moves past their blocks (R85, R86, R95). -/
theorem State.emissionLaw.dropHead {n : Nat} (hn : n ≤ s.queue.length) : (s.dropHead n).emissionLaw := by
  obtain ⟨capacity, targets, stopped, head, tail, length⟩ := h
  have positive : 0 < s.store.capacity := Nat.zero_lt_of_lt head
  refine ⟨?_, targetsRise_drop targets n, fun still => ?_, Nat.mod_lt _ positive, tail, ?_⟩
  · exact (List.length_drop ▸ Nat.sub_le ..).trans capacity
  · have empty : s.queue = [] := stopped still
    exact (congrArg (List.drop n) empty).trans List.drop_nil
  · have all : s.store.ringHead + n + (s.queue.drop n).length = s.store.ringHead + s.queue.length := by
      rw [List.length_drop]; omega
    show ((s.store.ringHead + n) % s.store.capacity + (s.queue.drop n).length) % s.store.capacity = s.store.ringTail
    rw [Nat.mod_add_mod, all, length]

/-- A record joins at the tail of a RUNNING emitter's queue that has a free block (R73, R95). -/
theorem State.emissionLaw.joinQueue (running : s.emitter.state = .running) (room : s.queue.length < s.store.capacity)
    (r : Record) : (s.joinQueue r).emissionLaw := by
  obtain ⟨capacity, targets, stopped, head, tail, length⟩ := h
  have positive : 0 < s.store.capacity := Nat.zero_lt_of_lt head
  obtain ⟨setting, -, ringHead, -⟩ := s.joinQueue_store r
  obtain ⟨queue, ringTail⟩ := s.joinQueue_ring r
  have blocks := CellStore.capacity_congr setting
  have longer : (s.joinQueue r).queue.length = s.queue.length + 1 := by rw [queue, List.length_append, List.length_singleton]
  refine ⟨?_, ?_, fun still => absurd ((s.joinQueue_emitter r).1.trans running) still, ?_, ?_, ?_⟩
  · rwa [longer, blocks]
  · rw [queue]
    exact targetsRise_clampTo targets r
  · rwa [ringHead, blocks]
  · rw [ringTail, blocks]
    exact Nat.mod_lt _ positive
  · rw [ringHead, ringTail, longer, blocks, ← length, ← Nat.add_assoc, Nat.mod_add_mod]

/-! ### What each event keeps of the emission law -/

theorem State.emissionLaw.grantNf (r : Record) : (s.grantNf r).emissionLaw := by
  have left : (({ s with store := { s.store with nfWaiting := none } } : State).popFifo .nf).emissionLaw :=
    h.kept (by simp)
  unfold State.grantNf
  dsimp only
  split
  · exact left.kept (by simp)
  · rename_i running
    split
    · exact left.kept (by simp)
    · rename_i room
      exact left.joinQueue (not_not.1 running) (Nat.lt_of_not_le room) r

theorem State.emissionLaw.grantLf (w : ClipWrite) : (s.grantLf w).emissionLaw := h.kept (by simp)

/-- The arbiter's grants: a record that joins, or none (R73, R102, R103). -/
theorem State.emissionLaw.arbitrate : s.arbitrate.emissionLaw := by
  cases ha : s.store.access with
  | some a => rwa [State.arbitrate_busy ha]
  | none =>
    cases hr : s.store.readWaiting with
    | some r => rw [State.arbitrate_read ha hr]; exact h.kept ⟨rfl, rfl, rfl, rfl, rfl⟩
    | none =>
      cases hn : s.store.nfWaiting with
      | some r =>
        rw [State.arbitrate_nf ha hr hn]
        split
        · exact (h.grantNf r).grantLf _
        · exact h.grantNf r
      | none =>
        cases hl : s.store.lfWaiting with
        | some w => rw [State.arbitrate_lf ha hr hn hl]; exact h.grantLf w
        | none => rwa [State.arbitrate_idle ha hr hn hl]

end

/-! ### A second boundary (R77) -/

/-- Without a flush the emitter stays RUNNING where it was (R77). -/
theorem resolveChange_running {state : EmitterState} {change : PendingChange} {inStep : Bool}
    (keeps : (resolveChange state change inStep).2.1 = false) (h : (resolveChange state change inStep).1 ≠ .running) :
    state ≠ .running := by
  rintro rfl
  cases change with
  | stop => cases keeps
  | none | start =>
    cases inStep with
    | true => exact h rfl
    | false => cases keeps

/-- The ring head after step 3 of R77: at the ring tail where the queue is flushed. -/
theorem State.emitterChange_ringHead (s : State) :
    s.emitterChange.store.ringHead =
      if (resolveChange s.emitter.state s.emitter.change s.clock.inStep).2.1 then s.store.ringTail else s.store.ringHead := by
  unfold State.emitterChange
  dsimp only
  generalize resolveChange s.emitter.state s.emitter.change s.clock.inStep = r
  obtain ⟨st, flush, cause⟩ := r
  cases flush <;> cases cause <;> simp [State.flushQueue]

theorem State.armingsAndEnds_ringHead (s : State) :
    s.armingsAndEnds.store.ringHead =
      if (resolveChange s.emitter.state s.emitter.change s.clock.inStep).2.1 then s.store.ringTail else s.store.ringHead := by
  unfold State.armingsAndEnds
  dsimp only
  split <;> simp [State.armAndMiss, State.emitterChange_ringHead]

theorem State.handBoundary_ringHead (s : State) :
    s.handBoundary.store.ringHead =
      if (resolveChange s.emitter.state s.emitter.change s.clock.inStep).2.1 then s.store.ringTail else s.store.ringHead := by
  simp [State.handBoundary, State.armingsAndEnds_ringHead, State.emitterSecond]

section
variable {s t : State} (h : s.emissionLaw)
include h

/-- A boundary handed over flushes the queue, or keeps it and leaves a RUNNING emitter RUNNING (R75, R77). -/
theorem State.emissionLaw.handBoundary : s.handBoundary.emissionLaw := by
  obtain ⟨-, state, -, queue, -⟩ := State.handBoundary_result s
  obtain ⟨setting, -, ringTail, -⟩ := State.handBoundary_store s
  have ringHead := State.handBoundary_ringHead s
  cases flush : (resolveChange s.emitter.state s.emitter.change s.clock.inStep).2.1 with
  | true =>
    rw [flush] at queue ringHead
    exact h.flushed queue ⟨setting, ringHead, ringTail⟩
  | false =>
    rw [flush] at queue ringHead
    exact h.congr queue (fun still => resolveChange_running flush (state ▸ still)) ⟨setting, ringHead, ringTail⟩

theorem State.emissionLaw.edgeBoundary : s.edgeBoundary.emissionLaw := by
  have clock : s.clockBoundary.staleAdvance.emissionLaw := h.kept (by simp)
  exact clock.handBoundary

theorem State.emissionLaw.takeStep (b : ClockState) (e : Int) : (s.takeStep b e).emissionLaw := by
  rw [State.takeStep_eq]
  have moved : (({ s with clock := s.clock.stepped e } : State).notifyClock b .bad).emissionLaw := h.kept (by simp)
  dsimp only
  split
  · split
    · exact moved.kept (by simp)
    · exact moved.kept (by simp)
  · exact moved.handBoundary

/-! ### A slot (R84 to R87) -/

theorem State.emissionLaw.examineHead : s.examineHead.emissionLaw := by
  have gone : s.tooLateHeads.length ≤ s.queue.length := (List.takeWhile_sublist _).length_le
  exact (h.dropHead gone).kept ⟨rfl, rfl, rfl, rfl, rfl⟩

/-- A record that is taken leaves at the head; the Splice Switch does not reach the queue (R86, R140). -/
theorem State.emissionLaw.sendRecord (r : Record) (late : Nat) (queued : s.queue ≠ []) : (s.sendRecord r late).emissionLaw := by
  have dropped : (s.dropHead 1).emissionLaw := h.dropHead (List.length_pos_iff.2 queued)
  unfold State.sendRecord
  dsimp only
  split
  · exact dropped.kept (by simp)
  · exact dropped.kept (by simp)

theorem State.emissionLaw.fillSlot : s.fillSlot.emissionLaw := by
  have fill : s.carryFill.emissionLaw := h.kept ⟨rfl, rfl, rfl, rfl, rfl⟩
  unfold State.fillSlot
  dsimp only
  split
  · exact fill
  · rename_i r rest hq
    split
    · exact h.sendRecord r _ (by simp [hq])
    · exact fill
    · exact fill

theorem State.emissionLaw.muteAtSlot : s.muteAtSlot.emissionLaw :=
  h.flushed (by simp [State.muteAtSlot, State.sendEm, State.flushQueue])
    (by simp [State.muteAtSlot, State.sendEm, State.flushQueue, CellStore.dropStaged])

theorem State.emissionLaw.beginSlot : s.beginSlot.emissionLaw := by
  unfold State.beginSlot
  split
  · exact h
  · exact h.kept ⟨rfl, rfl, rfl, rfl, rfl⟩
  · split
    · exact h.examineHead.fillSlot
    · exact h.muteAtSlot

end

/-! ### The intakes' heads -/

section
variable {s : State} (h : s.emissionLaw)
include h

theorem State.emissionLaw.classify (cell : Cell) (output : Nat) (place : Option GroupPlace) :
    (s.classify cell output place).emissionLaw := by
  unfold State.classify
  dsimp only
  split
  · split
    · exact h.kept (by simp)
    · exact State.emissionLaw.arbitrate (h.kept ⟨rfl, rfl, rfl, rfl, rfl⟩)
  · exact h.kept (by simp)

theorem State.emissionLaw.handData (cell : Cell) : (s.handData cell).emissionLaw := by
  have tested : (s.testContinuity cell.header).emissionLaw := h.kept (by simp)
  unfold State.handData
  dsimp only
  split
  · exact tested.kept (by simp)
  · exact tested.classify _ _ _
  · exact tested.classify _ _ _

theorem State.emissionLaw.handClipCell (cell : Cell) : (s.handClipCell cell).emissionLaw := by
  unfold State.handClipCell
  dsimp only
  split
  · exact State.emissionLaw.arbitrate (h.kept ⟨rfl, rfl, rfl, rfl, rfl⟩)
  · exact h.kept (by simp)

theorem State.emissionLaw.handHead (p : Port) (cell : Cell) : (s.handHead p cell).emissionLaw := by
  unfold State.handHead
  split
  case h_1 => exact h.handData cell
  case h_5 => exact h.handClipCell cell
  all_goals exact h.kept (by simp)

/-! ### The commands' own rules -/

theorem State.emissionLaw.siteSetBody (c : Command) : (siteSetBody c s).emissionLaw := by
  unfold Machine.siteSetBody
  dsimp only
  split <;> exact h.kept (by simp)

/-- PARTITION acts in STOPPED, where the queue is empty, and the new ring stands at block 0 (R100, R101). -/
theorem State.emissionLaw.repartition (stopped : s.emitter.state = .stopped) {k : Nat} (hk : k ≤ 3) :
    (s.repartition k).emissionLaw := by
  have empty : s.queue = [] := h.stopped (by rw [stopped]; decide)
  have positive : 0 < emissionBlocks k := by unfold emissionBlocks; omega
  refine ⟨?_, ?_, fun _ => empty, positive, positive, ?_⟩
  · exact (congrArg List.length empty).trans_le (Nat.zero_le _)
  · rw [show (s.repartition k).queue = [] from empty]
    trivial
  · rw [show (s.repartition k).queue = [] from empty]
    exact Nat.zero_mod _

theorem State.emissionLaw.partitionBody (c : Command) : (partitionBody c s).emissionLaw := by
  unfold Machine.partitionBody
  split
  · exact h.kept (by simp)
  rename_i inRange
  split
  · exact h.kept (by simp)
  rename_i stopped
  split
  · exact h.kept (by simp)
  · exact (h.repartition (not_not.1 stopped) (Nat.le_of_not_lt inRange)).kept (by simp)

theorem State.emissionLaw.emitStartBody (c : Command) : (emitStartBody c s).emissionLaw := by
  unfold Machine.emitStartBody
  (repeat' split) <;> exact h.kept (by simp [State.setChange])

theorem State.emissionLaw.emitStopBody (c : Command) : (emitStopBody c s).emissionLaw := by
  unfold Machine.emitStopBody
  (repeat' split) <;> exact h.kept (by simp [State.setChange])

theorem State.emissionLaw.statsBody (c : Command) : (statsBody c s).emissionLaw := by
  unfold Machine.statsBody
  (repeat' split) <;> exact h.kept (by simp [State.clearCounters])

theorem State.emissionLaw.clipCloseBody (c : Command) : (clipCloseBody c s).emissionLaw := by
  refine h.kept ⟨by simp, by simp, ?_⟩
  unfold Machine.clipCloseBody
  dsimp only
  (repeat' split) <;> simp

theorem State.emissionLaw.clipRemoveBody (c : Command) : (clipRemoveBody c s).emissionLaw := by
  refine h.kept ⟨by simp, by simp, ?_⟩
  unfold Machine.clipRemoveBody
  dsimp only
  (repeat' split) <;> simp

theorem State.emissionLaw.spliceCancelBody (c : Command) : (spliceCancelBody c s).emissionLaw := by
  refine h.kept ⟨by simp, by simp, ?_⟩
  unfold Machine.spliceCancelBody
  dsimp only
  (repeat' split) <;> simp

/-- A RESTART flushes the queue behind the cancelled events (R92, R167). -/
theorem State.emissionLaw.restartBody (c : Command) : (restartBody c s).emissionLaw := by
  unfold Machine.restartBody
  refine h.flushed (State.restartEmitter_queue _) ⟨by simp, ?_, by simp⟩
  rw [State.restartEmitter_flushed, State.stopEmitter_ringHead]
  simp

theorem State.emissionLaw.takeCommand {t : State} {name : CommandName} {body : Command → State → State}
    (hbody : ∀ c u, State.emissionLaw u → (body c u).emissionLaw) (ht : s.takeCommand name body = .next t) :
    t.emissionLaw := by
  have popped : s.popCommand.emissionLaw := h.kept (by simp)
  exact State.takeCommand_keeps State.emissionLaw h (fun u hu => hu.kept (by simp))
    (fun c _ r _ _ => popped.kept (by simp)) (fun c _ _ _ _ => hbody c _ popped) ht

end

/-! ### The rows -/

theorem State.afterReset_emissionLaw (straps : BitVec 16) (epoch counter : Word32) (draws : Nat) (pending : List Instr) :
    (State.afterReset straps epoch counter draws pending).emissionLaw := by
  have block : 0 < emissionBlocks 0 := by decide
  exact ⟨Nat.zero_le _, trivial, fun _ => rfl, block, block, rfl⟩

section
variable {s t : State} (h : s.emissionLaw)
include h

theorem State.emissionLaw.execCountedEdge (ht : execCountedEdge s = .next t) : t.emissionLaw := by
  unfold Machine.execCountedEdge at ht
  split at ht <;> (injection ht with ht; subst ht)
  · exact h.kept (by simp)
  · exact h.edgeBoundary

theorem State.emissionLaw.execSecondBoundary (ht : execSecondBoundary s = .next t) : t.emissionLaw := by
  unfold Machine.execSecondBoundary at ht
  split at ht <;> (injection ht with ht; subst ht)
  · exact h
  · exact h.edgeBoundary

theorem State.emissionLaw.execVerdict (ht : execVerdict s = .next t) : t.emissionLaw := by
  have judged : ∀ c, ({ s with clock := c } : State).emissionLaw := fun _ => h.kept ⟨rfl, rfl, rfl, rfl, rfl⟩
  unfold Machine.execVerdict at ht
  dsimp only at ht
  (repeat' split at ht) <;> (injection ht with ht; subst ht)
  · exact h.kept (by simp)
  · exact (judged _).takeStep _ _
  · exact h

theorem State.emissionLaw.execIntakeHeadHandoff {p : Port} (ht : execIntakeHeadHandoff p s = .next t) : t.emissionLaw := by
  unfold Machine.execIntakeHeadHandoff at ht
  (repeat' split at ht) <;> (injection ht with ht; subst ht)
  · exact h
  · exact h
  · exact h.handHead p _

theorem State.emissionLaw.execCellStoreAccessEnd (ht : execCellStoreAccessEnd s = .next t) : t.emissionLaw := by
  have ended : s.accessEnded.emissionLaw := by
    obtain ⟨-, setting, -, head, tail, -⟩ := s.accessEnded_store
    exact h.kept ⟨rfl, rfl, setting, head, tail⟩
  unfold Machine.execCellStoreAccessEnd at ht
  split at ht
  · injection ht with ht; subst ht; exact h
  · split at ht
    · injection ht with ht; subst ht; exact ended.arbitrate
    · cases ht

theorem State.emissionLaw.execEmitterStagingRead {c : StageChoice} (ht : execEmitterStagingRead c s = .next t) :
    t.emissionLaw := by
  unfold Machine.execEmitterStagingRead at ht
  (repeat' split at ht) <;> (injection ht with ht; subst ht)
  · exact h
  · exact h
  · exact State.emissionLaw.arbitrate (h.kept ⟨rfl, rfl, rfl, rfl, rfl⟩)

theorem State.emissionLaw.execSlotStart (ht : execSlotStart s = .next t) : t.emissionLaw := by
  unfold Machine.execSlotStart at ht
  split at ht <;> (injection ht with ht; subst ht)
  · have begun : s.nextSlot.emissionLaw := h.kept ⟨rfl, rfl, rfl, rfl, rfl⟩
    exact begun.beginSlot
  · exact h

theorem State.emissionLaw.execEventArming (ht : execEventArming s = .next t) : t.emissionLaw := by
  injection ht with ht; subst ht
  exact h.kept (by simp)

end

/-- Every row keeps the emission law: most reach neither the queue nor its ring. -/
theorem exec_emissionLaw {i : Instr} {s t : State} (h : s.emissionLaw) (ht : exec i s = .next t) : t.emissionLaw := by
  cases i with
  | fullReset cause straps => cases cause <;> (injection ht with ht; subst ht; exact State.afterReset_emissionLaw _ _ _ _ _)
  | countedEdge => exact h.execCountedEdge ht
  | secondBoundary => exact h.execSecondBoundary ht
  | verdict => exact h.execVerdict ht
  | intakeHeadHandoff p => exact h.execIntakeHeadHandoff ht
  | cellStoreAccessEnd => exact h.execCellStoreAccessEnd ht
  | emitterStagingRead c => exact h.execEmitterStagingRead ht
  | slotStart => exact h.execSlotStart ht
  | eventArming => exact h.execEventArming ht
  | stats => exact h.takeCommand (fun c _ hu => hu.statsBody c) ht
  | restart => exact h.takeCommand (fun c _ hu => hu.restartBody c) ht
  | siteSet => exact h.takeCommand (fun c _ hu => hu.siteSetBody c) ht
  | partition => exact h.takeCommand (fun c _ hu => hu.partitionBody c) ht
  | emitStart => exact h.takeCommand (fun c _ hu => hu.emitStartBody c) ht
  | emitStop => exact h.takeCommand (fun c _ hu => hu.emitStopBody c) ht
  | clipClose => exact h.takeCommand (fun c _ hu => hu.clipCloseBody c) ht
  | clipRemove => exact h.takeCommand (fun c _ hu => hu.clipRemoveBody c) ht
  | spliceCancel => exact h.takeCommand (fun c _ hu => hu.spliceCancelBody c) ht
  | epochCounterTick => exact h.kept (by simp [execEpochCounterTick_frame ht])
  | timeCodeMessage intact n => exact h.kept (by simp [execTimeCodeMessage_frame ht])
  | pulse => exact h.kept (by simp [execPulse_frame ht])
  | frequencyLoss => exact h.kept (by simp [execFrequencyLoss_frame ht])
  | frequencyReturn => exact h.kept (by simp [execFrequencyReturn_frame ht])
  | huntCandidate p b => exact h.kept (by simp [execHuntCandidate_frame ht])
  | presyncHeader p b => exact h.kept (by simp [execPresyncHeader_frame ht])
  | syncHeader p b => exact h.kept (by simp [execSyncHeader_frame ht])
  | cellDelivery p b => exact h.kept (by simp [execCellDelivery_frame ht])
  | monitorCellSent => exact h.kept (by simp [execMonitorCellSent_frame ht])
  | unknown => exact h.kept (by simp [execUnknown_frame ht])
  | status => exact h.kept (by simp [execStatus_frame ht])
  | laneMapLoad => exact h.kept (by simp [execLaneMapLoad_frame ht])
  | laneMapRead => exact h.kept (by simp [execLaneMapRead_frame ht])
  | groupSet => exact h.kept (by simp [execGroupSet_frame ht])
  | watchSet => exact h.kept (by simp [execWatchSet_frame ht])
  | clockSet => exact h.kept (by simp [execClockSet_frame ht])
  | clipOpen => exact h.kept (by simp [execClipOpen_frame ht])
  | clipQuery => exact h.kept (by simp [execClipQuery_frame ht])
  | spliceAdd => exact h.kept (by simp [execSpliceAdd_frame ht])
  | spliceQuery => exact h.kept (by simp [execSpliceQuery_frame ht])

/-- Settles O58: a step runs one row, and every row keeps the emission law. -/
theorem emissionLawIsKept : Obligations.EmissionLawIsKept := by
  intro s t h ht
  unfold step at ht
  split at ht
  · injection ht with ht; subst ht; exact h
  · rename_i i rest _
    exact exec_emissionLaw (s := { s with pending := rest }) (h.kept ⟨rfl, rfl, rfl, rfl, rfl⟩) ht

end Sys2Proof.Machine

namespace Sys2Proof.Machine

/-! ### The end of every IN event, event by event (R132, R152, R153) -/

/-- One event of the fold by which every IN event ends (R153). -/
def State.endOnAir (x : EndingCause) (t : State) (e : Nat) : State :=
  if (t.eventAt e).state = .onAir then t.endSplice e .done x else t

theorem State.endAllOnAir_eq (s : State) (x : EndingCause) : s.endAllOnAir x = eventNumbers.foldl (State.endOnAir x) s := rfl

section
variable (x : EndingCause)

theorem State.endOnAir_sameTime (t : State) (e : Nat) : t.SameTime (t.endOnAir x e) := by
  unfold State.endOnAir
  split
  · exact ⟨by simp, by simp, by simp⟩
  · exact .refl t

theorem State.endOnAir_eventAt_other (t : State) (e k : Nat) (hk : k ≠ e) : (t.endOnAir x e).eventAt k = t.eventAt k := by
  unfold State.endOnAir
  split
  · rw [State.endSplice_eventAt, if_neg fun h => hk h.1.symm]
  · rfl

/-- Every IN event ends DONE, and no other event changes (R153). The events have a record each, so this needs
no law of the groups. -/
theorem State.endAllOnAir_eventAt (s : State) {e : Nat} (he : e < 32) :
    ((s.eventAt e).state = .onAir → ∃ n, (s.endAllOnAir x).eventAt e = s.endedRecord e x n) ∧
    ((s.eventAt e).state ≠ .onAir → (s.endAllOnAir x).eventAt e = s.eventAt e) := by
  obtain ⟨t, time, same, last⟩ := (foldl_eventAt (State.endOnAir_sameTime x) (State.endOnAir_eventAt_other x)
    eventNumbers_nodup s e).2 (mem_eventNumbers.2 he)
  rw [State.endAllOnAir_eq, last]
  refine ⟨fun hair => ?_, fun hair => ?_⟩
  · rw [State.endOnAir, if_pos (same ▸ hair), State.endSplice_eventAt, if_pos ⟨rfl, he⟩]
    exact ⟨_, time.endedRecord same x (t.truncatedRecord e).truncated⟩
  · rw [State.endOnAir, if_neg (same ▸ hair), same]

/-- The SPLICE notices of the events of a list that are IN, read from a state after their ends (R137). -/
def State.endNotices (s t : State) (l : List Nat) : List (NoticeKind × List Byte) :=
  (l.filter fun e => decide ((s.eventAt e).state = .onAir)).map fun e => (.splice, t.spliceNoticeData e .onAir)

theorem State.endNotices_congr {s u : State} (t : State) {l : List Nat} (h : ∀ e ∈ l, u.eventAt e = s.eventAt e) :
    u.endNotices t l = s.endNotices t l := by
  unfold State.endNotices
  rw [List.filter_congr fun e he => by rw [h e he]]

/-- Each IN event that ends has its SPLICE notice, in the order of the list (R137, R153). -/
theorem foldl_endOnAir_control {l : List Nat} (hl : l.Nodup) (s : State) {t : State} (hclock : t.clock = s.clock)
    (hevents : ∀ e ∈ l, t.eventAt e = (l.foldl (State.endOnAir x) s).eventAt e) :
    (l.foldl (State.endOnAir x) s).control = s.control.withNotices s.clock (s.endNotices t l) := by
  induction l generalizing s with
  | nil => rfl
  | cons e l ih =>
    obtain ⟨hel, hl⟩ := List.nodup_cons.1 hl
    have time := (s.endOnAir_sameTime x e).clock
    have rest := ih hl (s.endOnAir x e) (hclock.trans time.symm) fun k hk => hevents k (List.mem_cons_of_mem e hk)
    have same : ∀ k ∈ l, (s.endOnAir x e).eventAt k = s.eventAt k := fun k hk =>
      State.endOnAir_eventAt_other x s e k fun h => hel (h ▸ hk)
    rw [State.endNotices_congr t same, time] at rest
    rw [List.foldl_cons, rest]
    have own : t.eventAt e = (s.endOnAir x e).eventAt e :=
      (hevents e (List.mem_cons_self ..)).trans
        ((foldl_eventAt (State.endOnAir_sameTime x) (State.endOnAir_eventAt_other x) hl _ e).1 hel)
    have data := State.spliceNoticeData_congr own (hclock.trans time.symm) .onAir
    by_cases hair : (s.eventAt e).state = .onAir
    · have ended : s.endOnAir x e = s.endSplice e .done x := if_pos hair
      have notice := s.endSplice_notice e .done x
      rw [hair, ← ended, ← data] at notice
      rw [notice]
      simp [State.endNotices, hair, ControlUnit.withNotices]
    · rw [State.endOnAir, if_neg hair]
      simp [State.endNotices, hair]

/-- The end of every IN event creates their SPLICE notices in ascending order of event number (R137, R153). -/
theorem State.endAllOnAir_control_notices (s : State) {t : State} (hclock : t.clock = s.clock)
    (hevents : ∀ e < 32, t.eventAt e = (s.endAllOnAir x).eventAt e) :
    (s.endAllOnAir x).control = s.control.withNotices s.clock (s.endNotices t eventNumbers) :=
  foldl_endOnAir_control x eventNumbers_nodup s hclock fun e he => hevents e (mem_eventNumbers.1 he)

theorem EmitterCounters.eq_but_clipTruncated {a b : EmitterCounters}
    (h : { a with clipTruncated := 0 } = { b with clipTruncated := 0 }) : a = { b with clipTruncated := a.clipTruncated } :=
  congrArg (fun c : EmitterCounters => { c with clipTruncated := a.clipTruncated }) h

/-- Of the emitter's counters the ends of splices change the truncated cells alone (R90, R152). -/
theorem State.endAllOnAir_counters (s : State) :
    (s.endAllOnAir x).emitter.counters =
      { s.emitter.counters with clipTruncated := (s.endAllOnAir x).emitter.counters.clipTruncated } := by
  rw [State.endAllOnAir_eq]
  refine EmitterCounters.eq_but_clipTruncated (List.foldlRecOn eventNumbers (State.endOnAir x) (motive := fun t =>
    { t.emitter.counters with clipTruncated := 0 } = { s.emitter.counters with clipTruncated := 0 }) rfl fun t ht e _ => ?_)
  unfold State.endOnAir
  split
  · exact (State.endSplice_counters ..).trans ht
  · exact ht

end

/-! ### SLOT_START in MUTED, and of a RUNNING emitter out of step (R84, R87) -/

/-- A slot that is due begins (R80). -/
theorem exec_slotStart_begins {s : State} {k : Nat} (emits : s.emitter.state ≠ .stopped) (hk : s.emitter.kNow = some k)
    (hslot : s.emitter.slot + 1 < k) (hsub : s.clock.subsecond = (s.emitter.slot + 1) * 10000000 / k) :
    exec .slotStart s = .next s.nextSlot.beginSlot := by
  have due : s.slotDue = true := by
    unfold State.slotDue slotStartTick
    rw [hk]
    cases hstate : s.emitter.state with
    | stopped => exact absurd hstate emits
    | muted | running => simp [hslot, hsub]
  have row : exec .slotStart s = execSlotStart s := rfl
  rw [row, execSlotStart, if_pos due]
  rfl

/-- A RUNNING emitter out of step before the ends of the IN events: MUTED, its queue flushed, fill on air and its notice queued
(R87). -/
def State.enterMuted (s : State) : State :=
  (({ s.flushQueue with emitter := { s.flushQueue.emitter with state := .muted } } : State).sendEm fillCell).notifyEmitter
    .running .stepLost s.queue.length

section
variable (s : State)

theorem State.muteAtSlot_eq : s.muteAtSlot = s.enterMuted.endAllOnAir .muted := rfl

theorem State.enterMuted_frame :
    s.enterMuted.clock = s.clock ∧ s.enterMuted.events = s.events ∧ s.enterMuted.queue = [] ∧
    s.enterMuted.emitter = { s.emitter with state := .muted, line := some fillCell } ∧
    s.enterMuted.store.ringHead = s.store.ringTail := by
  simp [State.enterMuted, State.sendEm, State.flushQueue]

theorem State.enterMuted_watch : s.enterMuted.watch = (s.watchDiscards s.queue).watch := by
  simp [State.enterMuted, State.sendEm, State.flushQueue, State.watchDiscards]

/-- The EMITTER notice of the step lost, which the ends of splices do not change (R87, R91). -/
theorem State.enterMuted_control :
    s.enterMuted.control =
      s.control.withNotice s.clock .emitter (s.muteAtSlot.emitterNoticeData .running .stepLost s.queue.length) := by
  have data : s.muteAtSlot.emitterNoticeData .running .stepLost s.queue.length =
      (({ s.flushQueue with emitter := { s.flushQueue.emitter with state := .muted } } : State).sendEm
        fillCell).emitterNoticeData .running .stepLost s.queue.length := by
    unfold State.emitterNoticeData State.stampBytes
    simp [State.muteAtSlot_eq, State.enterMuted, State.sendEm]
  rw [data]
  exact congrArg State.control (State.notify_eq _ _ _)

/-- Every IN event ends DONE, cause MUTED, in this slot, and no other event changes (R132, R153). -/
theorem State.muteAtSlot_eventAt {e : Nat} (he : e < 32) :
    ((s.eventAt e).state = .onAir → ∃ n, s.muteAtSlot.eventAt e = s.endedRecord e .muted n) ∧
    ((s.eventAt e).state ≠ .onAir → s.muteAtSlot.eventAt e = s.eventAt e) := by
  obtain ⟨clock, events, -, emitter, -⟩ := s.enterMuted_frame
  have same : s.enterMuted.eventAt e = s.eventAt e := by unfold State.eventAt; rw [events]
  have ends := s.enterMuted.endAllOnAir_eventAt .muted he
  simp only [State.endedRecord, same, clock, emitter] at ends
  exact ends

/-- The EMITTER notice, then the SPLICE notices in ascending order of event number (R153). -/
theorem State.muteAtSlot_notices :
    s.muteAtSlot.control = s.control.withNotices s.clock
      ((.emitter, s.muteAtSlot.emitterNoticeData .running .stepLost s.queue.length) ::
        s.endNotices s.muteAtSlot eventNumbers) := by
  obtain ⟨clock, events, -⟩ := s.enterMuted_frame
  have same : ∀ e, s.enterMuted.eventAt e = s.eventAt e := fun e => by unfold State.eventAt; rw [events]
  have ends := s.enterMuted.endAllOnAir_control_notices (t := s.muteAtSlot) .muted
    (by rw [State.muteAtSlot_eq]; simp) fun e _ => rfl
  rw [State.endNotices_congr _ fun e _ => same e, clock, State.enterMuted_control] at ends
  exact ends

/-- A slot that mutes carries fill behind a flush (R75, R87). -/
theorem State.muteAtSlot_result :
    s.muteAtSlot.queue = [] ∧ s.muteAtSlot.store.ringHead = s.store.ringTail ∧
    s.muteAtSlot.store.ringTail = s.store.ringTail ∧
    s.muteAtSlot.emitter.state = .muted ∧ s.muteAtSlot.emitter.slot = s.emitter.slot ∧
    s.muteAtSlot.emitter.line = some fillCell ∧ s.muteAtSlot.emitter.outCounts = s.emitter.outCounts := by
  obtain ⟨-, -, queue, emitter, ringHead⟩ := s.enterMuted_frame
  refine ⟨?_, ?_, by simp, ?_, by simp, ?_, by simp⟩ <;> rw [State.muteAtSlot_eq]
  · simp [queue]
  · simp [ringHead]
  · simp [emitter]
  · simp [emitter]

theorem State.muteAtSlot_counters :
    s.muteAtSlot.emitter.counters =
      { s.emitter.counters with clipTruncated := s.muteAtSlot.emitter.counters.clipTruncated } := by
  obtain ⟨-, -, -, emitter, -⟩ := s.enterMuted_frame
  have same : s.enterMuted.emitter.counters = s.emitter.counters := by rw [emitter]
  have counters := s.enterMuted.endAllOnAir_counters .muted
  rwa [same, ← State.muteAtSlot_eq] at counters

theorem State.muteAtSlot_watchAt (w : Nat) :
    s.muteAtSlot.watchAt w = { s.watchAt w with
      discarded := satAdd (s.watchAt w).discarded
        (s.queue.countP (fun r => decide ((s.watchAt w).lane = some r.inLane))) } := by
  rw [← State.watchAt_watchDiscards]
  unfold State.watchAt
  rw [State.muteAtSlot_eq, ← s.enterMuted_watch]
  simp

end

/-- Settles O29: the slot in MUTED carries fill; a RUNNING emitter out of step enters MUTED, then the IN events end one by one. -/
theorem slotsOutOfStepCarryFill : Obligations.SlotsOutOfStepCarryFill := by
  refine ⟨fun s k muted hk hslot hsub => ?_, fun s k running hk hslot hsub outOfStep => ?_⟩
  · have fills : s.nextSlot.beginSlot = s.nextSlot.sendEm fillCell := by
      unfold State.beginSlot
      rw [show s.nextSlot.emitter.state = .muted from muted]
    exact (exec_slotStart_begins (by simp [muted]) hk hslot hsub).trans (congrArg Host.Outcome.next fills)
  · have mutes : s.nextSlot.beginSlot = s.nextSlot.muteAtSlot := by
      unfold State.beginSlot
      rw [show s.nextSlot.emitter.state = .running from running]
      exact if_neg (Bool.eq_false_iff.1 outOfStep)
    obtain ⟨queue, ringHead, ringTail, state, slot, line, outCounts⟩ := s.nextSlot.muteAtSlot_result
    refine ⟨s.nextSlot.muteAtSlot,
      (exec_slotStart_begins (by simp [running]) hk hslot hsub).trans (congrArg Host.Outcome.next mutes),
      queue, ringHead, ringTail, state, slot, line, outCounts, s.nextSlot.muteAtSlot_counters, s.nextSlot.muteAtSlot_watchAt,
      fun e he hair => ?_, fun e he => (s.nextSlot.muteAtSlot_eventAt he).2, s.nextSlot.muteAtSlot_notices⟩
    obtain ⟨n, ended⟩ := (s.nextSlot.muteAtSlot_eventAt he).1 hair
    rw [ended]
    rfl

end Sys2Proof.Machine

namespace Sys2Proof.Machine

/-! ### PARTITION, EMIT START and EMIT STOP (R78, R79, R100, R101) -/

theorem State.clipsEmpty_iff (s : State) : s.clipsEmpty = true ↔ ∀ k < 64, (s.clipAt k).state = .empty := by
  simp only [State.clipsEmpty, List.all_eq_true, decide_eq_true_eq, Vector.mem_toList_iff, Vector.mem_iff_getElem]
  constructor
  · intro all k hk
    refine all _ ⟨k, hk, ?_⟩
    simp [State.clipAt, rowAt, hk]
  · rintro rows _ ⟨k, hk, rfl⟩
    simpa [State.clipAt, rowAt, hk] using rows k hk

theorem State.clipsEmpty_eq_false_iff (s : State) : s.clipsEmpty = false ↔ ∃ k < 64, (s.clipAt k).state ≠ .empty := by
  rw [← Bool.not_eq_true, State.clipsEmpty_iff]
  push Not
  rfl

section
variable {s : State} {c : Command}

/-- PARTITION within range is refused where the emitter runs or a clip is not EMPTY (R100). -/
theorem partitionBody_inUse (inRange : c.settingArg ≤ 3) (h : s.emitter.state ≠ .stopped ∨ s.clipsEmpty = false) :
    partitionBody c s = s.reply c .inUse s.partitionData := by
  rw [partitionBody, if_neg (Nat.not_lt.2 inRange)]
  by_cases runs : s.emitter.state ≠ .stopped
  · rw [if_pos runs]
  · rw [if_neg runs, if_pos (h.resolve_left runs)]

/-- PARTITION acts in STOPPED with every clip EMPTY (R101). -/
theorem partitionBody_acts (inRange : c.settingArg ≤ 3) (stopped : s.emitter.state = .stopped) (empty : s.clipsEmpty = true) :
    partitionBody c s = (s.repartition c.settingArg).reply c .ok (s.repartition c.settingArg).partitionData := by
  rw [partitionBody, if_neg (Nat.not_lt.2 inRange), if_neg (not_not.2 stopped), if_neg (by simp [empty])]

/-- The partition in force, reported behind a PARTITION that acted: every extent is free (R101). -/
theorem State.partitionData_repartition (s : State) (k : Nat) : (s.repartition k).partitionData =
    bytes1 k ++ bytes4 (262144 - 65536 * k) ++ bytes2 (768 + 64 * k) ++ bytes2 (768 + 64 * k) := by
  have free : (s.repartition k).store.free.length = 768 + 64 * k := List.length_range
  rw [State.partitionData, free]
  rfl

theorem emitStartBody_noPlan (h : s.plan.current = none) : emitStartBody c s = s.reply c .noPlan s.emitData :=
  if_pos (by simp [h])

theorem emitStartBody_acts (planned : s.plan.current ≠ none) (stopped : s.emitter.state = .stopped) :
    emitStartBody c s = (s.setChange .start).reply c .ok (s.setChange .start).emitData := by
  rw [emitStartBody, if_neg (by simpa using planned), if_pos stopped]

theorem emitStartBody_refused (planned : s.plan.current ≠ none) (runs : s.emitter.state ≠ .stopped) :
    emitStartBody c s = s.reply c .wrongState s.emitData := by
  rw [emitStartBody, if_neg (by simpa using planned), if_neg runs]

theorem emitStopBody_stops (runs : s.emitter.state ≠ .stopped) :
    emitStopBody c s = (s.setChange .stop).reply c .ok (s.setChange .stop).emitData :=
  if_pos runs

theorem emitStopBody_withdraws (stopped : s.emitter.state = .stopped) (pending : s.emitter.change = .start) :
    emitStopBody c s = (s.setChange .none).reply c .ok (s.setChange .none).emitData := by
  rw [emitStopBody, if_neg (not_not.2 stopped), if_pos pending]

theorem emitStopBody_refused (stopped : s.emitter.state = .stopped) (other : s.emitter.change ≠ .start) :
    emitStopBody c s = s.reply c .wrongState s.emitData := by
  rw [emitStopBody, if_neg (not_not.2 stopped), if_neg other]

/-- What EMIT START and EMIT STOP report in STOPPED (R78, R79). -/
theorem State.emitData_stopped (stopped : s.emitter.state = .stopped) : s.emitData = 0 :: bytes1 s.emitter.change.code := by
  rw [State.emitData, stopped]
  rfl

end

/-- Settles O47, command by command: each refusal and each effect, with the state reported behind it. -/
theorem partitionAndEmitCommands : Obligations.PartitionAndEmitCommands := by
  refine ⟨fun s c h => ?_, fun s c h => ?_, fun s c h => ?_⟩
  · have answers : ∀ {t : State} {r data}, partitionBody c s.popCommand = t.popCommand.reply c r data →
        exec .partition s = .next (t.answered c r data) := State.takeCommand_answered h
    refine ⟨fun beyond => answers (if_pos beyond), fun inRange uses =>
      answers (partitionBody_inUse inRange (uses.imp_right s.clipsEmpty_eq_false_iff.2)), ?_⟩
    rintro k rfl inRange stopped empty
    have acts := partitionBody_acts (s := s.popCommand) inRange stopped (s.clipsEmpty_iff.2 empty)
    rw [State.partitionData_repartition] at acts
    exact answers (t := s.repartition c.settingArg) acts
  · have answers : ∀ {t : State} {r data}, emitStartBody c s.popCommand = t.popCommand.reply c r data →
        exec .emitStart s = .next (t.answered c r data) := State.takeCommand_answered h
    refine ⟨fun noPlan => answers (emitStartBody_noPlan noPlan), fun planned stopped => ?_,
      fun planned runs => answers (emitStartBody_refused planned runs)⟩
    have data : (s.setChange .start).popCommand.emitData = [0, 1] := State.emitData_stopped stopped
    exact answers (data ▸ emitStartBody_acts (s := s.popCommand) planned stopped)
  · have answers : ∀ {t : State} {r data}, emitStopBody c s.popCommand = t.popCommand.reply c r data →
        exec .emitStop s = .next (t.answered c r data) := State.takeCommand_answered h
    refine ⟨fun runs => answers (emitStopBody_stops runs), fun stopped pending => ?_, fun stopped other => ?_⟩
    · have data : (s.setChange .none).popCommand.emitData = [0, 0] := State.emitData_stopped stopped
      exact answers (data ▸ emitStopBody_withdraws (s := s.popCommand) stopped pending)
    · have data : s.popCommand.emitData = 0 :: bytes1 s.emitter.change.code := State.emitData_stopped stopped
      exact answers (data ▸ emitStopBody_refused (s := s.popCommand) stopped other)

end Sys2Proof.Machine

namespace Sys2Proof.Machine

/-! ### The law of one clip record (R96, R97, R106) -/

/-- A clip record has the values of R106 where it is EMPTY, and each of its members keeps its law. -/
structure ClipRecord.law (r : ClipRecord) : Prop where
  empty : r.state = .empty → r = .blank
  members : ∀ m < 4, (r.memberAt m).law

/-- The record with every cursor at 0, in a state (R113, R114, R119, R129). -/
def ClipRecord.rewound (r : ClipRecord) (x : ClipState) : ClipRecord :=
  { r with state := x, members := r.members.map (fun m => { m with cursor := 0 }) }

section
variable {r q : ClipRecord} {m : ClipMember} {p : Nat}

theorem ClipMember.blank_law : ClipMember.blank.law := ⟨le_rfl, fun _ => ⟨rfl, rfl⟩, fun h => absurd rfl h⟩

theorem ClipMember.law.move {n : Nat} (h : m.law) (hn : n ≤ m.count) : ({ m with cursor := n } : ClipMember).law :=
  ⟨hn, h.empty, h.filled⟩

theorem ClipRecord.blank_law : ClipRecord.blank.law :=
  ⟨fun _ => rfl, fun _ _ => by rw [ClipRecord.memberAt_blank]; exact ClipMember.blank_law⟩

theorem ClipRecord.law.member (h : r.law) (k : Nat) : (r.memberAt k).law := by
  by_cases hk : k < 4
  · exact h.members k hk
  · have blank : r.memberAt k = .blank := rowAt_of_le _ _ _ (Nat.not_lt.1 hk)
    exact blank ▸ ClipMember.blank_law

/-- A record that is not EMPTY keeps its law with the members of a lawful one. -/
theorem ClipRecord.law.relabel (h : r.law) (members : q.members = r.members) (taken : q.state ≠ .empty) : q.law :=
  ⟨fun hempty => absurd hempty taken, fun k hk => by
    have row : q.memberAt k = r.memberAt k := by rw [ClipRecord.memberAt, members]; rfl
    exact row ▸ h.members k hk⟩

theorem ClipRecord.law.setMember (h : r.law) (taken : r.state ≠ .empty) (hm : m.law) : (r.setMember p m).law :=
  ⟨fun hempty => absurd hempty taken, fun k hk => by
    rw [ClipRecord.memberAt_setMember]
    split
    · exact hm
    · exact h.members k hk⟩

theorem ClipRecord.memberAt_rewound (r : ClipRecord) (x : ClipState) (k : Nat) :
    (r.rewound x).memberAt k = { r.memberAt k with cursor := 0 } :=
  rowAt_map r.members (fun m => { m with cursor := 0 }) k rfl

theorem ClipRecord.law.rewind (h : r.law) {x : ClipState} (hx : x ≠ .empty) : (r.rewound x).law :=
  ⟨fun hempty => absurd hempty hx, fun k hk => by
    rw [ClipRecord.memberAt_rewound]
    exact (h.members k hk).move (Nat.zero_le _)⟩

/-- An EMPTY clip has no member: a clip with a member below its member count is in another state (R106). -/
theorem ClipRecord.law.taken_of_hasMember (h : r.law) (has : r.hasMember p = true) : r.state ≠ .empty := by
  intro hempty
  rw [h.empty hempty] at has
  simp [ClipRecord.hasMember, ClipRecord.blank] at has

/-- The extents of a clip are those of its four members. -/
theorem ClipRecord.allExtents_congr (h : ∀ k < 4, (q.memberAt k).extents = (r.memberAt k).extents) :
    q.allExtents = r.allExtents := by
  simp [ClipRecord.allExtents, h]

theorem ClipRecord.allExtents_blank : ClipRecord.blank.allExtents = [] := by decide

theorem ClipRecord.allExtents_rewound (r : ClipRecord) (x : ClipState) : (r.rewound x).allExtents = r.allExtents :=
  ClipRecord.allExtents_congr fun k _ => by rw [ClipRecord.memberAt_rewound]

/-- What a member gains from the free extents its clip holds. -/
theorem ClipRecord.allExtents_setMember_perm {fresh free : List Nat} (hp : p < 4)
    (hm : m.extents = (r.memberAt p).extents ++ fresh) :
    (free ++ (r.setMember p m).allExtents).Perm ((fresh ++ free) ++ r.allExtents) := by
  rw [List.perm_iff_count]
  intro n
  simp only [ClipRecord.allExtents, ClipRecord.memberAt_setMember, List.count_append]
  obtain rfl | rfl | rfl | rfl : p = 0 ∨ p = 1 ∨ p = 2 ∨ p = 3 := by omega
  all_goals
    simp [hm]
    omega

theorem ClipRecord.allExtents_setMember (h : m.extents = (r.memberAt p).extents) : (r.setMember p m).allExtents = r.allExtents :=
  ClipRecord.allExtents_congr fun k _ => by
    rw [ClipRecord.memberAt_setMember]
    split
    · rename_i hk
      rw [h, hk.1]
    · rfl

/-- The next block of a lawful member: the member with the cell counted is lawful, and what extents it gained come from the head of
the free extent list (R97). -/
theorem nextClipBlock_takes {m' : ClipMember} {setting block : Nat} {free free' : List Nat} (h : m.law)
    (hnext : nextClipBlock setting free m = some (m', free', block)) :
    ({ m' with count := m'.count + 1 } : ClipMember).law ∧ ∃ fresh, m'.extents = m.extents ++ fresh ∧ free = fresh ++ free' := by
  have grows : m.count = 1024 * m.extents.length → m.extents = [] ∨ m.fill = some 1024 →
      ({ m' with count := m'.count + 1 } : ClipMember).law ∧
        ∃ fresh, m'.extents = m.extents ++ fresh ∧ free = fresh ++ free' := by
    intro hcount hfull
    rw [nextClipBlock_extends hfull] at hnext
    split at hnext
    · cases hnext
    · rename_i x rest
      cases hnext
      refine ⟨⟨h.cursor.trans (Nat.le_succ _), fun hnil => by simp at hnil, fun _ => ⟨1, rfl, le_rfl, by omega, ?_⟩⟩, [x], rfl, rfl⟩
      simp [hcount]
  by_cases hnil : m.extents = []
  · exact grows (by simp [(h.empty hnil).1, hnil]) (.inl hnil)
  · obtain ⟨f, hfill, hpos, hle, hcount⟩ := h.filled hnil
    have hlength := List.length_pos_iff.2 hnil
    rcases Nat.lt_or_eq_of_le hle with hf | rfl
    · rw [nextClipBlock_fills (List.getLast?_eq_some_getLast hnil) hfill hf] at hnext
      cases hnext
      exact ⟨⟨h.cursor.trans (Nat.le_succ _), fun h => absurd h hnil,
        fun _ => ⟨f + 1, rfl, by omega, hf, by simp only; omega⟩⟩, [], (List.append_nil _).symm, rfl⟩
    · exact grows (by omega) (.inr hfill)

end

end Sys2Proof.Machine

namespace Sys2Proof.Machine

/-! ### What keeps the clip partition and the clips in agreement (R96 to R101) -/

section
variable {s t : State} {c : Nat} {r : ClipRecord}

/-- A state with the Clip Table, the free extent list, the division and the waiting clip cell of a lawful one. -/
theorem State.storeLaw.same (h : s.storeLaw) (clips : t.clips = s.clips := by simp)
    (free : t.store.free = s.store.free := by simp) (setting : t.store.setting = s.store.setting := by simp)
    (waiting : t.store.lfWaiting = s.store.lfWaiting := by simp) : t.storeLaw := by
  have clip : ∀ k, t.clipAt k = s.clipAt k := fun k => by unfold State.clipAt; rw [clips]
  refine ⟨?_, fun k hk => clip k ▸ h.clips.empty k hk, fun k hk => clip k ▸ h.clips.members k hk, waiting ▸ h.clips.waiting⟩
  have extents := h.extents
  unfold State.extentLaw State.heldExtents at extents ⊢
  rwa [clips, free, setting]

theorem State.storeLaw.kept (h : s.storeLaw) (k : t.clips = s.clips ∧ t.store = s.store) : t.storeLaw :=
  h.same k.1 (by rw [k.2]) (by rw [k.2]) (by rw [k.2])

theorem State.storeLaw.wait (h : s.storeLaw) {w : Option ClipWrite} (hw : ∀ x, w = some x → x.clip < 64 ∧ x.position < 4) :
    ({ s with store := { s.store with lfWaiting := w } } : State).storeLaw :=
  ⟨h.extents, h.clips.empty, h.clips.members, hw⟩

theorem State.storeLaw.clip (h : s.storeLaw) (c : Nat) : (s.clipAt c).law := by
  by_cases hc : c < 64
  · exact ⟨h.clips.empty c hc, h.clips.members c hc⟩
  · have blank : s.clipAt c = .blank := rowAt_of_le _ _ _ (Nat.not_lt.1 hc)
    exact blank ▸ ClipRecord.blank_law

/-- The extents that the clips of other numbers hold (R96). -/
def State.otherExtents (s : State) (c : Nat) : List Nat :=
  (s.clips.toList.take c).flatMap ClipRecord.allExtents ++ (s.clips.toList.drop (c + 1)).flatMap ClipRecord.allExtents

/-- The extents held are those of the clip's record, whatever it is replaced by, and those of the others. -/
theorem State.heldExtents_setClip (s : State) (hc : c < 64) (r : ClipRecord) :
    (s.setClip c r).heldExtents.Perm (r.allExtents ++ s.otherExtents c) := by
  have table : (s.setClip c r).clips.toList = s.clips.toList.set c r := Vector.toList_setIfInBounds
  unfold State.heldExtents State.otherExtents
  rw [table, List.set_eq_take_append_cons_drop, if_pos (by simpa using hc), List.flatMap_append, List.flatMap_cons]
  exact List.perm_append_comm_assoc _ _ _

theorem State.setClip_clipAt (s : State) (c : Nat) : s.setClip c (s.clipAt c) = s := by
  have table : setRow s.clips c (s.clipAt c) = s.clips := Vector.ext fun i hi => by
    simp only [setRow, Vector.getElem_setIfInBounds, State.clipAt, rowAt]
    split
    · rename_i hrow
      subst hrow
      simp [hi]
    · rfl
  rw [State.setClip, table]

theorem State.setClip_beyond (s : State) (hc : 64 ≤ c) (r : ClipRecord) : s.setClip c r = s := by
  have table : setRow s.clips c r = s.clips := Vector.ext fun i hi => by
    rw [setRow, Vector.getElem_setIfInBounds_ne _ (by omega)]
  rw [State.setClip, table]

/-- A clip takes a lawful record, and its extents and the free ones together stay the same. -/
theorem State.storeLaw.restock (h : s.storeLaw) (hc : c < 64) (hr : r.law) {free : List Nat}
    (extents : (free ++ r.allExtents).Perm (s.store.free ++ (s.clipAt c).allExtents)) :
    (({ s with store := { s.store with free := free } } : State).setClip c r).storeLaw := by
  have law : ∀ k, ((({ s with store := { s.store with free := free } } : State).setClip c r).clipAt k).law := fun k => by
    rw [State.clipAt_setClip]
    split
    · exact hr
    · exact h.clip k
  refine ⟨?_, fun k _ => (law k).empty, fun k _ => (law k).members, h.clips.waiting⟩
  have held := s.heldExtents_setClip hc (s.clipAt c)
  rw [State.setClip_clipAt] at held
  have regrouped : (free ++ (r.allExtents ++ s.otherExtents c)).Perm
      (s.store.free ++ ((s.clipAt c).allExtents ++ s.otherExtents c)) := by
    rw [← List.append_assoc, ← List.append_assoc]
    exact extents.append_right _
  exact ((s.heldExtents_setClip hc r).append_left free).trans (regrouped.trans ((held.symm.append_left _).trans h.extents))

/-- A clip takes a lawful record with the extents it had; a clip the table does not have takes none. -/
theorem State.storeLaw.setClip (h : s.storeLaw) (hr : r.law) (extents : r.allExtents = (s.clipAt c).allExtents) :
    (s.setClip c r).storeLaw := by
  by_cases hc : c < 64
  · exact h.restock hc hr (extents ▸ .refl _)
  · rwa [State.setClip_beyond s (Nat.not_lt.1 hc)]

theorem State.storeLaw.rewind (h : s.storeLaw) (c : Nat) {x : ClipState} (hx : x ≠ .empty) :
    (s.setClip c ((s.clipAt c).rewound x)).storeLaw :=
  h.setClip ((h.clip c).rewind hx) (ClipRecord.allExtents_rewound _ _)

/-- The extents of a clip join the free extent list, and the clip is EMPTY (R99). -/
theorem State.storeLaw.releaseClip (h : s.storeLaw) (hc : c < 64) : (s.releaseClip c).storeLaw :=
  h.restock hc ClipRecord.blank_law (by rw [ClipRecord.allExtents_blank, List.append_nil])

end

end Sys2Proof.Machine

namespace Sys2Proof.Machine

/-! ### The arbiter and the heads of the FIFOs (R97, R102, R109) -/

section
variable {s t : State}

/-- A clip cell granted is unexpected, is lost, or joins its member with what extent it needs (R97, R109). -/
theorem State.storeLaw.grantLf (h : s.storeLaw) {w : ClipWrite} (hw : w.clip < 64 ∧ w.position < 4) : (s.grantLf w).storeLaw := by
  obtain ⟨hclip, hposition⟩ := hw
  have left : (({ s with store := { s.store with lfWaiting := none } } : State).popFifo .lf).storeLaw :=
    (h.wait (w := none) nofun).same rfl rfl rfl rfl
  have clip := h.clip w.clip
  unfold State.grantLf
  dsimp only
  split
  · rename_i loading
    have taken : (s.clipAt w.clip).state ≠ .empty := by rw [loading.1]; exact ClipState.noConfusion
    split
    · exact left.setClip (clip.relabel rfl taken) rfl
    · rename_i m free block hnext
      obtain ⟨hm, fresh, gained, given⟩ := nextClipBlock_takes (clip.members w.position hposition) hnext
      have checked : ({ s.clipAt w.clip with check := clipCheck (s.clipAt w.clip).check w.cell.payload } : ClipRecord).law :=
        clip.relabel rfl taken
      refine (left.restock hclip (checked.setMember taken hm) (free := free) ?_).same rfl rfl rfl rfl
      exact given ▸ ClipRecord.allExtents_setMember_perm hposition gained
  · exact left.same rfl rfl rfl rfl

theorem State.storeLaw.grantNf (h : s.storeLaw) (r : Record) : (s.grantNf r).storeLaw := h.same

theorem State.storeLaw.arbitrate (h : s.storeLaw) : s.arbitrate.storeLaw := by
  have nf : (match s.store.nfWaiting with
      | some r => s.grantNf r
      | none => s).storeLaw := by
    split
    · exact h.grantNf _
    · exact h
  unfold State.arbitrate
  split
  · exact h
  split
  · exact h.same rfl rfl rfl rfl
  dsimp only
  split
  · exact nf
  split
  · rename_i w waits
    exact nf.grantLf (nf.clips.waiting w waits)
  · exact nf

/-- A lane below 256 names a clip and a member (R108). -/
theorem State.storeLaw.handClipCell (h : s.storeLaw) (cell : Cell) : (s.handClipCell cell).storeLaw := by
  unfold State.handClipCell
  dsimp only
  split
  · exact State.storeLaw.arbitrate (h.wait fun w hw => by cases hw; dsimp only; omega)
  · exact h.same rfl rfl rfl rfl

theorem State.storeLaw.classify (h : s.storeLaw) (cell : Cell) (output : Nat) (place : Option GroupPlace) :
    (s.classify cell output place).storeLaw := by
  unfold State.classify
  dsimp only
  split
  · split
    · exact h.same
    · exact State.storeLaw.arbitrate (h.same rfl rfl rfl rfl)
  · exact h.same

theorem State.storeLaw.handData (h : s.storeLaw) (cell : Cell) : (s.handData cell).storeLaw := by
  have tested : (s.testContinuity cell.header).storeLaw := h.same
  unfold State.handData
  dsimp only
  split
  · exact tested.same
  · exact tested.classify _ _ _
  · exact tested.classify _ _ _

theorem State.storeLaw.handHead (h : s.storeLaw) (p : Port) (cell : Cell) : (s.handHead p cell).storeLaw := by
  unfold State.handHead
  split
  case h_1 => exact h.handData cell
  case h_5 => exact h.handClipCell cell
  all_goals exact h.same

end

/-! ### The Splice Scheduler and the second boundary (R119, R129, R132, R152, R153) -/

section
variable {s : State}

theorem State.storeLaw.returnClip (h : s.storeLaw) (c : Nat) : (s.returnClip c).storeLaw := by
  have rewound := h.rewind c (x := .ready) ClipState.noConfusion
  unfold State.returnClip
  dsimp only
  split
  · exact rewound.same rfl rfl rfl rfl
  · exact h

theorem State.storeLaw.notifySplice (h : s.storeLaw) (e : Nat) (b : EventState) : (s.notifySplice e b).storeLaw := h.same

theorem State.storeLaw.finishEvent (h : s.storeLaw) (e : Nat) (x : EventState) (c : Option EndingCause) (r : Option FailReason) :
    (s.finishEvent e x c r).storeLaw := by
  unfold State.finishEvent
  dsimp only
  refine State.storeLaw.notifySplice ?_ e _
  split
  · exact State.storeLaw.returnClip h.same _
  · exact h.same

theorem State.storeLaw.endSplice (h : s.storeLaw) (e : Nat) (x : EventState) (c : EndingCause) : (s.endSplice e x c).storeLaw := by
  have truncated : (s.truncatedEnd e).storeLaw := h.same (by simp [State.truncatedEnd]) (by simp [State.truncatedEnd])
    (by simp [State.truncatedEnd]) (by simp [State.truncatedEnd])
  rw [State.endSplice_eq]
  exact ((truncated.finishEvent e x _ _).returnClip _).same rfl rfl rfl rfl

theorem State.storeLaw.armEvent (h : s.storeLaw) (e : Nat) : (s.armEvent e).storeLaw := by
  rw [State.armEvent_eq]
  dsimp only
  split
  · refine State.storeLaw.finishEvent ?_ e _ _ _
    exact h.same rfl rfl rfl rfl
  · have cued := (h.clip (s.eventAt e).given.clip).rewind (x := .cued) ClipState.noConfusion
    refine State.storeLaw.setClip ?_ cued (ClipRecord.allExtents_rewound _ _)
    exact h.same rfl rfl rfl rfl

/-- Steps taken event after event keep the store law where each keeps it. -/
theorem State.storeLaw.foldl {f : State → Nat → State} (hf : ∀ t e, State.storeLaw t → (f t e).storeLaw) (h : s.storeLaw)
    (l : List Nat) : (l.foldl f s).storeLaw := by
  induction l generalizing s with
  | nil => exact h
  | cons e l ih => exact ih (hf s e h)

theorem State.storeLaw.armDue (h : s.storeLaw) : s.armDue.storeLaw := h.foldl (fun _ e ht => ht.armEvent e) _

theorem State.storeLaw.failMissed (h : s.storeLaw) : s.failMissed.storeLaw := by
  refine h.foldl (fun t e ht => ?_) _
  split
  · exact ht.finishEvent _ _ _ _
  · exact ht

theorem State.storeLaw.forceEnds (h : s.storeLaw) : s.forceEnds.storeLaw := by
  refine h.foldl (fun t e ht => ?_) _
  split
  · exact ht.endSplice _ _ _
  · exact ht

theorem State.storeLaw.endAllOnAir (h : s.storeLaw) (c : EndingCause) : (s.endAllOnAir c).storeLaw := by
  refine h.foldl (fun t e ht => ?_) _
  split
  · exact ht.endSplice _ _ _
  · exact ht

theorem State.storeLaw.cancelAll (h : s.storeLaw) : s.cancelAll.storeLaw := by
  refine State.cancelAll_keeps (fun t e ht => ?_) h
  obtain ⟨-, ends⟩ | ⟨-, ends⟩ | ⟨-, stays⟩ := t.cancelEvent_cases e
  · exact ends ▸ ht.endSplice _ _ _
  · exact ends ▸ ht.finishEvent _ _ _ _
  · exact stays.symm ▸ ht

theorem State.storeLaw.emitterChange (h : s.storeLaw) : s.emitterChange.storeLaw := by
  unfold State.emitterChange
  dsimp only
  split
  · refine State.storeLaw.endAllOnAir ?_ _
    split <;> exact h.same
  · split <;> exact h.same

theorem State.storeLaw.armingsAndEnds (h : s.storeLaw) : s.armingsAndEnds.storeLaw := by
  have drawn : ((s.draw s.armingMeets).draw (s.draw s.armingMeets).endsMeet).storeLaw := h.same
  have armAndMiss : ∀ {t : State}, t.storeLaw → t.armAndMiss.storeLaw := fun ht => ht.armDue.failMissed
  unfold State.armingsAndEnds
  dsimp only
  split
  · exact (armAndMiss drawn).forceEnds.emitterChange
  · exact (armAndMiss drawn).emitterChange.forceEnds
  · exact (armAndMiss drawn.forceEnds).emitterChange
  · exact (armAndMiss drawn.emitterChange).forceEnds
  · exact armAndMiss drawn.forceEnds.emitterChange
  · exact armAndMiss drawn.emitterChange.forceEnds

theorem State.storeLaw.handBoundary (h : s.storeLaw) : s.handBoundary.storeLaw := by
  have seconds : s.planChange.emitterSecond.storeLaw := h.same
  unfold State.handBoundary
  exact seconds.armingsAndEnds.same

theorem State.storeLaw.edgeBoundary (h : s.storeLaw) : s.edgeBoundary.storeLaw := by
  have edge : s.clockBoundary.staleAdvance.storeLaw := h.same
  exact edge.handBoundary

theorem State.storeLaw.takeStep (h : s.storeLaw) (b : ClockState) (e : Int) : (s.takeStep b e).storeLaw := by
  unfold State.takeStep
  dsimp only
  split
  · refine State.storeLaw.armDue ?_
    split <;> exact h.same
  · exact State.storeLaw.handBoundary h.same

end

/-! ### The Splice Switch and the slots (R84 to R87, R118, R142 to R149) -/

section
variable {s : State} {g e m : Nat} {r : Record}

/-- A cursor moves on within the cells of a member (R118, R149). -/
theorem State.storeLaw.replaceRecord (h : s.storeLaw) (e m : Nat) : (s.replaceRecord e m).1.storeLaw := by
  have clip := h.clip (s.eventAt e).given.clip
  unfold State.replaceRecord
  dsimp only
  split
  · rename_i has
    split
    · rename_i unplayed
      have moved : (s.setClip (s.eventAt e).given.clip ((s.clipAt (s.eventAt e).given.clip).setMember m
          { (s.clipAt (s.eventAt e).given.clip).memberAt m with
            cursor := ((s.clipAt (s.eventAt e).given.clip).memberAt m).cursor + 1 })).storeLaw :=
        h.setClip (clip.setMember (clip.taken_of_hasMember has) ((clip.member m).move unplayed))
          (ClipRecord.allExtents_setMember rfl)
      exact moved.same rfl rfl rfl rfl
    · exact h.same
  · exact h

theorem State.storeLaw.switchIn (h : s.storeLaw) (g e : Nat) (r : Record) : (s.switchIn g e r).1.storeLaw := by
  have onAir : (s.putOnAir g e r).storeLaw :=
    State.storeLaw.setClip (h.same rfl rfl rfl rfl)
      ((h.clip _).relabel rfl ClipState.noConfusion) rfl
  have entered : ((s.putOnAir g e r).enterClip g 0 r.outLane).storeLaw := onAir.same
  rw [State.switchIn_eq]
  exact (entered.replaceRecord e 0).same

theorem State.storeLaw.onIdle (h : s.storeLaw) (g m : Nat) (r : Record) : (s.onIdle g m r).1.storeLaw := by
  unfold State.onIdle
  split
  · exact h
  dsimp only
  split
  · exact h
  split
  · exact h
  split
  · exact h.switchIn g _ r
  · exact h.finishEvent _ _ _ _

theorem State.storeLaw.endIfBack (h : s.storeLaw) (g e : Nat) : (s.endIfBack g e).storeLaw := by
  unfold State.endIfBack
  dsimp only
  split
  · exact h.endSplice _ _ _
  · exact h

theorem State.storeLaw.onLeader (h : s.storeLaw) (g e : Nat) (r : Record) : (s.onLeader g e r).1.storeLaw := by
  unfold State.onLeader
  dsimp only
  split
  · split
    · exact State.storeLaw.endIfBack h.same g e
    · exact h.replaceRecord e 0
  · exact h
  · exact h

theorem State.storeLaw.onMember (h : s.storeLaw) (g e m : Nat) (r : Record) : (s.onMember g e m r).1.storeLaw := by
  unfold State.onMember
  dsimp only
  split
  · split
    · split
      · exact State.storeLaw.replaceRecord h.same e m
      · exact h
    · exact h
  · split
    · exact h.replaceRecord e m
    split
    · exact h.replaceRecord e m
    split
    · exact State.storeLaw.endIfBack h.same g e
    · exact h.replaceRecord e m
  · exact h

theorem State.storeLaw.switchRecord (h : s.storeLaw) (r : Record) : (s.switchRecord r).1.storeLaw := by
  unfold State.switchRecord
  split
  · exact h
  split
  · exact h.onIdle _ _ r
  split
  · exact h
  split
  · exact h.onLeader _ _ r
  · exact h.onMember _ _ _ r

theorem State.storeLaw.fillSlot (h : s.storeLaw) : s.fillSlot.storeLaw := by
  unfold State.fillSlot
  dsimp only
  split
  · exact h.same
  rename_i r rest _
  split
  · rename_i n _
    have counted : (s.countTaken r n).storeLaw := by
      unfold State.countTaken
      split <;> exact h.same
    rw [State.sendRecord_eq]
    exact (counted.switchRecord r).same
  · exact h.same
  · exact h.same

theorem State.storeLaw.beginSlot (h : s.storeLaw) : s.beginSlot.storeLaw := by
  unfold State.beginSlot
  split
  · exact h
  · exact h.same
  split
  · exact State.storeLaw.fillSlot h.same
  · exact State.storeLaw.endAllOnAir h.same _

end

end Sys2Proof.Machine

namespace Sys2Proof.Machine

/-! ### The commands on clips, the division and the schedule (R99, R101, R113 to R115) -/

section
variable {s t : State} (c : Command)

theorem State.storeLaw.reply (h : s.storeLaw) (r : Result) (d : List Byte) : (s.reply c r d).storeLaw := h.same

theorem ClipRecord.memberAt_opened (r : ClipRecord) (k : Nat) (o : Origin) (m : Nat) :
    (r.opened k o).memberAt m = { r.memberAt m with count := 0, cursor := 0 } :=
  rowAt_map r.members (fun x : ClipMember => { x with count := 0, cursor := 0 }) m rfl

/-- A clip opened from EMPTY has no extent and no cell (R113). -/
theorem ClipRecord.opened_blank_law (k : Nat) (o : Origin) : (ClipRecord.blank.opened k o).law := by
  refine ⟨fun hempty => ClipState.noConfusion hempty, fun m _ => ?_⟩
  rw [ClipRecord.memberAt_opened, ClipRecord.memberAt_blank]
  exact ClipMember.blank_law

theorem State.storeLaw.clipOpenBody (h : s.storeLaw) : (clipOpenBody c s).storeLaw := by
  unfold Machine.clipOpenBody
  dsimp only
  split
  · exact h.reply c _ _
  split
  · exact h.reply c _ _
  split
  · rename_i hempty
    have blank := (h.clip c.clipArg).empty hempty
    refine State.storeLaw.reply c (h.setClip ?_ ?_) _ _
    · rw [blank]
      exact ClipRecord.opened_blank_law _ _
    · rw [blank]
      exact ClipRecord.allExtents_congr fun m _ => by rw [ClipRecord.memberAt_opened]
  · exact h.reply c _ _

theorem State.storeLaw.clipCloseBody (h : s.storeLaw) : (clipCloseBody c s).storeLaw := by
  unfold Machine.clipCloseBody
  dsimp only
  split
  · exact h.reply c _ _
  rename_i inTable
  have released : (s.releaseClip c.clipArg).storeLaw := h.releaseClip (Nat.lt_succ_of_le (Nat.not_lt.1 inTable))
  split
  · exact h.reply c _ _
  split
  · exact State.storeLaw.reply c (h.rewind c.clipArg (x := .ready) ClipState.noConfusion) _ _
  · exact released.reply c _ _

theorem State.storeLaw.clipRemoveBody (h : s.storeLaw) : (clipRemoveBody c s).storeLaw := by
  unfold Machine.clipRemoveBody
  dsimp only
  split
  · exact h.reply c _ _
  rename_i inTable
  have released : (s.releaseClip c.clipArg).storeLaw := h.releaseClip (Nat.lt_succ_of_le (Nat.not_lt.1 inTable))
  split
  · exact released.reply c _ _
  · exact released.reply c _ _
  all_goals exact h.reply c _ _

/-- Where every clip is EMPTY no extent is held (R106). -/
theorem State.storeLaw.heldExtents_eq_nil (h : s.storeLaw) (empty : s.clipsEmpty = true) : s.heldExtents = [] := by
  rw [State.heldExtents, List.flatMap_eq_nil_iff]
  intro r hr
  obtain ⟨k, hk, rfl⟩ := Vector.mem_iff_getElem.1 (Vector.mem_toList_iff.1 hr)
  have row : s.clips[k] = s.clipAt k := by simp [State.clipAt, rowAt, hk]
  rw [row, h.clips.empty k hk (s.clipsEmpty_iff.1 empty k hk), ClipRecord.allExtents_blank]

theorem State.storeLaw.repartition (h : s.storeLaw) (empty : s.clipsEmpty = true) (k : Nat) : (s.repartition k).storeLaw := by
  refine ⟨?_, h.clips.empty, h.clips.members, h.clips.waiting⟩
  have held : (s.repartition k).heldExtents = [] := h.heldExtents_eq_nil empty
  rw [State.extentLaw, held, List.append_nil]
  rfl

theorem State.storeLaw.partitionBody (h : s.storeLaw) : (partitionBody c s).storeLaw := by
  unfold Machine.partitionBody
  split
  · exact h.reply c _ _
  split
  · exact h.reply c _ _
  split
  · exact h.reply c _ _
  · rename_i empty
    exact State.storeLaw.reply c (h.repartition (by simpa using empty) _) _ _

theorem State.storeLaw.restartIntakes (h : s.storeLaw) : s.restartIntakes.storeLaw := by
  have withdrawn := h.wait (w := none) nofun
  exact withdrawn.same (waiting := rfl)

theorem State.storeLaw.restartBody (h : s.storeLaw) : (restartBody c s).storeLaw := by
  have replied : (s.restartIntakes.restartControl.reply c .ok (bytes1 s.control.queue.length)).storeLaw :=
    h.restartIntakes.same
  unfold Machine.restartBody
  exact replied.cancelAll.same

theorem State.storeLaw.siteSetBody (h : s.storeLaw) : (siteSetBody c s).storeLaw := by
  unfold Machine.siteSetBody
  dsimp only
  split
  · exact h.same
  · exact State.storeLaw.armDue h.same

theorem State.storeLaw.spliceCancelBody (h : s.storeLaw) : (spliceCancelBody c s).storeLaw := by
  unfold Machine.spliceCancelBody
  dsimp only
  split
  · exact h.reply c _ _
  split
  · exact h.reply c _ _
  split
  · exact (h.reply c _ _).finishEvent _ _ _ _
  · exact (h.reply c _ _).finishEvent _ _ _ _
  · exact h.same
  all_goals exact h.reply c _ _

/-- A command keeps the store law where its own rule does (R158 to R160). -/
theorem State.storeLaw.takeCommand (h : s.storeLaw) {name : CommandName} {body : Command → State → State}
    (hbody : ∀ c u, State.storeLaw u → (body c u).storeLaw) (ht : s.takeCommand name body = .next t) : t.storeLaw := by
  have popped : s.popCommand.storeLaw := h.same
  exact State.takeCommand_keeps State.storeLaw h (fun u hu => hu.same) (fun c _ r _ _ => popped.reply c r _)
    (fun c _ _ _ _ => hbody c _ popped) ht

end

/-! ### The rows -/

section
variable {s t : State} (h : s.storeLaw)
include h

theorem State.storeLaw.execCountedEdge (ht : execCountedEdge s = .next t) : t.storeLaw := by
  unfold Machine.execCountedEdge at ht
  split at ht <;> (injection ht with ht; subst ht)
  · exact h.same
  · exact h.edgeBoundary

theorem State.storeLaw.execSecondBoundary (ht : execSecondBoundary s = .next t) : t.storeLaw := by
  unfold Machine.execSecondBoundary at ht
  split at ht <;> (injection ht with ht; subst ht)
  · exact h
  · exact h.edgeBoundary

theorem State.storeLaw.execVerdict (ht : execVerdict s = .next t) : t.storeLaw := by
  have judged : ∀ c, ({ s with clock := c } : State).storeLaw := fun _ => h.same
  unfold Machine.execVerdict at ht
  dsimp only at ht
  (repeat' split at ht) <;> (injection ht with ht; subst ht)
  · exact h.same
  · exact (judged _).takeStep _ _
  · exact h

theorem State.storeLaw.execIntakeHeadHandoff {p : Port} (ht : execIntakeHeadHandoff p s = .next t) : t.storeLaw := by
  unfold Machine.execIntakeHeadHandoff at ht
  (repeat' split at ht) <;> (injection ht with ht; subst ht)
  · exact h
  · exact h
  · exact h.handHead p _

theorem State.storeLaw.execCellStoreAccessEnd (ht : execCellStoreAccessEnd s = .next t) : t.storeLaw := by
  obtain ⟨-, setting, free, -, -, -, -, waiting⟩ := s.accessEnded_store
  have ended : s.accessEnded.storeLaw := h.same rfl free setting waiting
  unfold Machine.execCellStoreAccessEnd at ht
  split at ht
  · injection ht with ht; subst ht; exact h
  · split at ht
    · injection ht with ht; subst ht; exact ended.arbitrate
    · cases ht

theorem State.storeLaw.execEmitterStagingRead {c : StageChoice} (ht : execEmitterStagingRead c s = .next t) : t.storeLaw := by
  unfold Machine.execEmitterStagingRead at ht
  (repeat' split at ht) <;> (injection ht with ht; subst ht)
  · exact h
  · exact h
  · exact State.storeLaw.arbitrate (h.same rfl rfl rfl rfl)

theorem State.storeLaw.execSlotStart (ht : execSlotStart s = .next t) : t.storeLaw := by
  unfold Machine.execSlotStart at ht
  split at ht <;> (injection ht with ht; subst ht)
  · exact State.storeLaw.beginSlot h.same
  · exact h

end

/-- After a full reset the part stands as right after reset, but for its Control Unit (R94, R105). -/
theorem State.afterReset_storeLaw (straps : BitVec 16) (epoch counter : Word32) (draws : Nat) (pending : List Instr) :
    (State.afterReset straps epoch counter draws pending).storeLaw :=
  resetIsSafe.store.same rfl rfl rfl rfl

/-- Every row keeps the store law: the rows that do not reach the clips leave what it reads as it is. -/
theorem exec_storeLaw {i : Instr} {s t : State} (h : s.storeLaw) (ht : exec i s = .next t) : t.storeLaw := by
  cases i with
  | fullReset cause straps => cases cause <;> (injection ht with ht; subst ht; exact State.afterReset_storeLaw _ _ _ _ _)
  | countedEdge => exact h.execCountedEdge ht
  | epochCounterTick => injection ht with ht; subst ht; exact h.same
  | secondBoundary => exact h.execSecondBoundary ht
  | timeCodeMessage intact n => exact h.kept (by simp [execTimeCodeMessage_frame ht])
  | pulse => injection ht with ht; subst ht; exact h.same
  | verdict => exact h.execVerdict ht
  | frequencyLoss => exact h.kept (by simp [execFrequencyLoss_frame ht])
  | frequencyReturn => injection ht with ht; subst ht; exact h.same
  | huntCandidate p b => exact h.kept (by simp [execHuntCandidate_frame ht])
  | presyncHeader p b => exact h.kept (by simp [execPresyncHeader_frame ht])
  | syncHeader p b => exact h.kept (by simp [execSyncHeader_frame ht])
  | cellDelivery p b => exact h.kept (by simp [execCellDelivery_frame ht])
  | intakeHeadHandoff p => exact h.execIntakeHeadHandoff ht
  | cellStoreAccessEnd => exact h.execCellStoreAccessEnd ht
  | emitterStagingRead c => exact h.execEmitterStagingRead ht
  | slotStart => exact h.execSlotStart ht
  | eventArming => injection ht with ht; subst ht; exact h.armDue
  | monitorCellSent => exact h.kept (by simp [execMonitorCellSent_frame ht])
  | unknown => exact h.kept (by simp [execUnknown_frame ht])
  | status => exact h.kept (by simp [execStatus_frame ht])
  | restart => exact h.takeCommand (fun c _ hu => hu.restartBody c) ht
  | siteSet => exact h.takeCommand (fun c _ hu => hu.siteSetBody c) ht
  | partition => exact h.takeCommand (fun c _ hu => hu.partitionBody c) ht
  | spliceCancel => exact h.takeCommand (fun c _ hu => hu.spliceCancelBody c) ht
  | clipOpen => exact h.takeCommand (fun c _ hu => hu.clipOpenBody c) ht
  | clipClose => exact h.takeCommand (fun c _ hu => hu.clipCloseBody c) ht
  | clipRemove => exact h.takeCommand (fun c _ hu => hu.clipRemoveBody c) ht
  | groupSet => exact h.takeCommand (fun _ _ hu => hu.same) ht
  | spliceAdd => exact h.takeCommand (fun _ _ hu => hu.same) ht
  | stats => exact h.takeCommand (fun _ _ hu => hu.same) ht
  | laneMapLoad => exact h.takeCommand (fun _ _ hu => hu.same) ht
  | laneMapRead => exact h.takeCommand (fun _ _ hu => hu.same) ht
  | watchSet => exact h.takeCommand (fun _ _ hu => hu.same) ht
  | clockSet => exact h.takeCommand (fun _ _ hu => hu.same) ht
  | emitStart => exact h.takeCommand (fun _ _ hu => hu.same) ht
  | emitStop => exact h.takeCommand (fun _ _ hu => hu.same) ht
  | clipQuery => exact h.takeCommand (fun _ _ hu => hu.same) ht
  | spliceQuery => exact h.takeCommand (fun _ _ hu => hu.same) ht

/-- Settles O59: a step runs one row, and every row keeps the store law. -/
theorem storeLawIsKept : Obligations.StoreLawIsKept := by
  intro s t h ht
  unfold step at ht
  split at ht
  · injection ht with ht; subst ht; exact h
  · refine exec_storeLaw ?_ ht
    exact h.same rfl rfl rfl rfl

end Sys2Proof.Machine

namespace Sys2Proof.Machine

/-! ### Accesses that end, and the read a staging read presents (R98, R102, R104) -/

/-- Settles O25, by what the access was; the arbiter's grant leaves the blocks as they are. -/
theorem accessesEnd : Obligations.AccessesEnd := by
  refine ⟨fun s b d haccess hb => ?_, fun s r wanted haccess hb hread hnf hlf => ?_⟩
  · have blocks : s.accessEnded.arbitrate.store.dram = dramWrite s.store.dram b d := by
      rw [(State.arbitrate_store _).2.2]
      simp [State.accessEnded, CellStore.endAccess, haccess]
    refine ⟨_, exec_accessEnd haccess hb, ?_, fun a ha => ?_⟩
    · rw [blocks, dramRead_dramWrite, if_pos rfl]
    · rw [blocks, dramRead_dramWrite, if_neg ha]
  · obtain ⟨idle, -, -, -, -, read, nf, lf⟩ := s.accessEnded_store
    rw [exec_accessEnd haccess hb, State.arbitrate_idle idle (read.trans hread) (nf.trans hnf) (lf.trans hlf)]
    simp [State.accessEnded, CellStore.endAccess, haccess]

end Sys2Proof.Machine

namespace Sys2Proof.Machine

/-! ### A clip cell handed to an idle store (R97, R102, R109) -/

/-- The head of the Local Intake leaves its FIFO for the loader's decisions. -/
def State.leaveLf (s : State) : State := ({ s with store := { s.store with lfWaiting := none } } : State).popFifo .lf

section
variable {s : State} {w : ClipWrite}

theorem State.grantLf_unexpected
    (h : (s.clipAt w.clip).state ≠ .loading ∨ (s.clipAt w.clip).memberCount.getD 0 ≤ w.position) :
    s.grantLf w = { s.leaveLf with clipUnexpected := satAdd s.clipUnexpected 1 } := by
  refine if_neg fun expected => ?_
  have within := of_decide_eq_true expected.2
  exact h.elim (absurd expected.1) (absurd within ∘ Nat.not_lt.2)

variable (loading : (s.clipAt w.clip).state = .loading) (within : w.position < (s.clipAt w.clip).memberCount.getD 0)
include loading within

theorem State.grantLf_lost
    (hnext : nextClipBlock s.store.setting s.store.free ((s.clipAt w.clip).memberAt w.position) = none) :
    s.grantLf w = s.leaveLf.setClip w.clip { s.clipAt w.clip with lost := satAdd (s.clipAt w.clip).lost 1 } := by
  refine (if_pos ⟨loading, decide_eq_true within⟩).trans ?_
  rw [hnext]
  rfl

theorem State.grantLf_appends {m : ClipMember} {free : List Nat} {block : Nat}
    (hnext : nextClipBlock s.store.setting s.store.free ((s.clipAt w.clip).memberAt w.position) = some (m, free, block)) :
    s.grantLf w =
      ({ s.leaveLf with store := { s.leaveLf.store with
          free := free
          access := some (.write block (.clipCell w.cell)) } } : State).setClip w.clip
        { s.clipAt w.clip with
          check := clipCheck (s.clipAt w.clip).check w.cell.payload
          members := setRow (s.clipAt w.clip).members w.position { m with count := m.count + 1 } } := by
  refine (if_pos ⟨loading, decide_eq_true within⟩).trans ?_
  rw [hnext]
  rfl

end

/-- A clip cell waits for the grant of its write (R94). -/
def State.waitLf (s : State) (w : ClipWrite) : State := { s with store := { s.store with lfWaiting := some w } }

/-- Once the cell at the head was granted, the store has no clip cell waiting, as it had none before. -/
theorem State.leaveLf_waitLf {s : State} {cell : Cell} {rest : List Cell} (hfifo : s.lf.fifo = cell :: rest)
    (hlf : s.store.lfWaiting = none) (w : ClipWrite) : (s.waitLf w).leaveLf = { s with lf := { s.lf with fifo := rest } } := by
  have store : ({ s.store with lfWaiting := none } : CellStore) = s.store := by rw [← hlf]
  have fifo : s.lf.fifo.tail = rest := by rw [hfifo]; rfl
  subst fifo
  exact congrArg (fun c => ({ s with lf := { s.lf with fifo := s.lf.fifo.tail }, store := c } : State)) store

/-- A local DATA cell at the head of an idle store's intake is granted at once (R102). -/
theorem exec_clipHead {s : State} {cell : Cell} {rest : List Cell} {c m : Nat} (hfifo : s.lf.fifo = cell :: rest)
    (hkind : cell.header.kind = .data) (hc : c < 64) (hm : m < 4) (hlane : cell.header.lane.toNat = 64 * m + c)
    (hidle : s.store.access = none) (hread : s.store.readWaiting = none) (hnf : s.store.nfWaiting = none)
    (hlf : s.store.lfWaiting = none) :
    exec (.intakeHeadHandoff .lf) s = .next ((s.waitLf ⟨c, m, cell⟩).grantLf ⟨c, m, cell⟩) := by
  have handed : exec (.intakeHeadHandoff .lf) s = .next (s.handClipCell cell) :=
    (execIntakeHeadHandoff_head (p := .lf) hfifo (by simp [State.headWaits, hlf])).trans
      (by rw [State.handHead_localData hkind])
  have place : cell.header.lane.toNat % 64 = c ∧ cell.header.lane.toNat / 64 = m := by omega
  have waits : s.handClipCell cell = (s.waitLf ⟨c, m, cell⟩).arbitrate := by
    rw [State.handClipCell, if_pos (by omega), place.1, place.2]
    rfl
  rw [handed, waits, State.arbitrate_lf (s := s.waitLf ⟨c, m, cell⟩) hidle hread hnf rfl]

/-- Settles O27, by what the loader finds: no such member, a place in the last extent, a free extent, or neither. -/
theorem clipCellTakesTheNextBlock : Obligations.ClipCellTakesTheNextBlock := by
  intro s cell rest c m hfifo hkind hc hm hlane hidle hread hnf hlf r x
  have handed := exec_clipHead hfifo hkind hc hm hlane hidle hread hnf hlf
  have left := State.leaveLf_waitLf hfifo hlf ⟨c, m, cell⟩
  have unexpectedly := State.grantLf_unexpected (s := s.waitLf ⟨c, m, cell⟩) (w := ⟨c, m, cell⟩)
  have appends := @State.grantLf_appends (s.waitLf ⟨c, m, cell⟩) ⟨c, m, cell⟩
  have loses := @State.grantLf_lost (s.waitLf ⟨c, m, cell⟩) ⟨c, m, cell⟩
  refine ⟨fun unexpected => ?_, fun loading within => ⟨fun last f hlast hfill hf => ?_, fun n free hfull hfree => ?_,
    fun hfull hfree => ?_⟩⟩
  · rw [handed, unexpectedly unexpected, left]
    rfl
  · rw [handed, appends loading within (nextClipBlock_fills hlast hfill hf), left]
    rfl
  · have next : nextClipBlock s.store.setting s.store.free x = some ({ x with extents := x.extents ++ [n], fill := some 1 }, free,
        emissionBlocks s.store.setting + 1024 * n) := (nextClipBlock_extends hfull).trans (by rw [hfree])
    rw [handed, appends loading within next, left]
    rfl
  · have next : nextClipBlock s.store.setting s.store.free x = none := (nextClipBlock_extends hfull).trans (by rw [hfree])
    rw [handed, loses loading within next, left]
    rfl

end Sys2Proof.Machine

namespace Sys2Proof.Machine

/-! ### A replaced record (R96, R118, R149, R151) -/

section
variable {s : State} {e m : Nat}

/-- The state after a member's cell at the cursor was played (R118, R149). -/
def State.playCell (s : State) (e m : Nat) : State :=
  let c := (s.eventAt e).given.clip
  let x := (s.clipAt c).memberAt m
  let played := s.setClip c ((s.clipAt c).setMember m { x with cursor := x.cursor + 1 })
  ({ played with store := played.store.dropStaged (fun i => decide (i = .clipCell c m x.cursor)) } : State).setEvent e
    { s.eventAt e with replaced := satAdd (s.eventAt e).replaced 1 }

theorem State.replaceRecord_plays (has : (s.clipAt (s.eventAt e).given.clip).hasMember m = true)
    (unplayed : ((s.clipAt (s.eventAt e).given.clip).memberAt m).cursor <
      ((s.clipAt (s.eventAt e).given.clip).memberAt m).count) {cell : Cell}
    (content : s.store.content (clipCellBlock s.store.setting ((s.clipAt (s.eventAt e).given.clip).memberAt m)
      ((s.clipAt (s.eventAt e).given.clip).memberAt m).cursor) = some (.clipCell cell)) :
    s.replaceRecord e m = (s.playCell e m, .replaced cell) := by
  refine (if_pos has).trans ((if_pos unplayed).trans ?_)
  rw [content]
  rfl

theorem State.replaceRecord_short (has : (s.clipAt (s.eventAt e).given.clip).hasMember m = true)
    (exhausted : ((s.clipAt (s.eventAt e).given.clip).memberAt m).count ≤
      ((s.clipAt (s.eventAt e).given.clip).memberAt m).cursor) :
    s.replaceRecord e m = ((s.setEvent e { s.eventAt e with short := satAdd (s.eventAt e).short 1 }).countEm
      (fun k => { k with clipShort := satAdd k.clipShort 1 }), .short) :=
  (if_pos has).trans (if_neg (Nat.not_lt.2 exhausted))

theorem State.memberAt_playCell (hc : (s.eventAt e).given.clip < 64) (hm : m < 4) :
    ((s.playCell e m).clipAt (s.eventAt e).given.clip).memberAt m =
      { (s.clipAt (s.eventAt e).given.clip).memberAt m with
        cursor := ((s.clipAt (s.eventAt e).given.clip).memberAt m).cursor + 1 } := by
  have clip : (s.playCell e m).clipAt (s.eventAt e).given.clip = (s.clipAt (s.eventAt e).given.clip).setMember m
      { (s.clipAt (s.eventAt e).given.clip).memberAt m with
        cursor := ((s.clipAt (s.eventAt e).given.clip).memberAt m).cursor + 1 } :=
    (State.clipAt_setClip s _ _ _).trans (if_pos ⟨rfl, hc⟩)
  rw [clip, ClipRecord.memberAt_setMember, if_pos ⟨rfl, hm⟩]

end

/-- Settles O35, by whether the member has a cell left. -/
theorem replacementTakesTheNextCell : Obligations.ReplacementTakesTheNextCell := by
  rintro s e m c he hm hc rfl within x
  have has : (s.clipAt (s.eventAt e).given.clip).hasMember m = true := decide_eq_true within
  refine ⟨fun cell unplayed content => ?_, fun exhausted => State.replaceRecord_short has exhausted⟩
  rw [State.replaceRecord_plays has unplayed content]
  exact ⟨rfl, State.memberAt_playCell hc hm, (State.eventAt_setEvent _ _ _ _).trans (if_pos ⟨rfl, he⟩), rfl, rfl⟩

end Sys2Proof.Machine

namespace Sys2Proof.Machine

/-! ### The item a staging read is presented for (R102, R104) -/

section
variable {s : State} {c m : Nat}

/-- The part after the records of a list went through the Splice Switch in order (R104, R140). -/
def State.passRecords (s : State) (l : List Record) : State := l.foldl (fun t r => (t.switchRecord r).1) s

/-- The record at a place of a list takes the next cell of a clip member, and none before it does (R104, R149). -/
def State.takesCell (s : State) (c m : Nat) (l : List Record) (n : Nat) : Prop :=
  n < l.length ∧ (∀ j ≤ n, (s.passRecords (l.take j)).cursorAt c m = s.cursorAt c m) ∧
    (s.passRecords (l.take (n + 1))).cursorAt c m = s.cursorAt c m + 1

theorem State.takesCell_zero (r : Record) (rest : List Record) :
    s.takesCell c m (r :: rest) 0 ↔ (s.switchRecord r).1.cursorAt c m = s.cursorAt c m + 1 := by
  simp [State.takesCell, State.passRecords]

/-- Behind a record that leaves the cursor, the rest of the list takes the cell where it does from there. -/
theorem State.takesCell_succ (r : Record) (rest : List Record) (n : Nat) : s.takesCell c m (r :: rest) (n + 1) ↔
    (s.switchRecord r).1.cursorAt c m = s.cursorAt c m ∧ (s.switchRecord r).1.takesCell c m rest n := by
  have passed : ∀ j, s.passRecords ((r :: rest).take (j + 1)) = (s.switchRecord r).1.passRecords (rest.take j) := fun _ => rfl
  unfold State.takesCell
  rw [passed, List.length_cons, Nat.succ_lt_succ_iff]
  constructor
  · rintro ⟨hn, stays, takes⟩
    have first : (s.switchRecord r).1.cursorAt c m = s.cursorAt c m := stays 1 (Nat.le_add_left _ _)
    exact ⟨first, hn, fun j hj => (stays (j + 1) (Nat.succ_le_succ hj)).trans first.symm, takes.trans (by rw [first])⟩
  · rintro ⟨first, hn, stays, takes⟩
    refine ⟨hn, fun j hj => ?_, takes.trans (by rw [first])⟩
    cases j with
    | zero => rfl
    | succ j => exact (stays j (Nat.le_of_succ_le_succ hj)).trans first

theorem State.cellPlace_iff (l : List Record) (place k : Nat) :
    s.cellPlace c m place l = some k ↔ ∃ n, k = place + n ∧ s.takesCell c m l n := by
  induction l generalizing s place with
  | nil => simp [State.cellPlace, State.takesCell]
  | cons r rest ih =>
    unfold State.cellPlace
    dsimp only
    split
    · rename_i stays
      rw [ih]
      constructor
      · rintro ⟨n, rfl, takes⟩
        exact ⟨n + 1, by omega, (State.takesCell_succ r rest n).2 ⟨stays, takes⟩⟩
      · rintro ⟨n, rfl, takes⟩
        cases n with
        | zero =>
          have moved := (State.takesCell_zero r rest).1 takes
          omega
        | succ n => exact ⟨n, by omega, ((State.takesCell_succ r rest n).1 takes).2⟩
    · rename_i moves
      have later : ∀ n, ¬s.takesCell c m (r :: rest) (n + 1) := fun n takes =>
        moves ((State.takesCell_succ r rest n).1 takes).1
      split
      · rename_i takes
        constructor
        · rintro ⟨⟩
          exact ⟨0, rfl, (State.takesCell_zero r rest).2 takes⟩
        · rintro ⟨n, rfl, takes⟩
          cases n with
          | zero => rfl
          | succ n => exact absurd takes (later n)
      · rename_i skips
        refine ⟨nofun, ?_⟩
        rintro ⟨n, rfl, takes⟩
        cases n with
        | zero => exact absurd ((State.takesCell_zero r rest).1 takes) skips
        | succ n => exact absurd takes (later n)

theorem State.usePlace_clipCell_iff (n : Nat) : s.usePlace (.clipCell c m) = some n ↔ s.takesCell c m s.queue n := by
  rw [State.usePlace, State.cellPlace_iff]
  simp

/-- The record at a place of the queue is neither staged, being read, nor being written (R104). -/
def State.unstaged (s : State) (i : Nat) : Prop :=
  s.store.holds (.record (s.store.recordBlock i)) = false ∧ s.store.writing (s.store.recordBlock i) = false

theorem State.unstagedPlace_iff (i : Nat) :
    s.unstagedPlace = some i ↔ i < 64 ∧ i < s.queue.length ∧ s.unstaged i ∧ ∀ j < i, ¬s.unstaged j := by
  have idle : ∀ j, (!s.store.holds (.record (s.store.recordBlock j)) && !s.store.writing (s.store.recordBlock j)) = true ↔
      s.unstaged j := fun j => by simp [State.unstaged]
  simp only [State.unstagedPlace, List.find?_range_eq_some, List.mem_range, Nat.lt_min, Bool.not_eq_true', ← Bool.not_eq_true, idle]
  tauto

/-- The next cell of a member of a CUED or PLAYING clip is not staged (R104). -/
def State.wantsCell (s : State) (c m : Nat) : Prop :=
  ((s.clipAt c).state = .cued ∨ (s.clipAt c).state = .playing) ∧ m < (s.clipAt c).memberCount.getD 0 ∧
    s.cursorAt c m < ((s.clipAt c).memberAt m).count ∧ s.store.holds (.clipCell c m (s.cursorAt c m)) = false

/-- The read of a clip cell that may be staged (R104, R118). -/
def State.cellRead (s : State) (c m : Nat) : ReadRequest :=
  ⟨.clipCell c m (s.cursorAt c m), clipCellBlock s.store.setting ((s.clipAt c).memberAt m) (s.cursorAt c m)⟩

theorem State.clipRead_of_wants (h : s.wantsCell c m) : s.clipRead c m = some (s.cellRead c m) := by
  obtain ⟨state, within, unplayed, unstaged⟩ := h
  refine (if_pos ⟨state, decide_eq_true within, unplayed⟩).trans (if_neg ?_)
  exact Bool.eq_false_iff.1 unstaged

theorem State.wants_of_clipRead (h : (s.clipRead c m).isSome) : s.wantsCell c m := by
  unfold State.clipRead at h
  dsimp only at h
  split at h
  · rename_i asked
    obtain ⟨state, within, unplayed⟩ := asked
    split at h
    · cases h
    · rename_i unstaged
      exact ⟨state, of_decide_eq_true within, unplayed, Bool.eq_false_iff.2 unstaged⟩
  · cases h

theorem usedSooner_iff (p q : Option Nat) : usedSooner p q = true ↔ ∃ i, p = some i ∧ ∀ j, q = some j → i < j := by
  cases p <;> cases q <;> simp [usedSooner]

theorem mem_stageChoices_clipCell (hc : c < 64) (hm : m < 4) : StageChoice.clipCell c m ∈ stageChoices :=
  .tail _ (List.mem_flatMap.2 ⟨c, List.mem_range.2 hc, List.mem_map.2 ⟨m, List.mem_range.2 hm, rfl⟩⟩)

theorem stageChoices_cases {x : StageChoice} (h : x ∈ stageChoices) :
    x = .nearestRecord ∨ ∃ c < 64, ∃ m < 4, x = .clipCell c m := by
  rcases List.mem_cons.1 h with rfl | h
  · exact .inl rfl
  · obtain ⟨c, hc, h⟩ := List.mem_flatMap.1 h
    obtain ⟨m, hm, rfl⟩ := List.mem_map.1 h
    exact .inr ⟨c, List.mem_range.1 hc, m, List.mem_range.1 hm, rfl⟩

variable {choice : StageChoice}

/-- An item used sooner than the row's choice keeps it from being read (R104). -/
theorem State.stagingRead_none {other : StageChoice} (hmem : other ∈ stageChoices) (hread : (s.candidateRead other).isSome) {n : Nat}
    (hplace : s.usePlace other = some n) (sooner : ∀ j, s.usePlace choice = some j → n < j) : s.stagingRead choice = none := by
  refine if_pos (List.any_eq_true.2 ⟨other, hmem, ?_⟩)
  rw [hread, Bool.true_and]
  exact (usedSooner_iff _ _).2 ⟨n, hplace, sooner⟩

/-- With no record and no cell used sooner, the row's choice is read (R104). -/
theorem State.stagingRead_soonest
    (record : ∀ i, s.unstagedPlace = some i → ∃ j, s.usePlace choice = some j ∧ j ≤ i)
    (cells : ∀ c < 64, ∀ m < 4, s.wantsCell c m → ∀ n, s.takesCell c m s.queue n → ∃ j, s.usePlace choice = some j ∧ j ≤ n) :
    s.stagingRead choice = s.candidateRead choice := by
  refine if_neg fun sooner => ?_
  obtain ⟨other, hmem, hsooner⟩ := List.any_eq_true.1 sooner
  obtain ⟨hread, hsooner⟩ := Bool.and_eq_true_iff.1 hsooner
  obtain ⟨n, hplace, before⟩ := (usedSooner_iff _ _).1 hsooner
  have first : ∃ j, s.usePlace choice = some j ∧ j ≤ n := by
    rcases stageChoices_cases hmem with rfl | ⟨c, hc, m, hm, rfl⟩
    · exact record n hplace
    · exact cells c hc m hm (State.wants_of_clipRead hread) n ((State.usePlace_clipCell_iff n).1 hplace)
  obtain ⟨j, hj, hle⟩ := first
  exact absurd (before j hj) (Nat.not_lt.2 hle)

/-- A read the Emitter presents waits for its grant (R94, R104). -/
def State.presentRead (s : State) (r : ReadRequest) : State := { s with store := { s.store with readWaiting := some r } }

variable (free : s.store.readWaiting = none)
include free

theorem exec_stagingRead_none (h : s.stagingRead choice = none) : exec (.emitterStagingRead choice) s = .next s := by
  have row : exec (.emitterStagingRead choice) s = execEmitterStagingRead choice s := rfl
  rw [row, execEmitterStagingRead, free, h]
  rfl

/-- A read presented is granted at once in an idle store, and waits in a busy one (R102). -/
theorem exec_stagingRead_some {r : ReadRequest} (h : s.stagingRead choice = some r) :
    (s.store.access = none →
      exec (.emitterStagingRead choice) s = .next { s with store := { s.store with access := some (.read r true) } }) ∧
    (s.store.access ≠ none →
      exec (.emitterStagingRead choice) s = .next { s with store := { s.store with readWaiting := some r } }) := by
  have presented : exec (.emitterStagingRead choice) s = .next (s.presentRead r).arbitrate := by
    have row : exec (.emitterStagingRead choice) s = execEmitterStagingRead choice s := rfl
    rw [row, execEmitterStagingRead, free, h]
    rfl
  refine ⟨fun idle => ?_, fun busy => ?_⟩
  · rw [presented, State.arbitrate_read (s := s.presentRead r) idle rfl, ← free]
    rfl
  · obtain ⟨a, ha⟩ := Option.ne_none_iff_exists'.1 busy
    rw [presented, State.arbitrate_busy (s := s.presentRead r) ha]
    rfl

end

/-- Settles O28: the uses the queue shows are the places at which a record is the head and a cell is taken. -/
theorem stagingReadsAhead : Obligations.StagingReadsAhead := by
  intro s free cursor passed takes wants idle nearest ask
  have place_iff : ∀ {c m n}, s.usePlace (.clipCell c m) = some n ↔ takes c m n := State.usePlace_clipCell_iff _
  have nearest_iff : ∀ {i}, s.unstagedPlace = some i ↔ nearest i := State.unstagedPlace_iff _
  have cell : ∀ {c m}, wants c m → s.candidateRead (.clipCell c m) = some (s.cellRead c m) := by
    rintro c m ⟨-, -, state, within, unplayed, unstaged⟩
    exact State.clipRead_of_wants ⟨state, within, unplayed, unstaged⟩
  have member : ∀ {c m}, wants c m → StageChoice.clipCell c m ∈ stageChoices :=
    fun ⟨hc, hm, _⟩ => mem_stageChoices_clipCell hc hm
  have record : ∀ {i}, nearest i → s.candidateRead .nearestRecord =
      some ⟨.record (s.store.recordBlock i), s.store.recordBlock i⟩ := fun hi => by
    rw [State.candidateRead, nearest_iff.2 hi]
    rfl
  refine ⟨fun i hi first => ?_, fun c m hw beforeRecord beforeCells => ?_, fun i c m n hi hw taken sooner => ?_,
    fun c m i hw hi sooner => ?_, fun c m c' m' n' hw hw' taken sooner => ?_⟩
  · refine exec_stagingRead_some free ((State.stagingRead_soonest (fun j hj => ?_) fun c hc m hm hw n hn => ?_).trans (record hi))
    · exact ⟨j, hj, le_rfl⟩
    · exact ⟨i, nearest_iff.2 hi, first c m n ⟨hc, hm, hw⟩ hn⟩
  · refine exec_stagingRead_some free ((State.stagingRead_soonest (fun i hi => ?_) fun c' hc m' hm hw' n hn => ?_).trans (cell hw))
    · obtain ⟨n, taken, hle⟩ := beforeRecord i (nearest_iff.1 hi)
      exact ⟨n, place_iff.2 taken, hle⟩
    · obtain ⟨j, taken, hle⟩ := beforeCells c' m' n ⟨hc, hm, hw'⟩ hn
      exact ⟨j, place_iff.2 taken, hle⟩
  · refine exec_stagingRead_none free (State.stagingRead_none (member hw) (by rw [cell hw]; rfl) (place_iff.2 taken) fun j hj => ?_)
    have same : i = j := Option.some.inj ((nearest_iff.2 hi).symm.trans hj)
    exact same ▸ sooner
  · exact exec_stagingRead_none free (State.stagingRead_none (.head _) (by rw [record hi]; rfl) (nearest_iff.2 hi)
      fun j hj => sooner j (place_iff.1 hj))
  · exact exec_stagingRead_none free (State.stagingRead_none (member hw') (by rw [cell hw']; rfl) (place_iff.2 taken)
      fun j hj => sooner j (place_iff.1 hj))

end Sys2Proof.Machine

namespace Sys2Proof.Machine

/-! ### CLIP OPEN, CLIP REMOVE and CLIP CLOSE (R113 to R115) -/

section
variable {s : State} {c : Command}

theorem clipOpenBody_badArgument (h : 63 < c.clipArg ∨ c.memberCountArg = 0 ∨ 4 < c.memberCountArg) :
    clipOpenBody c s = s.reply c .badArgument [] := by
  unfold clipOpenBody
  dsimp only
  split
  · rfl
  · rename_i inTable
    exact if_pos (h.resolve_left inTable)

theorem clipOpenBody_inRange (hclip : c.clipArg ≤ 63) (hcount : 1 ≤ c.memberCountArg ∧ c.memberCountArg ≤ 4) :
    clipOpenBody c s =
      if (s.clipAt c.clipArg).state = .empty then
        (s.setClip c.clipArg ((s.clipAt c.clipArg).opened c.memberCountArg c.origin)).reply c .ok
          ((s.setClip c.clipArg ((s.clipAt c.clipArg).opened c.memberCountArg c.origin)).openData c.clipArg)
      else s.reply c .wrongState (s.openData c.clipArg) :=
  (if_neg (Nat.not_lt.2 hclip)).trans (if_neg (by omega))

theorem State.openData_opened (hclip : c.clipArg ≤ 63) (k : Nat) (o : Origin) :
    (s.setClip c.clipArg ((s.clipAt c.clipArg).opened k o)).openData c.clipArg =
      [BitVec.ofNat 8 c.clipArg, 1, BitVec.ofNat 8 k] ++ bytes2 s.store.free.length := by
  rw [State.openData, State.clipAt_setClip, if_pos ⟨rfl, by omega⟩]
  rfl

/-- What CLIP REMOVE reports of a clip whose extents it has freed (R99, R115). -/
theorem State.removeData_released {n : Nat} (hn : n ≤ 63) (k : Nat) : (s.releaseClip n).removeData n k =
    [BitVec.ofNat 8 n, 0] ++ bytes2 k ++ bytes2 (s.store.free.length + (s.clipAt n).allExtents.length) := by
  have free : (s.releaseClip n).store.free.length = s.store.free.length + (s.clipAt n).allExtents.length := List.length_append
  have clip : (s.releaseClip n).clipAt n = .blank := (State.clipAt_setClip _ _ _ _).trans (if_pos ⟨rfl, by omega⟩)
  rw [State.removeData, free, clip]
  rfl

theorem clipRemoveBody_releases (hclip : c.clipArg ≤ 63)
    (h : (s.clipAt c.clipArg).state = .loading ∨ (s.clipAt c.clipArg).state = .ready) :
    clipRemoveBody c s = (s.releaseClip c.clipArg).reply c .ok
      ((s.releaseClip c.clipArg).removeData c.clipArg (s.clipAt c.clipArg).allExtents.length) := by
  refine (if_neg (Nat.not_lt.2 hclip)).trans ?_
  rcases h with h | h <;> rw [h]

theorem clipRemoveBody_inUse (hclip : c.clipArg ≤ 63)
    (h : (s.clipAt c.clipArg).state = .cued ∨ (s.clipAt c.clipArg).state = .playing) :
    clipRemoveBody c s = s.reply c .inUse (s.removeData c.clipArg 0) := by
  refine (if_neg (Nat.not_lt.2 hclip)).trans ?_
  rcases h with h | h <;> rw [h]

theorem clipRemoveBody_empty (hclip : c.clipArg ≤ 63) (h : (s.clipAt c.clipArg).state = .empty) :
    clipRemoveBody c s = s.reply c .wrongState (s.removeData c.clipArg 0) := by
  refine (if_neg (Nat.not_lt.2 hclip)).trans ?_
  rw [h]

/-- The counts and the check value of a clip in the reply to CLIP CLOSE (R114). -/
def ClipRecord.closeReport (r : ClipRecord) (n : Nat) : List Byte :=
  bytes1 n ++ r.counts.flatMap bytes4 ++ bytes4 r.checkValue.toNat

theorem ClipRecord.closeReport_eq (r : ClipRecord) (n : Nat) : r.closeReport n =
    bytes1 n ++ bytes4 (r.memberAt 0).count ++ bytes4 (r.memberAt 1).count ++ bytes4 (r.memberAt 2).count ++
      bytes4 (r.memberAt 3).count ++ bytes4 (~~~r.check).toNat := rfl

theorem ClipRecord.agrees_iff (r : ClipRecord) (c : Command) : r.agrees c = true ↔
    read4 c.payload 11 = (r.memberAt 0).count ∧ read4 c.payload 15 = (r.memberAt 1).count ∧
    read4 c.payload 19 = (r.memberAt 2).count ∧ read4 c.payload 23 = (r.memberAt 3).count ∧
    readSecond c.payload 27 = ~~~r.check := by
  have counts : r.counts = [(r.memberAt 0).count, (r.memberAt 1).count, (r.memberAt 2).count, (r.memberAt 3).count] := rfl
  have given : c.closeCounts = [read4 c.payload 11, read4 c.payload 15, read4 c.payload 19, read4 c.payload 23] := rfl
  have check : c.closeCheck = readSecond c.payload 27 := rfl
  rw [ClipRecord.agrees, counts, given, check, ClipRecord.checkValue]
  simp only [Bool.and_eq_true, decide_eq_true_eq, List.cons.injEq, and_true, and_assoc, @eq_comm Nat, @eq_comm Word32]

theorem clipCloseBody_wrongState (hclip : c.clipArg ≤ 63) (h : (s.clipAt c.clipArg).state ≠ .loading) :
    clipCloseBody c s = s.reply c .wrongState [] :=
  (if_neg (Nat.not_lt.2 hclip)).trans (if_pos h)

theorem clipCloseBody_loading (hclip : c.clipArg ≤ 63) (h : (s.clipAt c.clipArg).state = .loading) :
    clipCloseBody c s =
      if (s.clipAt c.clipArg).agrees c then
        (s.setClip c.clipArg (s.clipAt c.clipArg).closed).reply c .ok ((s.clipAt c.clipArg).closeReport c.clipArg ++
          (List.range 4).flatMap (fun m => bytes2 ((s.clipAt c.clipArg).memberAt m).extents.length))
      else (s.releaseClip c.clipArg).reply c .checkFailed ((s.clipAt c.clipArg).closeReport c.clipArg ++
        bytes4 (s.clipAt c.clipArg).lost ++ bytes2 (s.clipAt c.clipArg).allExtents.length) :=
  (if_neg (Nat.not_lt.2 hclip)).trans (if_neg (not_not.2 h))

end

/-- Settles O48, command by command and by the clip's state. -/
theorem clipsOpenCloseAndGo : Obligations.ClipsOpenCloseAndGo := by
  refine ⟨⟨fun s c h => ?_, fun s c h => ?_⟩, fun s c h => ?_⟩
  · have answers : ∀ {t : State} {r data}, clipOpenBody c s.popCommand = t.popCommand.reply c r data →
        exec .clipOpen s = .next (t.answered c r data) := State.takeCommand_answered h
    refine ⟨fun bad => answers (clipOpenBody_badArgument bad), ?_⟩
    rintro n k rfl hclip rfl hpos hcount
    have body := clipOpenBody_inRange (s := s.popCommand) hclip ⟨hpos, hcount⟩
    refine ⟨fun empty => ?_, fun taken => ?_⟩
    · have acts := body.trans (if_pos empty)
      rw [State.openData_opened hclip] at acts
      exact answers (t := s.setClip c.clipArg ((s.clipAt c.clipArg).opened c.memberCountArg c.origin)) acts
    · exact answers (body.trans (if_neg taken))
  · have answers : ∀ {t : State} {r data}, clipRemoveBody c s.popCommand = t.popCommand.reply c r data →
        exec .clipRemove s = .next (t.answered c r data) := State.takeCommand_answered h
    refine ⟨fun beyond => answers (if_pos beyond), ?_⟩
    rintro n rfl hclip
    refine ⟨fun held => ?_, fun uses => ?_, fun empty => ?_⟩
    · have acts := clipRemoveBody_releases (s := s.popCommand) hclip held
      rw [State.removeData_released hclip] at acts
      exact answers (t := s.releaseClip c.clipArg) acts
    · exact answers ((clipRemoveBody_inUse (s := s.popCommand) hclip uses).trans rfl)
    · have data : s.popCommand.removeData c.clipArg 0 =
          [BitVec.ofNat 8 c.clipArg, 0, 0, 0] ++ bytes2 s.store.free.length := by
        rw [State.removeData, show (s.popCommand.clipAt c.clipArg).state = .empty from empty]
        rfl
      exact answers (data ▸ clipRemoveBody_empty (s := s.popCommand) hclip empty)
  · have answers : ∀ {t : State} {r data}, clipCloseBody c s.popCommand = t.popCommand.reply c r data →
        exec .clipClose s = .next (t.answered c r data) := State.takeCommand_answered h
    refine ⟨fun beyond => answers (if_pos beyond), ?_⟩
    rintro n rfl hclip r count report agreed
    have agrees : r.agrees c = true ↔ agreed := r.agrees_iff c
    refine ⟨fun other => answers (clipCloseBody_wrongState hclip other), fun loading agree => ?_, fun loading differ => ?_⟩
    · have acts := (clipCloseBody_loading (s := s.popCommand) hclip loading).trans (if_pos (agrees.2 agree))
      exact answers (t := s.setClip c.clipArg r.closed) acts
    · have acts := (clipCloseBody_loading (s := s.popCommand) hclip loading).trans (if_neg (mt agrees.1 differ))
      exact answers (t := s.releaseClip c.clipArg) acts

end Sys2Proof.Machine

namespace Sys2Proof.Machine

/-! ### The end of a splice, field by field (R119, R132, R137, R152) -/

theorem unplayed_eq (w : SwitchState) (c : ClipRecord) :
    let left (m : Nat) : Nat := if w.phaseAt m = .waiting then 0 else (c.memberAt m).count - (c.memberAt m).cursor
    unplayed w c = left 0 + left 1 + left 2 + left 3 := by
  simp [unplayed, List.range_succ, Nat.add_assoc]

/-- Of the Emitter the end of a splice changes the count of truncated clip cells alone (R90, R152, step 1). -/
theorem State.endSplice_emitter_eq (s : State) (e : Nat) (x : EventState) (c : EndingCause) :
    (s.endSplice e x c).emitter = { s.emitter with counters := { s.emitter.counters with
      clipTruncated := satAdd s.emitter.counters.clipTruncated
        (unplayed (s.switchAt (s.eventAt e).given.group) (s.clipAt (s.eventAt e).given.clip)) } } := by
  rw [State.endSplice_eq]
  simp [State.truncatedEnd, State.countEm, State.setGroup, State.setSwitch, State.setEvent]

/-- Settles O36, field by field from the laws of the end of a splice. -/
theorem endOfASplice : Obligations.EndOfASplice := by
  rintro s e g c final cause he hg - rfl rfl active playing w left n
  have truncated : unplayed w (s.clipAt (s.eventAt e).given.clip) = n := unplayed_eq _ _
  refine ⟨_, rfl, ?_, ?_, fun lane hlane => s.endSplice_owes e final cause hlane, s.endSplice_order e final cause, ?_, ?_, ?_,
    s.endSplice_notice e final cause⟩
  · rw [State.endSplice_eventAt, if_pos ⟨rfl, he⟩, State.truncatedRecord, truncated]
  · rw [State.endSplice_emitter_eq, truncated]
  · rw [State.endSplice_clipAt, if_pos ⟨rfl, .inr playing⟩]
    rfl
  · rw [State.endSplice_groupAt, if_pos ⟨rfl, hg⟩, if_pos active]
  · rw [State.endSplice_switchAt, if_pos ⟨rfl, hg⟩]
    rfl

end Sys2Proof.Machine

namespace Sys2Proof.Machine

/-! ### A record of an IDLE group (R118, R119, R132, R140 to R142, R149, R151) -/

section
variable {s : State} {g e m : Nat} {r : Record}

theorem State.switchRecord_pass (h : r.place = none) : s.switchRecord r = (s, .passed) := by
  rw [State.switchRecord, h]

theorem State.switchRecord_idle (hplace : r.place = some ⟨g, m⟩) (hidle : (s.groupAt g).state = .idle) :
    s.switchRecord r = s.onIdle g m r := by
  simp only [State.switchRecord, hplace, hidle]

theorem State.onIdle_inactive (h : (s.groupAt g).active = none) : s.onIdle g m r = (s, .passed) := by
  rw [State.onIdle, h]

theorem State.onIdle_active (h : (s.groupAt g).active = some e) :
    s.onIdle g m r =
      if m ≠ 0 ∨ r.qualifies = false then (s, .passed)
      else if r.nominal.earlier (s.eventAt e).given.inTime then (s, .passed)
      else if r.nominal.earlier (s.eventAt e).given.outTime then s.switchIn g e r
      else (s.finishEvent e .failed none (some .missed), .passed) := by
  rw [State.onIdle, h]

theorem State.onIdle_passes (hactive : (s.groupAt g).active = some e)
    (h : m ≠ 0 ∨ r.start = false ∨ r.safe = false ∨ r.nominal.earlier (s.eventAt e).given.inTime = true) :
    s.onIdle g m r = (s, .passed) := by
  have unqualified : r.qualifies = false ↔ r.start = false ∨ r.safe = false := Bool.and_eq_false_iff
  rw [State.onIdle_active hactive]
  split
  case isTrue => rfl
  case isFalse leader => exact if_pos (by tauto)

/-- A qualifying leader record no earlier than the in-time switches in, or finds the event missed (R141). -/
theorem State.onIdle_leader (hactive : (s.groupAt g).active = some e) (hm : m = 0) (hstart : r.start = true)
    (hsafe : r.safe = true) (hin : r.nominal.earlier (s.eventAt e).given.inTime = false) :
    s.onIdle g m r =
      if r.nominal.earlier (s.eventAt e).given.outTime then s.switchIn g e r
      else (s.finishEvent e .failed none (some .missed), .passed) := by
  have qualifies : r.qualifies = true := by rw [Record.qualifies, hstart, hsafe]; rfl
  rw [State.onIdle_active hactive, if_neg (by simp [hm, qualifies]), if_neg (by simp [hin])]

/-! What the replacement of a record leaves of the event and the clips. -/

theorem State.replaceRecord_eventAt (s : State) (e m k : Nat) :
    ∃ replaced short, (s.replaceRecord e m).1.eventAt k = { s.eventAt k with replaced := replaced, short := short } := by
  have own : ∀ (u : State) (n i : Nat), ∃ replaced short,
      (u.setEvent e { u.eventAt e with replaced := n, short := i }).eventAt k =
        { u.eventAt k with replaced := replaced, short := short } := fun u n i => by
    rw [State.eventAt_setEvent]
    split
    case isTrue h => obtain ⟨rfl, -⟩ := h; exact ⟨n, i, rfl⟩
    case isFalse => exact ⟨_, _, rfl⟩
  unfold State.replaceRecord
  dsimp only
  split
  · split
    · exact own s _ _
    · exact own s _ _
  · exact ⟨_, _, rfl⟩

theorem State.replaceRecord_clipState (s : State) (e m d : Nat) :
    ((s.replaceRecord e m).1.clipAt d).state = (s.clipAt d).state := by
  unfold State.replaceRecord
  dsimp only
  split
  · split
    · refine (congrArg ClipRecord.state (State.clipAt_setClip _ _ _ _)).trans ?_
      split
      case isTrue h => obtain ⟨rfl, -⟩ := h; rfl
      case isFalse => rfl
    · rfl
  · rfl

/-- A member of a clip, asked for a record's cell, gives the cell at its cursor, which advances, or none where it is exhausted: what the
record carries then, and the cursor, the event's counts and the Emitter's count of short cells in the state after (R118, R149, R151). -/
def State.Takes (s t : State) (carried : OnAir) (e c m : Nat) : Prop :=
  let x := (s.clipAt c).memberAt m
  (∀ cell, x.cursor < x.count →
    s.store.content (emissionBlocks s.store.setting + 1024 * x.extents.getD (x.cursor / 1024) 0 + x.cursor % 1024) =
      some (.clipCell cell) →
    carried = .replaced cell ∧ (t.clipAt c).memberAt m = { x with cursor := x.cursor + 1 } ∧
    (t.eventAt e).replaced = satAdd (s.eventAt e).replaced 1 ∧ (t.eventAt e).short = (s.eventAt e).short) ∧
  (x.count ≤ x.cursor →
    carried = .short ∧ (t.clipAt c).memberAt m = x ∧
    (t.eventAt e).short = satAdd (s.eventAt e).short 1 ∧ (t.eventAt e).replaced = (s.eventAt e).replaced ∧
    t.emitter.counters = { s.emitter.counters with clipShort := satAdd s.emitter.counters.clipShort 1 })

theorem State.replaceRecord_takes {c : Nat} (he : e < 32) (hm : m < 4) (hc : c < 64) (given : (s.eventAt e).given.clip = c)
    (within : m < (s.clipAt c).memberCount.getD 0) : s.Takes (s.replaceRecord e m).1 (s.replaceRecord e m).2 e c m := by
  obtain ⟨plays, exhausts⟩ := replacementTakesTheNextCell s e m c he hm hc given within
  refine ⟨fun cell unplayed content => ?_, fun exhausted => ?_⟩
  · obtain ⟨carries, member, counts, -, -⟩ := plays cell unplayed content
    rw [counts]
    exact ⟨carries, member, rfl, rfl⟩
  · have counts : (s.setEvent e { s.eventAt e with short := satAdd (s.eventAt e).short 1 }).eventAt e =
        { s.eventAt e with short := satAdd (s.eventAt e).short 1 } := (State.eventAt_setEvent _ _ _ _).trans (if_pos ⟨rfl, he⟩)
    rw [exhausts exhausted]
    exact ⟨rfl, rfl, (congrArg EventRecord.short counts :), (congrArg EventRecord.replaced counts :), rfl⟩

/-! The switch-in of the leader. -/

/-- The state in which a switch-in asks for its first cell: the event IN, the group SPLICED, the clip PLAYING, and the leader in CLIP
(R142). -/
def State.leaderIn (s : State) (g e : Nat) (r : Record) : State := (s.putOnAir g e r).enterClip g 0 r.outLane

theorem State.switchIn_eq_leaderIn (s : State) (g e : Nat) (r : Record) :
    s.switchIn g e r =
      (((s.leaderIn g e r).replaceRecord e 0).1.notifySplice e .armed, ((s.leaderIn g e r).replaceRecord e 0).2) :=
  State.switchIn_eq s g e r

theorem State.switchIn_eventAt (s : State) (g e : Nat) (r : Record) (k : Nat) :
    (s.switchIn g e r).1.eventAt k = ((s.leaderIn g e r).replaceRecord e 0).1.eventAt k := by
  simp [State.switchIn_eq_leaderIn, State.eventAt]

theorem State.switchIn_clipAt (s : State) (g e : Nat) (r : Record) (d : Nat) :
    (s.switchIn g e r).1.clipAt d = ((s.leaderIn g e r).replaceRecord e 0).1.clipAt d := by
  simp [State.switchIn_eq_leaderIn, State.clipAt]

/-- A SPLICE notice reports the state it is queued in (R137, R163). -/
theorem State.notifySplice_reports (s : State) (e : Nat) (b : EventState) :
    (s.notifySplice e b).control = s.control.withNotice s.clock .splice ((s.notifySplice e b).spliceNoticeData e b) := by
  rw [State.notifySplice, State.notify_eq]
  rfl

theorem State.switchIn_notice (s : State) (g e : Nat) (r : Record) :
    (s.switchIn g e r).1.control =
      s.control.withNotice s.clock .splice ((s.switchIn g e r).1.spliceNoticeData e .armed) := by
  have control : ((s.leaderIn g e r).replaceRecord e 0).1.control = s.control := by
    simp [State.leaderIn, State.putOnAir]
  have clock : ((s.leaderIn g e r).replaceRecord e 0).1.clock = s.clock := by
    simp [State.leaderIn, State.putOnAir]
  rw [State.switchIn_eq_leaderIn, State.notifySplice_reports, control, clock]

theorem State.leaderIn_eventAt (he : e < 32) :
    (s.leaderIn g e r).eventAt e = { s.eventAt e with state := .onAir, pIn := some r.nominal } := by
  have events : (s.leaderIn g e r).events = setRow s.events e { s.eventAt e with state := .onAir, pIn := some r.nominal } := rfl
  rw [State.eventAt, events, rowAt_setRow, if_pos ⟨rfl, he⟩]

theorem State.leaderIn_groupAt (hg : g < 16) : (s.leaderIn g e r).groupAt g = { s.groupAt g with state := .spliced } := by
  have groups : (s.leaderIn g e r).groups = setRow s.groups g { s.groupAt g with state := .spliced } := rfl
  rw [State.groupAt, groups, rowAt_setRow, if_pos ⟨rfl, hg⟩]

theorem State.leaderIn_clipAt (hc : (s.eventAt e).given.clip < 64) :
    (s.leaderIn g e r).clipAt (s.eventAt e).given.clip = { s.clipAt (s.eventAt e).given.clip with state := .playing } := by
  have clips : (s.leaderIn g e r).clips =
      setRow s.clips (s.eventAt e).given.clip { s.clipAt (s.eventAt e).given.clip with state := .playing } := rfl
  rw [State.clipAt, clips, rowAt_setRow, if_pos ⟨rfl, hc⟩]

/-- The switch state of a group whose leader enters CLIP at a record (R142). -/
def SwitchState.leaderIn (w : SwitchState) (r : Record) : SwitchState :=
  { w with pIn := some r.nominal, phases := setRow w.phases 0 .clip, lanes := setRow w.lanes 0 (some r.outLane) }

theorem SwitchState.phaseAt_leaderIn (w : SwitchState) (r : Record) (j : Nat) :
    (w.leaderIn r).phaseAt j = if 0 = j ∧ j < 4 then .clip else w.phaseAt j := rowAt_setRow _ _ _ _ _

theorem SwitchState.laneAt_leaderIn (w : SwitchState) (r : Record) (j : Nat) :
    (w.leaderIn r).laneAt j = if 0 = j ∧ j < 4 then some r.outLane else w.laneAt j := rowAt_setRow _ _ _ _ _

theorem State.leaderIn_switchAt (hg : g < 16) : (s.leaderIn g e r).switchAt g = (s.switchAt g).leaderIn r := by
  have onAir : (s.putOnAir g e r).switchAt g = { s.switchAt g with pIn := some r.nominal } :=
    (rowAt_setRow s.switch g g _ _).trans (if_pos ⟨rfl, hg⟩)
  have switch : (s.leaderIn g e r).switch = setRow (s.putOnAir g e r).switch g
      { (s.putOnAir g e r).switchAt g with
        phases := setRow ((s.putOnAir g e r).switchAt g).phases 0 .clip
        lanes := setRow ((s.putOnAir g e r).switchAt g).lanes 0 (some r.outLane) } := rfl
  rw [State.switchAt, switch, rowAt_setRow, if_pos ⟨rfl, hg⟩, onAir]
  rfl

theorem State.leaderIn_store (s : State) (g e : Nat) (r : Record) : (s.leaderIn g e r).store = s.store := by
  simp [State.leaderIn, State.putOnAir]

theorem State.leaderIn_emitter (s : State) (g e : Nat) (r : Record) : (s.leaderIn g e r).emitter = s.emitter := by
  simp [State.leaderIn, State.putOnAir]

theorem State.leaderIn_owes (hlane : r.outLane < 1024) : (s.leaderIn g e r).owes r.outLane = true :=
  (State.owes_owe _ _ _).trans (if_pos ⟨rfl, hlane⟩)

/-- What a switch-in makes of the event, the group, the clip, the leader and the lanes owed, whatever its record carries (R142). -/
theorem State.switchIn_schedule (he : e < 32) (hg : g < 16) (hc : (s.eventAt e).given.clip < 64) (hlane : r.outLane < 1024) :
    let t := (s.switchIn g e r).1
    (t.eventAt e).state = .onAir ∧ (t.eventAt e).pIn = some r.nominal ∧ (t.eventAt e).given = (s.eventAt e).given ∧
    t.groupAt g = { s.groupAt g with state := .spliced } ∧ (t.clipAt (s.eventAt e).given.clip).state = .playing ∧
    t.switchAt g = (s.switchAt g).leaderIn r ∧ t.owes r.outLane = true ∧
    t.control = s.control.withNotice s.clock .splice (t.spliceNoticeData e .armed) := by
  intro t
  obtain ⟨replaced, short, event⟩ := (s.leaderIn g e r).replaceRecord_eventAt e 0 e
  rw [State.leaderIn_eventAt he] at event
  have groups : t.groups = (s.leaderIn g e r).groups := by simp [t, State.switchIn_eq_leaderIn]
  have switch : t.switch = (s.leaderIn g e r).switch := by simp [t, State.switchIn_eq_leaderIn]
  have owed : t.owed = (s.leaderIn g e r).owed := by simp [t, State.switchIn_eq_leaderIn]
  have clip : (t.clipAt (s.eventAt e).given.clip).state = .playing := by
    rw [State.switchIn_clipAt, State.replaceRecord_clipState, State.leaderIn_clipAt hc]
  rw [State.switchIn_eventAt, event]
  refine ⟨rfl, rfl, rfl, ?_, clip, ?_, ?_, ?_⟩
  · rw [State.groupAt, groups]
    exact State.leaderIn_groupAt hg
  · rw [State.switchAt, switch]
    exact State.leaderIn_switchAt hg
  · rw [State.owes, owed]
    exact State.leaderIn_owes hlane
  · exact s.switchIn_notice g e r

/-- The first record of a splice asks member 0 (R142, R149). -/
theorem State.switchIn_takes (he : e < 32) (hc : (s.eventAt e).given.clip < 64)
    (within : 0 < (s.clipAt (s.eventAt e).given.clip).memberCount.getD 0) :
    s.Takes (s.switchIn g e r).1 (s.switchIn g e r).2 e (s.eventAt e).given.clip 0 := by
  have event := State.leaderIn_eventAt (s := s) (g := g) (r := r) he
  have clip := State.leaderIn_clipAt (s := s) (g := g) (r := r) hc
  have given : ((s.leaderIn g e r).eventAt e).given.clip = (s.eventAt e).given.clip := by rw [event]; rfl
  have taken := State.replaceRecord_takes (s := s.leaderIn g e r) (m := 0) he (by decide) hc given (by rwa [clip])
  have carried : (s.switchIn g e r).2 = ((s.leaderIn g e r).replaceRecord e 0).2 := by rw [State.switchIn_eq_leaderIn]
  have emitter : (s.switchIn g e r).1.emitter = ((s.leaderIn g e r).replaceRecord e 0).1.emitter := by
    simp [State.switchIn_eq_leaderIn]
  unfold State.Takes at taken ⊢
  rw [clip, event, State.leaderIn_store, State.leaderIn_emitter] at taken
  rw [State.switchIn_clipAt, State.switchIn_eventAt, carried, emitter]
  exact taken

end

/-- Settles O32, by the place of the record, the group's active event, and the record against the interval. -/
theorem recordOfAnIdleGroup : Obligations.RecordOfAnIdleGroup := by
  refine ⟨fun s r hplace => State.switchRecord_pass hplace, fun s r g m hplace hg hidle => ?_⟩
  rw [State.switchRecord_idle hplace hidle]
  refine ⟨State.onIdle_inactive, fun e hactive he hgroup hc hlane => ⟨State.onIdle_passes hactive, ?_, ?_⟩⟩
  · intro hm hstart hsafe hin hout
    rw [State.onIdle_leader hactive hm hstart hsafe hin, if_pos hout]
    obtain ⟨onAir, pIn, given, group, clip, switch, owes, notice⟩ := State.switchIn_schedule (r := r) he hg hc hlane
    refine ⟨_, rfl, onAir, pIn, given, group, clip, ?_, ?_, ?_, ?_, fun j hj => ?_, owes,
      State.switchIn_takes (g := g) (r := r) he hc, notice⟩ <;> rw [switch]
    · rfl
    · rfl
    · exact (SwitchState.phaseAt_leaderIn ..).trans (if_pos (by decide))
    · exact (SwitchState.laneAt_leaderIn ..).trans (if_pos (by decide))
    · exact (SwitchState.phaseAt_leaderIn ..).trans (if_neg fun h => hj h.1.symm)
  · intro hm hstart hsafe hin hout
    rw [State.onIdle_leader hactive hm hstart hsafe hin, if_neg (by simp [hout])]
    have event := State.finishEvent_eventAt s e e .failed none (some .missed)
    have group : (s.finishEvent e .failed none (some .missed)).groupAt g = { s.groupAt g with active := none } := by
      rw [State.finishEvent_groupAt, if_pos ⟨hgroup, hg, hactive⟩]
    rw [if_pos ⟨rfl, he⟩] at event
    refine ⟨_, rfl, event, by rw [group], by rw [group]; exact hidle, fun armed cued => ?_, State.finishEvent_notice ..,
      State.finishEvent_order .., ?_, ?_, ?_, ?_⟩
    · rw [State.finishEvent_clipAt, if_pos ⟨armed, rfl, .inl cued⟩]
      rfl
    all_goals simp

end Sys2Proof.Machine

namespace Sys2Proof.Machine

/-! ### One event taken up for arming (R128, R129, R132) -/

/-- The arming of a list of events changes the records of those events alone (R128). -/
theorem State.armAll_eventAt (l : List Nat) (s : State) {k : Nat} (hk : k ∉ l) :
    (l.foldl State.armEvent s).eventAt k = s.eventAt k := by
  induction l generalizing s with
  | nil => rfl
  | cons e l ih =>
    obtain ⟨other, later⟩ := List.ne_and_not_mem_of_not_mem_cons hk
    rw [List.foldl_cons, ih _ later, State.armEvent_eventAt, if_neg fun h => other h.1.symm]

section
variable {s : State} {e : Nat}

theorem State.armFailure_noLeader (lane : s.memberLane (s.eventAt e).given.group 0 = none) :
    s.armFailure e = some .noLeader := if_pos lane

theorem State.armFailure_groupBusy (lane : s.memberLane (s.eventAt e).given.group 0 ≠ none)
    (busy : (s.groupAt (s.eventAt e).given.group).active ≠ none) : s.armFailure e = some .groupBusy :=
  (if_neg lane).trans (if_pos busy)

theorem State.armFailure_clipNotReady (lane : s.memberLane (s.eventAt e).given.group 0 ≠ none)
    (idle : (s.groupAt (s.eventAt e).given.group).active = none)
    (clip : (s.clipAt (s.eventAt e).given.clip).state ≠ .ready) : s.armFailure e = some .clipNotReady :=
  (if_neg lane).trans ((if_neg (not_not.2 idle)).trans (if_pos clip))

theorem State.armFailure_eq_none (lane : s.memberLane (s.eventAt e).given.group 0 ≠ none)
    (idle : (s.groupAt (s.eventAt e).given.group).active = none)
    (clip : (s.clipAt (s.eventAt e).given.clip).state = .ready) : s.armFailure e = none :=
  (if_neg lane).trans ((if_neg (not_not.2 idle)).trans (if_neg (not_not.2 clip)))

/-- A PENDING event that fails at its arming and is not its group's active event: its record and the notice, its group and clip
left as they are (R129, R132, R137). -/
def State.FailsArming (s : State) (e : Nat) (why : FailReason) (t : State) : Prop :=
  t.eventAt e = s.failedRecord e why ∧
  t.groupAt (s.eventAt e).given.group = s.groupAt (s.eventAt e).given.group ∧
  t.clipAt (s.eventAt e).given.clip = s.clipAt (s.eventAt e).given.clip ∧
  t.control = s.control.withNotice s.clock .splice (t.spliceNoticeData e .pending)

theorem State.armEvent_failsArming (he : e < 32) (pending : (s.eventAt e).state = .pending)
    (other : (s.groupAt (s.eventAt e).given.group).active ≠ some e) {why : FailReason} (hfail : s.armFailure e = some why) :
    s.FailsArming e why (s.armEvent e) := by
  rw [State.armEvent_fails hfail]
  refine ⟨?_, ?_, ?_, ?_⟩
  · rw [State.finishEvent_eventAt, if_pos ⟨rfl, he⟩]
    rfl
  · rw [State.finishEvent_groupAt, if_neg fun h => other h.2.2]
  · rw [State.finishEvent_clipAt, if_neg fun h => by rw [pending] at h; cases h.1]
  · rw [State.finishEvent_notice, pending]

/-- An event that passes the checks becomes ARMED and its group's active event, with its clip CUED and no notice (R129). -/
theorem State.armEvent_arms (he : e < 32) (hg : (s.eventAt e).given.group < 16) (hc : (s.eventAt e).given.clip < 64)
    (hpass : s.armFailure e = none) :
    (s.armEvent e).eventAt e = { s.eventAt e with state := .armed } ∧
    (s.armEvent e).groupAt (s.eventAt e).given.group =
      { s.groupAt (s.eventAt e).given.group with active := some e } ∧
    (s.armEvent e).clipAt (s.eventAt e).given.clip = { s.clipAt (s.eventAt e).given.clip with
      state := .cued, members := (s.clipAt (s.eventAt e).given.clip).members.map (fun m => { m with cursor := 0 }) } ∧
    (s.armEvent e).control = s.control := by
  refine ⟨by rw [State.armEvent_eventAt, if_pos ⟨rfl, he⟩, hpass], ?_, ?_, ?_⟩ <;> rw [State.armEvent_eq, hpass]
  · exact (State.groupAt_setGroup _ _ _ _).trans (if_pos ⟨rfl, hg⟩)
  · exact (State.clipAt_setClip _ _ _ _).trans (if_pos ⟨rfl, hc⟩)
  · rfl

end

/-- Settles O37: the fold over the events due keeps what R128 says, and one event alone goes through the checks of R129 in order. -/
theorem eventArmingTakesUpTheDue : Obligations.EventArmingTakesUpTheDue := by
  intro s due
  refine ⟨s.armDue, rfl, s.armDue_done, (State.armAll_keeps s.dueForArming s).1,
    fun k hk => State.armAll_eventAt s.dueForArming s hk, fun e alone he pending hg hc => ?_⟩
  have single : s.armDue = s.armEvent e := congrArg (List.foldl State.armEvent s) alone
  rw [single]
  have fails := fun why => State.armEvent_failsArming (s := s) (why := why) he pending
  refine ⟨fun lane other => fails _ other (State.armFailure_noLeader lane),
    fun lane busy other => fails _ other (State.armFailure_groupBusy lane busy),
    fun lane idle clip => fails _ (by rw [idle]; nofun) (State.armFailure_clipNotReady lane idle clip),
    fun lane idle clip => State.armEvent_arms he hg hc (State.armFailure_eq_none lane idle clip)⟩

end Sys2Proof.Machine

namespace Sys2Proof.Machine

/-! ### SPLICE CANCEL (R132 to R134, R137) -/

/-- An event's entry to a final state and the discard of foreign commands do not meet (R132, R158). -/
theorem State.finishEvent_discardForeign (s : State) (e : Nat) (x : EventState) (c : Option EndingCause)
    (r : Option FailReason) : (s.finishEvent e x c r).discardForeign = s.discardForeign.finishEvent e x c r := by
  have discarded : ∀ t : State, t.discardForeign = t.withCommands (t.control.queue.dropWhile t.control.foreign) := fun _ => rfl
  obtain ⟨-, hqueue, hsite, -⟩ := s.finishEvent_notices e x c r
  rw [discarded, discarded, State.finishEvent_withCommands, hqueue, ControlUnit.foreign_congr hsite]

theorem State.cancelBarred_iff (s : State) (r : EventRecord) :
    s.cancelBarred r = true ↔
      r.state = .free ∨ r.given.origin = .network ∨ (s.groupAt r.given.group).localAllowed = false := by
  simp only [State.cancelBarred, Bool.or_eq_true, decide_eq_true_iff, Bool.not_eq_true', or_assoc]

theorem State.requestReturn_first {s : State} {e : Nat} (h : (s.eventAt e).returnRequested = false) :
    s.requestReturn e = s.setEvent e { s.eventAt e with returnRequested := true, returnTime := some s.nominalNow } :=
  if_neg (by simp [h])

/-- The first return time is kept (R134). -/
theorem State.requestReturn_again {s : State} {e : Nat} (h : (s.eventAt e).returnRequested = true) : s.requestReturn e = s :=
  if_pos h

theorem EventRecord.returnData_eq {r : EventRecord} {x : Time} (onAir : r.state = .onAir) (requested : r.returnRequested = true)
    (time : r.returnTime = some x) : r.returnData = [3, 1] ++ bytesTime x := by
  rw [EventRecord.returnData, onAir, requested, time]
  rfl

/-- A SPLICE CANCEL names an event of the table and its origin may cancel it: checks 1 and 2 of R133. -/
structure State.mayCancel (s : State) (c : Command) : Prop where
  inTable : c.eventArg ≤ 31
  allowed : ¬(c.origin = .localFeed ∧ s.cancelBarred (s.eventAt c.eventArg) = true)

section
variable {s : State} {c : Command}

theorem spliceCancelBody_badArgument (h : 31 < c.eventArg) :
    spliceCancelBody c s = s.reply c .badArgument (bytes1 c.eventArg) := if_pos h

theorem spliceCancelBody_barred (inTable : c.eventArg ≤ 31)
    (h : c.origin = .localFeed ∧ s.cancelBarred (s.eventAt c.eventArg) = true) :
    spliceCancelBody c s = s.reply c .notPermitted (bytes1 c.eventArg) :=
  (if_neg (Nat.not_lt.2 inTable)).trans (if_pos h)

variable (may : s.mayCancel c)
include may

theorem spliceCancelBody_wrongState (h : (s.eventAt c.eventArg).state = .free ∨ (s.eventAt c.eventArg).state = .done ∨
      (s.eventAt c.eventArg).state = .failed ∨ (s.eventAt c.eventArg).state = .cancelled) :
    spliceCancelBody c s =
      s.reply c .wrongState (bytes1 c.eventArg ++ bytes1 (s.eventAt c.eventArg).state.code) := by
  refine (if_neg (Nat.not_lt.2 may.inTable)).trans ((if_neg may.allowed).trans ?_)
  rcases h with h | h | h | h <;> simp only [h]

theorem spliceCancelBody_onAir (h : (s.eventAt c.eventArg).state = .onAir) :
    spliceCancelBody c s = (s.requestReturn c.eventArg).reply c .ok
      ((s.requestReturn c.eventArg).eventAt c.eventArg).returnData := by
  refine (if_neg (Nat.not_lt.2 may.inTable)).trans ((if_neg may.allowed).trans ?_)
  rw [h]

theorem spliceCancelBody_cancels
    (h : (s.eventAt c.eventArg).state = .pending ∨ (s.eventAt c.eventArg).state = .armed) :
    spliceCancelBody c s = (s.reply c .ok [6]).finishEvent c.eventArg .cancelled (some .command) none := by
  refine (if_neg (Nat.not_lt.2 may.inTable)).trans ((if_neg may.allowed).trans ?_)
  rcases h with h | h <;> rw [h] <;> rfl

end

/-- A granted SPLICE CANCEL of a PENDING or ARMED event: the event's entry to CANCELLED stands behind the reply (R133). -/
theorem exec_spliceCancel_cancels {s : State} {c : Command} (h : s.grants .spliceCancel c) (may : s.mayCancel c)
    (live : (s.eventAt c.eventArg).state = .pending ∨ (s.eventAt c.eventArg).state = .armed) :
    exec .spliceCancel s = .next ((s.answered c .ok [6]).finishEvent c.eventArg .cancelled (some .command) none) := by
  have granted : exec .spliceCancel s = .next (spliceCancelBody c s.popCommand).discardForeign :=
    State.takeCommand_granted spliceCancelBody h
  have body := spliceCancelBody_cancels (s := s.popCommand) ⟨may.inTable, may.allowed⟩ live
  rw [granted, body, State.finishEvent_discardForeign, State.reply_answered]

/-- Settles O50: the checks in their order, then by the event's state. -/
theorem spliceCancelActsByState : Obligations.SpliceCancelActsByState := by
  rintro s c e h rfl r barred
  have answers : ∀ {t : State} {result data}, spliceCancelBody c s.popCommand = t.popCommand.reply c result data →
      exec .spliceCancel s = .next (t.answered c result data) := State.takeCommand_answered (body := spliceCancelBody) h
  have bars : (c.origin = .localFeed ∧ s.cancelBarred r = true) ↔ barred := and_congr_right' (s.cancelBarred_iff r)
  refine ⟨fun beyond => answers (spliceCancelBody_badArgument beyond),
    fun inTable refused => answers (spliceCancelBody_barred inTable (bars.2 refused)), fun inTable allowed => ?_⟩
  have may : s.mayCancel c := ⟨inTable, mt bars.1 allowed⟩
  have popped : s.popCommand.mayCancel c := ⟨may.inTable, may.allowed⟩
  have here : c.eventArg < 32 := Nat.lt_succ_of_le inTable
  refine ⟨fun ended => answers (spliceCancelBody_wrongState popped ended), fun onAir fresh => ?_,
    fun x onAir again time => ?_, fun live => ?_⟩
  · have body := spliceCancelBody_onAir popped onAir
    have record : (s.popCommand.setEvent c.eventArg { r with returnRequested := true, returnTime := some s.nominalNow }).eventAt
        c.eventArg = { r with returnRequested := true, returnTime := some s.nominalNow } := by
      rw [State.eventAt_setEvent, if_pos ⟨rfl, here⟩]
    rw [State.requestReturn_first (s := s.popCommand) fresh] at body
    refine answers (t := s.setEvent c.eventArg { r with returnRequested := true, returnTime := some s.nominalNow })
      (body.trans (congrArg _ ?_))
    exact (congrArg EventRecord.returnData record).trans (EventRecord.returnData_eq onAir rfl rfl)
  · have body := spliceCancelBody_onAir popped onAir
    rw [State.requestReturn_again (s := s.popCommand) again] at body
    exact answers (body.trans (congrArg _ (EventRecord.returnData_eq onAir again time)))
  · refine ⟨_, exec_spliceCancel_cancels h may live, ?_, fun k hk => ?_, State.finishEvent_order .., fun g => ?_, fun k => ?_,
      State.finishEvent_notice .., ?_⟩
    · exact (State.finishEvent_eventAt ..).trans (if_pos ⟨rfl, here⟩)
    · exact (State.finishEvent_eventAt ..).trans (if_neg fun own => hk own.1.symm)
    · refine (State.finishEvent_groupAt ..).trans (if_congr ?_ rfl rfl)
      exact and_congr_left' eq_comm
    · refine (State.finishEvent_clipAt ..).trans (if_congr ?_ rfl rfl)
      rw [and_left_comm, eq_comm (a := k)]
      rfl
    · simp [State.answered]

end Sys2Proof.Machine

namespace Sys2Proof.Machine

/-! ### A record of a SPLICED group (R53, R124, R140, R143 to R147) -/

/-- Of two different seconds the one is later exactly where it is not the earlier: 2^31 apart counts as earlier (R53). -/
theorem secondLater_eq_not_earlier {a b : Word32} (h : a ≠ b) : secondLater a b = !secondEarlier a b := by
  rw [Bool.eq_iff_iff, Bool.not_eq_true', ← Bool.not_eq_true, secondLater_iff, secondEarlier_iff]
  bv_omega

/-- A time is no earlier than another exactly where it is not earlier, 2^31 s apart too (R53, R124). -/
theorem Time.noEarlier_eq_not_earlier (t u : Time) : t.noEarlier u = !t.earlier u := by
  by_cases h : t.sec = u.sec
  · simp [Time.noEarlier, Time.earlier, secondLater, h, secondEarlier_self, ← decide_not]
  · simp [Time.noEarlier, Time.earlier, h, secondLater_eq_not_earlier h]

theorem Time.noEarlier_iff {t u : Time} : t.noEarlier u = true ↔ t.earlier u = false := by
  rw [Time.noEarlier_eq_not_earlier, Bool.not_eq_true']

/-! A member enters a phase: its row of the switch state, and its output lane among the lanes owed (R143, R145, R146). -/

/-- The switch state of a group one of whose members is in a new phase. -/
def SwitchState.enters (w : SwitchState) (m : Nat) (p : Phase) (lanes : Vector (Option Nat) 4) : SwitchState :=
  { w with phases := setRow w.phases m p, lanes := lanes }

/-- The state in which a member is in a new phase and its lane is owed the discontinuity flag. -/
def State.enters (s : State) (g m lane : Nat) (p : Phase) (lanes : Vector (Option Nat) 4) : State :=
  (s.setSwitch g ((s.switchAt g).enters m p lanes)).owe lane

section
variable {s : State} {g e m lane : Nat} {p : Phase} {lanes : Vector (Option Nat) 4} {r : Record}

theorem State.enterClip_eq_enters (s : State) (g m lane : Nat) :
    s.enterClip g m lane = s.enters g m lane .clip (setRow (s.switchAt g).lanes m (some lane)) := rfl

theorem State.enterBack_eq_enters (s : State) (g m lane : Nat) :
    s.enterBack g m lane = s.enters g m lane .back (s.switchAt g).lanes := rfl

theorem SwitchState.phaseAt_enters_self (w : SwitchState) (hm : m < 4) : (w.enters m p lanes).phaseAt m = p :=
  (rowAt_setRow _ _ _ _ _).trans (if_pos ⟨rfl, hm⟩)

theorem SwitchState.phaseAt_enters_other (w : SwitchState) {j : Nat} (hj : j ≠ m) :
    (w.enters m p lanes).phaseAt j = w.phaseAt j :=
  (rowAt_setRow _ _ _ _ _).trans (if_neg fun h => hj h.1.symm)

theorem State.enters_switchAt (hg : g < 16) :
    (s.enters g m lane p lanes).switchAt g = (s.switchAt g).enters m p lanes :=
  (State.switchAt_setSwitch _ _ _ _).trans (if_pos ⟨rfl, hg⟩)

theorem State.enters_owes (hlane : lane < 1024) : (s.enters g m lane p lanes).owes lane = true :=
  (State.owes_owe _ _ _).trans (if_pos ⟨rfl, hlane⟩)

/-! The end condition of a splice (R147). -/

theorem State.endIfBack_eq_or (s : State) (g e : Nat) :
    s.endIfBack g e = s.endSplice e .done (s.eventAt e).ownCause ∨ s.endIfBack g e = s := ite_eq_or_eq _ _ _

theorem State.endIfBack_ends (leader : (s.switchAt g).phaseAt 0 = .back)
    (none_in : ∀ j, 1 ≤ j → j ≤ 3 → (s.switchAt g).phaseAt j ≠ .clip) :
    s.endIfBack g e = s.endSplice e .done (s.eventAt e).ownCause :=
  if_pos ⟨leader, none_in 1 (by decide) (by decide), none_in 2 (by decide) (by decide), none_in 3 (by decide) (by decide)⟩

theorem State.endIfBack_stays
    (h : (s.switchAt g).phaseAt 0 ≠ .back ∨ ∃ j, 1 ≤ j ∧ j ≤ 3 ∧ (s.switchAt g).phaseAt j = .clip) : s.endIfBack g e = s := by
  refine if_neg ?_
  rintro ⟨leader, first, second, third⟩
  obtain forward | ⟨j, hj, hj', inClip⟩ := h
  · exact forward leader
  · obtain rfl | rfl | rfl : j = 1 ∨ j = 2 ∨ j = 3 := by omega
    · exact first inClip
    · exact second inClip
    · exact third inClip

/-! The Splice Switch hands the record over by its place in the group (R140). -/

theorem State.lt_of_active (h : (s.groupAt g).active = some e) : g < 16 := by
  by_contra beyond
  have blank : s.groupAt g = .afterReset := rowAt_of_le _ _ _ (Nat.not_lt.1 beyond)
  rw [blank] at h
  cases h

theorem State.switchRecord_spliced (hplace : r.place = some ⟨g, m⟩) (hspliced : (s.groupAt g).state = .spliced)
    (hactive : (s.groupAt g).active = some e) :
    s.switchRecord r = if m = 0 then s.onLeader g e r else s.onMember g e m r := by
  simp only [State.switchRecord, hplace, hspliced, hactive]

/-! A record of member 1 to 3, by the member's phase (R143, R146). -/

/-- A WAITING member stays so after the leader's switch-out, where the clip has no such member, and before the point of the switch-in
(R143). -/
theorem State.onMember_waiting_passes (hphase : (s.switchAt g).phaseAt m = .waiting)
    (h : (s.switchAt g).pOut ≠ none ∨ (s.clipAt (s.eventAt e).given.clip).memberCount.getD 0 ≤ m ∨ r.start = false ∨
      ∃ p, (s.switchAt g).pIn = some p ∧ r.nominal.earlier p = true) :
    s.onMember g e m r = (s, .passed) := by
  simp only [State.onMember, hphase]
  split
  next p out pIn =>
    refine if_neg ?_
    simp only [ClipRecord.hasMember, Bool.and_eq_true, decide_eq_true_iff, Time.noEarlier_iff]
    rintro ⟨⟨within, start⟩, late⟩
    obtain left | beyond | unmarked | ⟨q, hq, early⟩ := h
    · exact left out
    · omega
    · simp [unmarked] at start
    · obtain rfl : p = q := Option.some.inj (pIn.symm.trans hq)
      simp [late] at early
  next => rfl

/-- A WAITING member switches in at a start record no earlier than the point of the switch-in (R143). -/
theorem State.onMember_switchIn {p : Time} (hphase : (s.switchAt g).phaseAt m = .waiting) (hout : (s.switchAt g).pOut = none)
    (within : m < (s.clipAt (s.eventAt e).given.clip).memberCount.getD 0) (hstart : r.start = true)
    (hin : (s.switchAt g).pIn = some p) (late : r.nominal.noEarlier p = true) :
    s.onMember g e m r = (s.enterClip g m r.outLane).replaceRecord e m := by
  simp only [State.onMember, hphase, hout, hin]
  exact if_pos (by simp [ClipRecord.hasMember, within, hstart, late])

theorem State.onMember_clip_leaderIn (hphase : (s.switchAt g).phaseAt m = .clip) (hout : (s.switchAt g).pOut = none) :
    s.onMember g e m r = s.replaceRecord e m := by
  simp only [State.onMember, hphase, hout]

/-- A member in CLIP after the leader's switch-out is replaced before that point, and up to one second past it where the record does not
start a unit (R146). -/
theorem State.onMember_clip_leaderOut {p : Time} (hphase : (s.switchAt g).phaseAt m = .clip) (hout : (s.switchAt g).pOut = some p) :
    s.onMember g e m r =
      if r.nominal.earlier p then s.replaceRecord e m
      else if r.start || r.nominal.noEarlier (p.addSeconds 1) then
        ((s.enterBack g m r.outLane).endIfBack g e, .passed)
      else s.replaceRecord e m := by
  simp only [State.onMember, hphase, hout]

theorem State.onMember_back (hphase : (s.switchAt g).phaseAt m = .back) : s.onMember g e m r = (s, .passed) := by
  simp only [State.onMember, hphase]

/-- A member's switch-out leaves the phases of the other members, so that the end condition asks those of the state before (R147). -/
theorem State.enterBack_phaseAt_other (hg : g < 16) {j : Nat} (hj : j ≠ m) :
    ((s.enterBack g m lane).switchAt g).phaseAt j = (s.switchAt g).phaseAt j := by
  rw [State.enterBack_eq_enters, State.enters_switchAt hg, SwitchState.phaseAt_enters_other _ hj]

theorem State.enterBack_phaseAt_self (hg : g < 16) (hm : m < 4) : ((s.enterBack g m lane).switchAt g).phaseAt m = .back := by
  rw [State.enterBack_eq_enters, State.enters_switchAt hg, SwitchState.phaseAt_enters_self _ hm]

theorem State.memberOut_ends (hg : g < 16) (hm : m < 4) (other : m ≠ 0) (leader : (s.switchAt g).phaseAt 0 = .back)
    (none_in : ∀ j, 1 ≤ j → j ≤ 3 → j ≠ m → (s.switchAt g).phaseAt j ≠ .clip) :
    (s.enterBack g m lane).endIfBack g e =
      (s.enterBack g m lane).endSplice e .done (if (s.eventAt e).returnRequested then .earlyReturn else .outTime) := by
  refine State.endIfBack_ends ((State.enterBack_phaseAt_other hg other.symm).trans leader) fun j hj hj' => ?_
  by_cases self : j = m
  · rw [self, State.enterBack_phaseAt_self hg hm]
    decide
  · rw [State.enterBack_phaseAt_other hg self]
    exact none_in j hj hj' self

theorem State.memberOut_stays (hg : g < 16) (other : m ≠ 0)
    (h : (s.switchAt g).phaseAt 0 ≠ .back ∨ ∃ j, 1 ≤ j ∧ j ≤ 3 ∧ j ≠ m ∧ (s.switchAt g).phaseAt j = .clip) :
    (s.enterBack g m lane).endIfBack g e = s.enterBack g m lane := by
  refine State.endIfBack_stays (h.imp (fun forward => ?_) ?_)
  · rwa [State.enterBack_phaseAt_other hg other.symm]
  · rintro ⟨j, hj, hj', hne, inClip⟩
    exact ⟨j, hj, hj', (State.enterBack_phaseAt_other hg hne).trans inClip⟩

/-! A record of the leader (R144, R145). -/

/-- The state in which the leader has switched out at a record, before the end condition is asked (R145). -/
def State.leaderOut (s : State) (g e : Nat) (r : Record) : State :=
  ((s.setEvent e { s.eventAt e with pOut := some r.nominal }).setSwitch g
    { s.switchAt g with pOut := some r.nominal }).enterBack g 0 r.outLane

/-- The switch state of a group whose leader has switched out at a record (R145). -/
def SwitchState.leaderOut (w : SwitchState) (r : Record) : SwitchState :=
  { w with pOut := some r.nominal, phases := setRow w.phases 0 .back }

theorem SwitchState.phaseAt_leaderOut (w : SwitchState) (r : Record) (j : Nat) :
    (w.leaderOut r).phaseAt j = if 0 = j ∧ j < 4 then .back else w.phaseAt j := rowAt_setRow _ _ _ _ _

theorem SwitchState.phaseAt_leaderOut_member (w : SwitchState) (r : Record) {j : Nat} (hj : 1 ≤ j) :
    (w.leaderOut r).phaseAt j = w.phaseAt j := by
  rw [SwitchState.phaseAt_leaderOut, if_neg (by omega)]

theorem State.onLeader_clip (hphase : (s.switchAt g).phaseAt 0 = .clip) :
    s.onLeader g e r =
      if r.qualifies && r.nominal.noEarlier (s.eventAt e).threshold then ((s.leaderOut g e r).endIfBack g e, .passed)
      else s.replaceRecord e 0 := by
  simp only [State.onLeader, hphase]
  rfl

theorem State.onLeader_back (hphase : (s.switchAt g).phaseAt 0 = .back) : s.onLeader g e r = (s, .passed) := by
  simp only [State.onLeader, hphase]

theorem State.leaderOut_eventAt (he : e < 32) : (s.leaderOut g e r).eventAt e = { s.eventAt e with pOut := some r.nominal } :=
  (State.eventAt_setEvent s e e _).trans (if_pos ⟨rfl, he⟩)

theorem State.leaderOut_switchAt (hg : g < 16) : (s.leaderOut g e r).switchAt g = (s.switchAt g).leaderOut r := by
  rw [State.leaderOut, State.enterBack_eq_enters, State.enters_switchAt hg, State.switchAt_setSwitch, if_pos ⟨rfl, hg⟩]
  rfl

theorem State.leaderOut_owes (hlane : r.outLane < 1024) : (s.leaderOut g e r).owes r.outLane = true := State.enters_owes hlane

theorem State.leaderOut_endIfBack_ends (hg : g < 16) (he : e < 32)
    (none_in : ∀ j, 1 ≤ j → j ≤ 3 → (s.switchAt g).phaseAt j ≠ .clip) :
    (s.leaderOut g e r).endIfBack g e = (s.leaderOut g e r).endSplice e .done (s.eventAt e).ownCause := by
  have cause : ((s.leaderOut g e r).eventAt e).ownCause = (s.eventAt e).ownCause := by rw [State.leaderOut_eventAt he]; rfl
  rw [← cause]
  refine State.endIfBack_ends ?_ fun j hj hj' => ?_ <;> rw [State.leaderOut_switchAt hg]
  · exact (SwitchState.phaseAt_leaderOut ..).trans (if_pos (by decide))
  · rw [SwitchState.phaseAt_leaderOut_member _ _ hj]
    exact none_in j hj hj'

theorem State.leaderOut_endIfBack_stays (hg : g < 16) (some_in : ∃ j, 1 ≤ j ∧ j ≤ 3 ∧ (s.switchAt g).phaseAt j = .clip) :
    (s.leaderOut g e r).endIfBack g e = s.leaderOut g e r := by
  obtain ⟨j, hj, hj', inClip⟩ := some_in
  refine State.endIfBack_stays (.inr ⟨j, hj, hj', ?_⟩)
  rw [State.leaderOut_switchAt hg, SwitchState.phaseAt_leaderOut_member _ _ hj, inClip]

/-- The end condition, met or not, keeps the event's point of switch-out (R147, R152). -/
theorem State.endIfBack_pOut (s : State) (g e k : Nat) : ((s.endIfBack g e).eventAt k).pOut = (s.eventAt k).pOut := by
  obtain ends | stays := s.endIfBack_eq_or g e
  · rw [ends, State.endSplice_eventAt]
    split
    case isTrue h => obtain ⟨rfl, -⟩ := h; rfl
    case isFalse => rfl
  · rw [stays]

/-- The end condition, met or not, keeps the lanes owed (R147, R152). -/
theorem State.endIfBack_owes (g e : Nat) (hlane : lane < 1024) (h : s.owes lane = true) :
    (s.endIfBack g e).owes lane = true := by
  obtain ends | stays := s.endIfBack_eq_or g e
  · rw [ends]
    exact (State.endSplice_owes s e _ _ hlane).2 (.inl h)
  · rwa [stays]

/-- The threshold is the out-time, or the return time where one is requested and earlier (R144). -/
theorem EventRecord.threshold_eq {v : EventRecord} {t : Time}
    (h : (v.returnRequested = false ∧ t = v.given.outTime) ∨
      ∃ x, v.returnRequested = true ∧ v.returnTime = some x ∧
        t = if x.earlier v.given.outTime then x else v.given.outTime) : v.threshold = t := by
  obtain ⟨unasked, rfl⟩ | ⟨x, asked, back, rfl⟩ := h
  · simp only [EventRecord.threshold, unasked]
  · simp only [EventRecord.threshold, asked, back]

end

/-- Settles O33, by the member's phase and the record against the leader's two points. -/
theorem recordOfASplicedMember : Obligations.RecordOfASplicedMember := by
  intro s r g m e hplace hspliced hactive hm hm' w count entered inn out
  have hg := State.lt_of_active hactive
  have clip : s.enterClip g m r.outLane = inn := rfl
  have back : s.enterBack g m r.outLane = out := rfl
  have handed : s.switchRecord r = s.onMember g e m r := by
    rw [State.switchRecord_spliced hplace hspliced hactive, if_neg (by omega)]
  have innAt : inn.switchAt g = w.enters m .clip (setRow w.lanes m (some r.outLane)) := State.enters_switchAt hg
  have outAt : out.switchAt g = w.enters m .back w.lanes := State.enters_switchAt hg
  rw [handed]
  refine ⟨fun _ hlane => ?_, fun _ hlane => ?_, fun waiting => ⟨State.onMember_waiting_passes waiting, ?_⟩,
    fun inClip => ⟨State.onMember_clip_leaderIn inClip, fun p hp => ?_⟩, State.onMember_back⟩
  · rw [innAt]
    exact ⟨w.phaseAt_enters_self (by omega), (rowAt_setRow _ _ _ _ _).trans (if_pos ⟨rfl, by omega⟩), State.enters_owes hlane,
      fun j hj => ⟨w.phaseAt_enters_other hj, (rowAt_setRow _ _ _ _ _).trans (if_neg fun h => hj h.1.symm)⟩⟩
  · rw [outAt]
    exact ⟨w.phaseAt_enters_self (by omega), rfl, State.enters_owes hlane, fun j hj => ⟨w.phaseAt_enters_other hj, rfl⟩⟩
  · intro p hout within hstart hin late
    rw [State.onMember_switchIn waiting hout within hstart hin late, clip]
    exact ⟨rfl, by simp, by simp⟩
  · have next : (⟨p.sec + 1, p.sub⟩ : Time) = p.addSeconds 1 := rfl
    rw [State.onMember_clip_leaderOut inClip hp, next]
    refine ⟨fun early => if_pos early, fun hstart late within => ?_, fun late leaves => ?_⟩
    · rw [if_neg (by simp [Time.noEarlier_iff.1 late]), if_neg (by simp [hstart, Time.noEarlier_eq_not_earlier, within])]
    · rw [if_neg (by simp [Time.noEarlier_iff.1 late]), if_pos (by simpa using leaves)]
      refine ⟨fun ⟨leader, none_in⟩ => ?_, fun remains => ?_⟩
      · rw [State.memberOut_ends hg (by omega) (by omega) leader none_in, back]
      · rw [State.memberOut_stays hg (by omega) remains, back]

/-- Settles O34, by the leader's phase, the record against the threshold, and the end condition. -/
theorem recordOfASplicedLeader : Obligations.RecordOfASplicedLeader := by
  intro s r g e hplace hspliced hactive hg he hlane hgroup w threshold hthreshold
  have handed : s.switchRecord r = s.onLeader g e r := (State.switchRecord_spliced hplace hspliced hactive).trans (if_pos rfl)
  rw [handed]
  refine ⟨State.onLeader_back, fun inClip => ?_⟩
  rw [State.onLeader_clip inClip, EventRecord.threshold_eq hthreshold]
  have event := State.leaderOut_eventAt (s := s) (g := g) (r := r) he
  have group : (s.leaderOut g e r).groupAt g = s.groupAt g := rfl
  have own : ((s.leaderOut g e r).eventAt e).given.group = g := by rw [event]; exact hgroup
  refine ⟨fun h => if_neg ?_, fun hstart hsafe late => ⟨_, if_pos (by simp [Record.qualifies, hstart, hsafe, late]),
    ?_, State.endIfBack_owes g e hlane (State.leaderOut_owes hlane), fun none_in => ?_, fun some_in => ?_⟩⟩
  · rw [Record.qualifies, Time.noEarlier_eq_not_earlier]
    obtain h | h | h := h <;> simp [h]
  · rw [State.endIfBack_pOut, event]
  · rw [State.leaderOut_endIfBack_ends hg he none_in, State.endSplice_eventAt, if_pos ⟨rfl, he⟩]
    refine ⟨rfl, rfl, ?_, (State.endSplice_switchAt ..).trans (if_pos ⟨own, hg⟩)⟩
    rw [State.endSplice_groupAt, if_pos ⟨own, hg⟩, group, if_pos hactive]
  · rw [State.leaderOut_endIfBack_stays hg some_in]
    exact ⟨event, group, State.leaderOut_switchAt hg⟩

end Sys2Proof.Machine

namespace Sys2Proof.Machine

/-! ### The monitor port and the taking of a command (R158 to R160, R164) -/

/-- MONITOR_CELL_SENT sends the head of the monitor queue under the count as it stands, and the next command at the head that is not
this part's leaves (R158, R164). -/
theorem execMonitorCellSent_cons {s : State} {m : MonitorCell} {rest : List MonitorCell} (h : s.control.monitor = m :: rest) :
    execMonitorCellSent s = .next (({ s with control := { s.control with
      monitor := rest, line := some (m.toCell s.control.count), count := s.control.count + 1 } } : State).discardForeign) := by
  unfold execMonitorCellSent
  rw [h]

/-- Settles O38, by the equation of the row on a monitor queue that holds a cell. -/
theorem monitorCellGoesOut : Obligations.MonitorCellGoesOut :=
  fun _ _ _ h => execMonitorCellSent_cons h

section
variable {s : State} {c : Command} {rest : List Command}

/-- This part's command at the head is due while the monitor queue has a free place (R158, R159). -/
theorem State.commandDue_eq_head (queue : s.control.queue = c :: rest) (ours : s.control.foreign c = false)
    (room : s.control.monitor.length < 16) : s.commandDue = some c := by
  unfold State.commandDue
  simp [queue, ours, room]

/-- No command is due while the monitor queue is full (R159). -/
theorem State.commandDue_eq_none_of_full (full : 16 ≤ s.control.monitor.length) : s.commandDue = none :=
  Option.eq_none_iff_forall_ne_some.2 fun _ due => Nat.not_lt.2 full (State.commandDue_room due)

theorem State.takeCommand_eq_self_of_full (full : 16 ≤ s.control.monitor.length) (name : CommandName)
    (body : Command → State → State) : s.takeCommand name body = .next s := by
  unfold State.takeCommand
  rw [State.commandDue_eq_none_of_full full]

/-- A due command is taken by the row of its name (R159). -/
theorem State.takeCommand_eq_checked {name : CommandName} {body : Command → State → State} (due : s.commandDue = some c)
    (code : commandOfCode c.code = some name) :
    s.takeCommand name body = .next (s.popCommand.checked name c body).discardForeign := by
  unfold State.takeCommand
  rw [due]
  exact if_pos code

/-- An addressed command of another epoch is refused, unless its name is exempt (R160). -/
theorem State.checked_badEpoch {name : CommandName} (body : Command → State → State) (addressed : c.address ≠ 0xFFFF)
    (notExempt : name.epochExempt = false) (other : c.epoch ≠ s.control.epoch) :
    s.checked name c body = s.reply c .badEpoch [] :=
  if_pos (by simp [Command.addressed, addressed, notExempt, other])

/-- A network-only command of local origin that passes the epoch check is refused (R160). -/
theorem State.checked_notPermitted {name : CommandName} (body : Command → State → State)
    (epoch : c.address = 0xFFFF ∨ name.epochExempt = true ∨ c.epoch = s.control.epoch) (origin : c.origin = .localFeed)
    (network : name.networkOnly = true) : s.checked name c body = s.reply c .notPermitted [] := by
  have passes : ¬(c.addressed && !name.epochExempt && decide (c.epoch ≠ s.control.epoch)) = true := by
    obtain h | h | h := epoch <;> simp [Command.addressed, h]
  rw [State.checked, if_neg passes, if_pos (by simp [origin, network])]

end

/-- The row of each name of the catalogue takes a command of that name, behind the checks common to every command (R160). -/
theorem exec_row (name : CommandName) : ∃ body, ∀ s, exec name.row s = s.takeCommand name body := by
  cases name <;> exact ⟨_, fun _ => rfl⟩

/-- UNKNOWN replies to a due command whose code is not in the catalogue (R160). -/
theorem exec_unknown {s : State} {c : Command} (due : s.commandDue = some c) (code : commandOfCode c.code = none) :
    exec .unknown s = .next (s.answered c .unknown []) := by
  change execUnknown s = _
  unfold execUnknown
  simp only [due, code]
  rfl

theorem exec_unknown_eq_self_of_full {s : State} (full : 16 ≤ s.control.monitor.length) : exec .unknown s = .next s := by
  change execUnknown s = _
  unfold execUnknown
  rw [State.commandDue_eq_none_of_full full]

end Sys2Proof.Machine

namespace Sys2Proof.Machine

/-! ### Fields at their places in a payload (R169) -/

/-- The bytes of a field stand in a payload from a position on. -/
def standsAt (p : List Byte) (at_ : Nat) (field : List Byte) : Prop := field <+: p.drop at_

section
variable {p field a b : List Byte} {j k n : Nat}

theorem standsAt.left (h : standsAt p k (a ++ b)) : standsAt p k a := List.IsPrefix.trans ⟨b, rfl⟩ h

theorem standsAt.right (h : standsAt p k (a ++ b)) : standsAt p (k + a.length) b := by
  have behind := List.IsPrefix.drop h a.length
  rwa [List.drop_left, List.drop_drop] at behind

theorem standsAt.drop (h : standsAt p k field) : standsAt (p.drop k) 0 field := h

theorem standsAt.append (h : standsAt p k field) (q : List Byte) : standsAt (p ++ q) k field := by
  rw [standsAt, List.drop_append]
  exact h.trans ⟨_, rfl⟩

/-- Of fields laid out one behind another, each stands where the widths of those before it end. -/
theorem standsAt_flatten {fields : List (List Byte)} {widths : List Nat} (hwidths : fields.map List.length = widths) {i : Nat}
    (hfield : fields[i]? = some field) (hplace : (widths.take i).sum = k) : standsAt fields.flatten k field := by
  obtain ⟨hlt, hat⟩ := List.getElem?_eq_some_iff.1 hfield
  subst hwidths hplace
  rw [standsAt, List.drop_sum_flatten, List.drop_eq_getElem_cons hlt, hat]
  exact ⟨_, rfl⟩

/-! A read inside a field reads the field. -/

theorem standsAt.read1_eq (h : standsAt p k field) (hj : j < field.length) : read1 p (k + j) = read1 field j := by
  obtain ⟨rest, h⟩ := h
  unfold read1
  rw [List.getD_eq_getElem?_getD, List.getD_eq_getElem?_getD, ← List.getElem?_drop, ← h, List.getElem?_append_left hj]

theorem standsAt.read2_eq (h : standsAt p k field) (hj : j + 1 < field.length) : read2 p (k + j) = read2 field j := by
  unfold read2
  rw [h.read1_eq (by omega), Nat.add_assoc, h.read1_eq hj]

theorem standsAt.read4_eq (h : standsAt p k field) (hj : j + 3 < field.length) : read4 p (k + j) = read4 field j := by
  unfold read4
  rw [h.read2_eq (by omega), Nat.add_assoc, h.read2_eq (by omega)]

/-! What is read where a number stands is the number, cut to its width. -/

theorem read1_bytes1 (n : Nat) : read1 (bytes1 n) 0 = n % 256 := BitVec.toNat_ofNat n 8

theorem read2_bytes2 (n : Nat) : read2 (bytes2 n) 0 = n % 65536 := by
  simp only [read2, read1, bytes2, List.getD_cons_zero, List.getD_cons_succ, BitVec.toNat_ofNat]
  omega

theorem read4_bytes4 (n : Nat) : read4 (bytes4 n) 0 = n % 4294967296 := by
  simp only [read4, read2, read1, bytes4, List.getD_cons_zero, List.getD_cons_succ, BitVec.toNat_ofNat]
  omega

theorem standsAt.read1_mod (h : standsAt p k (bytes1 n)) : read1 p k = n % 256 :=
  (h.read1_eq (j := 0) Nat.one_pos).trans (read1_bytes1 n)

theorem standsAt.read2_mod (h : standsAt p k (bytes2 n)) : read2 p k = n % 65536 :=
  (h.read2_eq (j := 0) Nat.one_lt_two).trans (read2_bytes2 n)

theorem standsAt.read4_mod (h : standsAt p k (bytes4 n)) : read4 p k = n % 4294967296 :=
  (h.read4_eq (j := 0) (Nat.lt_succ_self 3)).trans (read4_bytes4 n)

theorem standsAt.read1_number (h : standsAt p k (bytes1 n)) (hn : n < 256) : read1 p k = n :=
  h.read1_mod.trans (Nat.mod_eq_of_lt hn)

theorem standsAt.read2_number (h : standsAt p k (bytes2 n)) (hn : n < 65536) : read2 p k = n :=
  h.read2_mod.trans (Nat.mod_eq_of_lt hn)

theorem standsAt.read4_number (h : standsAt p k (bytes4 n)) (hn : n < 4294967296) : read4 p k = n :=
  h.read4_mod.trans (Nat.mod_eq_of_lt hn)

theorem standsAt.read1_flag {x : Bool} (h : standsAt p k (bytesFlag x)) : read1 p k = x.toNat :=
  h.read1_number (by cases x <;> decide)

theorem standsAt.readSecond_word {w : Word32} (h : standsAt p k (bytes4 w.toNat)) : readSecond p k = w := by
  rw [readSecond, h.read4_number w.isLt, BitVec.ofNat_toNat, BitVec.setWidth_eq]

theorem standsAt.readTrim_eq {t : Int} (h : standsAt p k (bytesTrim t)) (low : -500000 ≤ t) (high : t ≤ 500000) :
    readTrim p k = t := by
  rw [readTrim, standsAt.readSecond_word h, BitVec.toInt_ofInt_eq_self] <;> omega

/-- A plan within the law of R54 fits the widths of its items. -/
theorem standsAt.readPlan_eq {q : Plan} (h : standsAt p 0 (bytesPlan q)) (law : q.law) : readPlan p = q := by
  obtain ⟨hold, _, slots⟩ := law
  have first : read4 p 0 = q.hold := h.left.left.read4_number (by omega)
  have second : read2 p 4 = q.slots := h.left.right.read2_number (by omega)
  have third : readSecond p 6 = q.eff := h.right.readSecond_word
  rw [readPlan, first, second, third]

theorem standsAt.read1_presence {α : Type} {width : Nat} {layout : α → List Byte} {o : Option α}
    (h : standsAt p k (bytesOption width layout o)) : read1 p k = o.isSome.toNat := by
  cases o with
  | none => exact standsAt.read1_number (n := 0) (standsAt.left (a := [0]) h) (by decide)
  | some x => exact standsAt.read1_number (n := 1) (standsAt.left (a := [1]) h) (by decide)

theorem standsAt.item {α : Type} {width : Nat} {layout : α → List Byte} {x : α}
    (h : standsAt p k (bytesOption width layout (some x))) : standsAt p (k + 1) (layout x) :=
  standsAt.right (a := [1]) h

theorem length_bytesOption {α : Type} {width : Nat} {layout : α → List Byte} (hlayout : ∀ x, (layout x).length = width)
    (o : Option α) : (bytesOption width layout o).length = width + 1 := by
  cases o <;> simp [bytesOption, hlayout]

end

end Sys2Proof.Machine

namespace Sys2Proof.Machine

/-! ### The head of a reply (R162, R169) -/

theorem read1_lt (p : List Byte) (k : Nat) : read1 p k < 256 := (p.getD k 0).isLt

theorem read2_lt (p : List Byte) (k : Nat) : read2 p k < 65536 := by
  have high := read1_lt p k
  have low := read1_lt p (k + 1)
  unfold read2
  omega

theorem padPayload_eq {bytes : List Byte} (h : bytes.length ≤ 128) :
    padPayload bytes = bytes ++ List.replicate (128 - bytes.length) 0 := by
  rw [padPayload, List.take_append, List.take_of_length_le h, List.take_replicate, Nat.min_eq_left (Nat.sub_le ..)]

/-- The fields of a reply's head in their order (R162, R169). -/
def replyHead (c : Command) (result : Result) (epoch : Word32) (site : BitVec 16) : List (List Byte) :=
  [bytes1 2, bytes1 c.code, bytes2 c.tag, bytes2 site.toNat, bytes4 epoch.toNat, bytes1 result.code, bytes1 0]

section
variable {c : Command} {result : Result} {epoch : Word32} {site : BitVec 16} {data field : List Byte}

theorem length_replyHead_flatten : (replyHead c result epoch site).flatten.length = 12 := rfl

/-- A reply is its head, its data, and zero bytes up to the end of the payload (R162, R169). -/
theorem replyPayload_eq (h : data.length ≤ 116) : replyPayload c result epoch site data =
    (replyHead c result epoch site).flatten ++ (data ++ List.replicate (116 - data.length) 0) := by
  have length : ((replyHead c result epoch site).flatten ++ data).length = 12 + data.length := by
    rw [List.length_append, length_replyHead_flatten]
  have unpadded : replyPayload c result epoch site data = padPayload ((replyHead c result epoch site).flatten ++ data) := rfl
  rw [unpadded, padPayload_eq (by omega), length, List.append_assoc, Nat.sub_add_eq]

theorem replyPayload_standsAt (h : data.length ≤ 116) {i k : Nat} (hfield : (replyHead c result epoch site)[i]? = some field)
    (hplace : ([1, 1, 2, 2, 4, 1, 1].take i).sum = k) : standsAt (replyPayload c result epoch site data) k field := by
  rw [replyPayload_eq h]
  exact (standsAt_flatten (widths := [1, 1, 2, 2, 4, 1, 1]) rfl hfield hplace).append _

end

/-- The result codes of R169. -/
theorem Result.code_mem (r : Result) : (r.code, r) ∈ ([(0, .ok), (1, .partialLoad), (2, .badEpoch), (3, .notPermitted),
    (4, .badArgument), (5, .wrongState), (6, .inUse), (7, .overlap), (8, .tooSoon), (9, .noEntry), (10, .notInStep), (11, .noPlan),
    (12, .checkFailed), (13, .unknown)] : List (Nat × Result)) := by
  cases r <;> decide

theorem Result.code_lt (r : Result) : r.code < 256 := by
  cases r <;> decide

/-- The catalogue of R160 with the codes of R169. -/
def catalogue : List (Nat × CommandName) :=
  [(0x01, .status), (0x02, .stats), (0x03, .restart), (0x10, .laneMapLoad), (0x11, .laneMapRead), (0x12, .groupSet),
    (0x13, .watchSet), (0x20, .siteSet), (0x21, .clockSet), (0x22, .partition), (0x30, .emitStart), (0x31, .emitStop),
    (0x40, .clipOpen), (0x41, .clipClose), (0x42, .clipRemove), (0x43, .clipQuery), (0x50, .spliceAdd), (0x51, .spliceCancel),
    (0x52, .spliceQuery)]

theorem commandOfCode_eq_some_iff {code : Nat} {name : CommandName} :
    commandOfCode code = some name ↔ (code, name) ∈ catalogue := by
  have named : ∀ entry ∈ catalogue, commandOfCode entry.1 = some entry.2 := by decide
  refine ⟨fun h => ?_, named _⟩
  unfold commandOfCode at h
  split at h <;> cases h <;> decide

theorem ControlUnit.foreign_iff {u : ControlUnit} {c : Command} :
    u.foreign c = true ↔ c.recordType ≠ 1 ∨ (c.address ≠ u.site.toNat ∧ c.address ≠ 0xFFFF) := by
  simp only [ControlUnit.foreign, Bool.or_eq_true, Bool.and_eq_true, decide_eq_true_eq]

/-- Settles O39: the catalogue code by code, the arguments at their bytes, a reply's head field by field, and the rows of the
catalogue all at once by what each has in common. -/
theorem commandsAreChecked : Obligations.CommandsAreChecked := by
  refine ⟨fun code name => commandOfCode_eq_some_iff, fun c u => ?_, fun c result epoch site data h => ?_, fun name => ?_,
    fun s c rest queue ours => ⟨fun room => ?_, fun full => ⟨exec_unknown_eq_self_of_full full, fun name => ?_⟩⟩⟩
  · exact ⟨rfl, rfl, rfl, ControlUnit.foreign_iff, rfl, rfl, rfl, rfl, rfl, rfl, rfl, rfl, rfl, rfl, rfl, rfl, rfl, rfl, rfl, rfl,
      rfl, rfl, rfl, rfl⟩
  · have resultCode : read1 (replyPayload c result epoch site data) 10 = result.code :=
      (replyPayload_standsAt h (i := 5) rfl rfl).read1_number result.code_lt
    refine ⟨?_, (replyPayload_standsAt h (i := 0) rfl rfl).read1_mod,
      (replyPayload_standsAt h (i := 1) rfl rfl).read1_number (read1_lt ..),
      (replyPayload_standsAt h (i := 2) rfl rfl).read2_number (read2_lt ..),
      (replyPayload_standsAt h (i := 3) rfl rfl).read2_number site.isLt,
      (replyPayload_standsAt h (i := 4) rfl rfl).readSecond_word,
      (replyPayload_standsAt h (i := 6) rfl rfl).read1_mod, ?_, ?_, by rw [resultCode]; exact result.code_mem⟩
    · rw [replyPayload_eq h, List.length_append, List.length_append, length_replyHead_flatten, List.length_replicate]
      omega
    · rw [replyPayload_eq h, List.drop_left' length_replyHead_flatten, List.take_left]
    · rw [replyPayload_eq h, ← List.drop_drop, List.drop_left' length_replyHead_flatten, List.drop_left]
      exact fun b hb => List.eq_of_mem_replicate hb
  · cases name <;> decide
  · have due := State.commandDue_eq_head queue ours room
    refine ⟨exec_unknown due, fun name code => ?_⟩
    obtain ⟨body, row⟩ := exec_row name
    rw [row, State.takeCommand_eq_checked due code]
    refine ⟨fun addressed notExempt other => ?_, fun passes origin network => ?_⟩
    · rw [State.checked_badEpoch (s := s.popCommand) body addressed notExempt other, State.reply_answered]
    · rw [State.checked_notPermitted (s := s.popCommand) body passes origin network, State.reply_answered]
  · obtain ⟨body, row⟩ := exec_row name
    rw [row, State.takeCommand_eq_self_of_full full]

end Sys2Proof.Machine

namespace Sys2Proof.Machine

/-! ### STATUS (R46, R165) -/

/-- The number whose bits below `n` are those chosen, summed from the lowest bit up. -/
def bitSum (chosen : Nat → Prop) [DecidablePred chosen] (n : Nat) : Nat :=
  (List.range n).foldl (fun acc g => if chosen g then acc + 2 ^ g else acc) 0

section
variable (chosen : Nat → Prop) [DecidablePred chosen]

theorem bitSum_succ (n : Nat) : bitSum chosen (n + 1) = if chosen n then bitSum chosen n + 2 ^ n else bitSum chosen n := by
  simp only [bitSum, List.range_succ, List.foldl_append, List.foldl_cons, List.foldl_nil]

theorem bitSum_lt (n : Nat) : bitSum chosen n < 2 ^ n := by
  induction n with
  | zero => exact Nat.one_pos
  | succ n ih =>
    rw [bitSum_succ, Nat.pow_succ]
    split <;> omega

/-- Each bit is added above the sum of those before it, so it changes none of them. -/
theorem testBit_bitSum {n g : Nat} (hg : g < n) : (bitSum chosen n).testBit g = decide (chosen g) := by
  induction n with
  | zero => exact absurd hg (Nat.not_lt_zero g)
  | succ n ih =>
    have fresh : (bitSum chosen n).testBit n = false := Nat.testBit_lt_two_pow (bitSum_lt chosen n)
    rw [bitSum_succ]
    obtain lower | rfl := Nat.lt_succ_iff_lt_or_eq.1 hg
    · split
      · rw [Nat.add_comm, Nat.testBit_two_pow_add_gt lower, ih lower]
      · exact ih lower
    · split <;> rename_i h
      · rw [Nat.add_comm, Nat.testBit_two_pow_add_eq, fresh, decide_eq_true h, Bool.not_false]
      · rw [fresh, decide_eq_false h]

end

theorem State.splicedSet_eq_bitSum (s : State) : s.splicedSet = bitSum (fun g => (s.groupAt g).state = .spliced) 16 := rfl

/-- Group g stands at bit g of the set of SPLICED groups (R46). -/
theorem State.splicedSet_testBit (s : State) {g : Nat} (hg : g < 16) :
    s.splicedSet.testBit g = decide ((s.groupAt g).state = .spliced) := by
  rw [State.splicedSet_eq_bitSum, testBit_bitSum _ hg]

theorem ClockState.code_lt (x : ClockState) : x.code < 256 := by
  cases x <;> decide

theorem EmitterState.code_lt (x : EmitterState) : x.code < 256 := by
  cases x <;> decide

theorem PendingChange.code_lt (x : PendingChange) : x.code < 256 := by
  cases x <;> decide

theorem Delineation.code_lt (x : Delineation) : x.code < 256 := by
  cases x <;> decide

/-- The items of a STATUS reply in their order (R165). -/
def State.statusItems (s : State) : List (List Byte) :=
  [bytes1 s.clock.state.code, bytesFlag s.clock.inStep, bytes4 s.clock.second.toNat, bytesFlag s.clock.secondValid,
    bytes4 s.clock.subsecond, bytes2 s.clock.hold, bytesOption 10 bytesPlan s.plan.current, bytesOption 10 bytesPlan s.plan.pending,
    bytesFlag s.plan.stale, bytesTrim s.plan.trim, bytes2 s.emitter.lateAllowance, bytes1 s.clock.window, bytes2 s.clock.limit,
    bytes1 s.emitter.state.code, bytes1 s.emitter.change.code, bytes4 s.queue.length, bytes1 s.store.setting,
    bytes2 s.store.free.length, bytes1 s.nf.delineation.code, bytes1 s.lf.delineation.code, bytes1 s.control.queue.length,
    bytesFlag s.control.noticesLost, bytes2 s.splicedSet, bytes4 s.control.epoch.toNat, bytes2 s.control.site.toNat]

/-- The widths of the items of a STATUS reply (R169). -/
def statusWidths : List Nat := [1, 1, 4, 1, 4, 2, 11, 11, 1, 4, 2, 1, 2, 1, 1, 4, 1, 2, 1, 1, 1, 1, 2, 4, 2]

section
variable (s : State)

theorem State.statusData_eq_flatten : s.statusData = s.statusItems.flatten := by
  unfold State.statusData State.stampBytes State.statusItems
  simp only [List.flatten_cons, List.flatten_nil, List.append_nil, List.append_assoc]

theorem State.statusItems_widths : s.statusItems.map List.length = statusWidths := by
  have plan := length_bytesOption (width := 10) (layout := bytesPlan) fun _ => rfl
  simp only [State.statusItems, List.map_cons, plan]
  rfl

theorem State.length_statusData : s.statusData.length = 66 := by
  rw [State.statusData_eq_flatten, List.length_flatten, State.statusItems_widths]
  rfl

theorem State.statusData_standsAt {i k : Nat} {field : List Byte} (hfield : s.statusItems[i]? = some field)
    (hplace : (statusWidths.take i).sum = k) : standsAt s.statusData k field := by
  rw [State.statusData_eq_flatten]
  exact standsAt_flatten s.statusItems_widths hfield hplace

end

/-- STATUS, granted, replies with its report and clears the notices-lost flag (R165). -/
theorem exec_status {s : State} {c : Command} (h : s.grants .status c) :
    exec .status s = .next { s with control := { s.control with
      queue := s.control.queue.tail.dropWhile s.control.foreign
      monitor := s.control.monitor ++ [s.replyCell c .ok s.popCommand.statusData]
      gapOwed := false
      noticesLost := false } } :=
  State.takeCommand_granted statusBody h

/-- Settles O40, item by item: each stands where the widths of the items before it end. -/
theorem statusReports : Obligations.StatusReports := by
  intro s c h
  have item {i k : Nat} {field : List Byte} := s.popCommand.statusData_standsAt (i := i) (k := k) (field := field)
  refine ⟨_, s.popCommand.statusData, exec_status h, rfl, s.popCommand.length_statusData,
    (item (i := 0) rfl rfl).read1_number s.clock.state.code_lt, (item (i := 1) rfl rfl).read1_flag,
    (item (i := 2) rfl rfl).readSecond_word, (item (i := 3) rfl rfl).read1_flag,
    fun hsub => (item (i := 4) rfl rfl).read4_number (Nat.lt_trans hsub (by decide)),
    (item (i := 5) rfl rfl).read2_number,
    (item (i := 6) rfl rfl).read1_presence, fun p hp law => ?_,
    (item (i := 7) rfl rfl).read1_presence, fun p hp law => ?_,
    (item (i := 8) rfl rfl).read1_flag, (item (i := 9) rfl rfl).readTrim_eq,
    (item (i := 10) rfl rfl).read2_number, (item (i := 11) rfl rfl).read1_number, (item (i := 12) rfl rfl).read2_number,
    (item (i := 13) rfl rfl).read1_number s.emitter.state.code_lt,
    (item (i := 14) rfl rfl).read1_number s.emitter.change.code_lt,
    (item (i := 15) rfl rfl).read4_number, (item (i := 16) rfl rfl).read1_number, (item (i := 17) rfl rfl).read2_number,
    (item (i := 18) rfl rfl).read1_number s.nf.delineation.code_lt,
    (item (i := 19) rfl rfl).read1_number s.lf.delineation.code_lt, fun waiting => ?_,
    (item (i := 21) rfl rfl).read1_flag, fun g hg => ?_, (item (i := 23) rfl rfl).readSecond_word,
    (item (i := 24) rfl rfl).read2_number s.control.site.isLt⟩
  · have current : standsAt s.popCommand.statusData 13 (bytesOption 10 bytesPlan (some p)) := hp ▸ item (i := 6) rfl rfl
    exact current.item.drop.readPlan_eq law
  · have pending : standsAt s.popCommand.statusData 24 (bytesOption 10 bytesPlan (some p)) := hp ▸ item (i := 7) rfl rfl
    exact pending.item.drop.readPlan_eq law
  · have others : s.popCommand.control.queue.length = s.control.queue.length - 1 := List.length_tail
    exact ((item (i := 20) rfl rfl).read1_number (by omega)).trans others
  · have spliced : read2 s.popCommand.statusData 58 = s.splicedSet % 2 ^ 16 := (item (i := 22) rfl rfl).read2_mod
    rw [spliced, Nat.testBit_mod_two_pow, decide_eq_true hg, Bool.true_and, State.splicedSet_testBit s hg]

end Sys2Proof.Machine

namespace Sys2Proof.Machine

/-! ### A step, by the queue of waiting commands -/

theorem step_of_pending_cons {s : State} {i : Instr} {rest : List Instr} (front : s.pending = i :: rest) :
    step s = exec i { s with pending := rest } := by
  rw [step, front]

theorem step_of_pending_nil {s : State} (idle : s.pending = []) : step s = .next s := by
  rw [step, idle]

/-- Settles O1, by the two forms of the queue. -/
theorem stepRunsTheFrontCommand : Obligations.StepRunsTheFrontCommand :=
  fun _ => ⟨fun _ _ => step_of_pending_cons, step_of_pending_nil⟩

end Sys2Proof.Machine
